-- ==== Sys2Proof/Word.lean ====
section
/-! DEFINITION. The word types of Nelvo: bytes, 32-bit words, 64-bit double words and TIME. -/

namespace Sys2Proof

/-- One byte (R10: memory is byte addressed, values little-endian). -/
abbrev Byte := BitVec 8
/-- One 32-bit word: a control register, a port, an address. -/
abbrev Word := BitVec 32
/-- One 64-bit value. -/
abbrev Dword := BitVec 64
/-- TIME, a 64-bit count of 10 ns ticks (R69). -/
abbrev Time := BitVec 64
/-- A string of bytes, first byte first. -/
abbrev Bytes := List Byte
/-- One of the 12 Gytra lanes (R15). -/
abbrev Lane := Fin 12
/-- A virtual channel of a lane (R406). -/
abbrev Vc := Fin 8

end Sys2Proof
end

