-- ==== Sys2Proof/Syntax.lean ====
section
/-! DEFINITION. The commands of Nelvo: one constructor of `Instr` for each row of spec/opcode_table.json, and the types
of their operands. The table gives no operands and no bits; the operands are those the row's rule names (notes/assumptions/2.md). -/

namespace Sys2Proof

/-- Who makes a control-register access (R592, R593). -/
inductive Requester where
  | keystone | debugger | host
  deriving DecidableEq, Repr, Inhabited

/-- A context: the keystone, or one of the 1,024 casks (R211, ch. 07). -/
inductive Ctx where
  | keystone
  | cask (n : BitVec 10)
  deriving DecidableEq, Repr, Inhabited

/-- A page of BAR2: a context's page or the device page (R543). -/
inductive PageId where
  | ctx (c : Ctx)
  | device
  deriving DecidableEq, Repr, Inhabited

/-- The WIDTH field of a move (R128), also the size of a host access. -/
inductive Width where
  | word | half | byteS | byteU
  deriving DecidableEq, Repr, Inhabited

/-- The latches of the VBAT domain (R120). -/
inductive VbatLatch where
  | mesh | light | temp | vbatLost
  deriving DecidableEq, Repr, Inhabited

/-- The path a protocol v1 frame arrives on (R552, R559). -/
inductive HostVia where
  | pcie | spi | i2c
  deriving DecidableEq, Repr, Inhabited

/-- The contents of a service request block but for its OP, which the command names (R283). -/
structure Req where
  typ    : Byte := 0
  policy : Byte := 0
  line   : BitVec 5 := 0
  arg0   : Word := 0
  arg1   : Word := 0
  arg2   : Word := 0
  deriving DecidableEq, Repr, Inhabited

/-- A received data packet that has passed R414, but for its TYPE (and for MGMT its MCODE), which the command names (R412, R447). -/
structure Pkt where
  vc   : Vc := 0
  seq  : BitVec 12 := 0
  addr : Byte := 0
  tag  : BitVec 16 := 0
  body : Bytes := []
  deriving DecidableEq, Repr, Inhabited

/-- A received span message but for its MTYPE, which the command names (R514). -/
structure SpanMsg where
  src   : Byte := 0
  dst   : Byte := 0
  ttl   : Byte := 0
  epoch : Word := 0
  mseq  : Word := 0
  body  : Bytes := []
  mac   : Bytes := []
  deriving DecidableEq, Repr, Inhabited

/-- A protocol v1 command frame but for its CMD, which the command names (R552). -/
structure V1Frame where
  target  : BitVec 16 := 0x7FF
  seq     : BitVec 16 := 0
  payload : Bytes := []
  deriving DecidableEq, Repr, Inhabited

/-- The commands Nelvo takes, in the table's order; each docstring names its row and rule. [DEDUCED, log 2] -/
inductive Instr where
  /-- REGISTER_WRITE (R4). -/
  | registerWrite (who : Requester) (addr value : Word)
  /-- TAP_IDCODE (R60). -/
  | tapIdcode
  /-- TAP_BYPASS (R60). -/
  | tapBypass (opcode : Byte)
  /-- TAP_SAMPLE_PRELOAD (R40). -/
  | tapSamplePreload (bits : List Bool)
  /-- TAP_EXTEST (R41). -/
  | tapExtest (bits : List Bool)
  /-- TAP_LC_STATUS (R60). -/
  | tapLcStatus
  /-- LC_PROVISION (R34). -/
  | lcProvision (digests : BitVec 4096)
  /-- LC_TOKEN (R36). -/
  | lcToken (dr : BitVec 264)
  /-- LC_LOCK (R34). -/
  | lcLock
  /-- LC_PERSONALISE (R34). -/
  | lcPersonalise (digest : BitVec 384)
  /-- LC_SCRAP (R35). -/
  | lcScrap
  /-- DBG_CERT (R46). -/
  | dbgCert (cert : List Byte)
  /-- CERT_VERIFY_DONE (R47). -/
  | certVerifyDone
  /-- DEBUG_SESSION_EXPIRY (R50). -/
  | debugSessionExpiry
  /-- DBG_CLOSE (R50). -/
  | dbgClose
  /-- DBG_ACCESS_READ (R44). -/
  | dbgAccessRead (target : BitVec 11) (addr : Word)
  /-- DBG_ACCESS_WRITE (R44). -/
  | dbgAccessWrite (target : BitVec 11) (addr data : Word)
  /-- DBG_ACCESS_HALT (R43). -/
  | dbgAccessHalt (target : BitVec 11) (addr : Word)
  /-- DBG_ACCESS_RESUME (R40). -/
  | dbgAccessResume (target : BitVec 11) (addr data : Word)
  /-- DBG_CTRL_ADVANCE (R63). -/
  | dbgCtrlAdvance
  /-- DBG_CTRL_CLOSE (R63). -/
  | dbgCtrlClose
  /-- DBG_CTRL_PRESENT (R63). -/
  | dbgCtrlPresent
  /-- LCS_CMD_ANALYSIS (R34). -/
  | lcsCmdAnalysis
  /-- LCS_CMD_SCRAP (R34). -/
  | lcsCmdScrap
  /-- WIPE_CHUNK_ERASE_DONE (R52). -/
  | wipeChunkEraseDone
  /-- POWER_ON_RESET (R574). -/
  | powerOnReset (bank33 : BitVec 4)
  /-- REFCLK_ARRIVAL (R83). -/
  | refclkArrival
  /-- CORE_PLL_LOCK (R79). -/
  | corePllLock
  /-- CLOCK_BASELINE_DONE (R101). -/
  | clockBaselineDone
  /-- BOOT_SEQUENCE (R79). -/
  | bootSequence (pufOk rngOk : Bool)
  /-- RESETN_ASSERT (R85). -/
  | resetnAssert
  /-- PWR_CMD_COLD (R84). -/
  | pwrCmdCold
  /-- PWR_CMD_WARM (R84). -/
  | pwrCmdWarm
  /-- WIND_DOWN_END (R110). -/
  | windDownEnd
  /-- WATCHDOG_EXPIRY (R87). -/
  | watchdogExpiry
  /-- PWR_WDOG_KICK (R87). -/
  | pwrWdogKick (value : Word)
  /-- PWR_CMD_ACTIVE (R89). -/
  | pwrCmdActive
  /-- PWR_CMD_IDLE (R89). -/
  | pwrCmdIdle
  /-- PWR_CMD_HOLD (R89). -/
  | pwrCmdHold
  /-- PWR_CMD_SLEEP (R89). -/
  | pwrCmdSleep
  /-- PWR_CMD_OFF (R91). -/
  | pwrCmdOff
  /-- POWER_CHANGE_DONE (R91). -/
  | powerChangeDone
  /-- WAKE_TIME_REACHED (R93). -/
  | wakeTimeReached (now : Time)
  /-- GPIO_WAKE_EDGE (R93). -/
  | gpioWakeEdge (pin : Fin 16) (rising : Bool)
  /-- SPI_CS_WAKE (R563). -/
  | spiCsWake
  /-- I2C_ADDRESS_WAKE (R563). -/
  | i2cAddressWake
  /-- PCIE_L1_EXIT (R563). -/
  | pcieL1Exit
  /-- MAIN_POWER_LOSS (R96). -/
  | mainPowerLoss
  /-- CLK_FORCE_OFF_WRITE (R77). -/
  | clkForceOffWrite (reg : Fin 9) (value : Word)
  /-- FORCE_OFF_DONE (R78). -/
  | forceOffDone (dom : Fin 264)
  /-- CLOCK_DOMAIN_IDLE (R75). -/
  | clockDomainIdle (dom : Fin 264)
  /-- SUPPLY_WINDOW_EVENT (R101). -/
  | supplyWindowEvent (supply : Fin 3)
  /-- VDDIO_WINDOW_EVENT (R101). -/
  | vddioWindowEvent (bank : Fin 4)
  /-- SUPPLY_GLITCH (R101). -/
  | supplyGlitch (supply : Fin 3)
  /-- CLOCK_MISSING (R113). -/
  | clockMissing
  /-- CLOCK_FREQUENCY_EVENT (R101). -/
  | clockFrequencyEvent
  /-- PLL_GLITCH (R101). -/
  | pllGlitch (lossOfLock : Bool)
  /-- LIGHT_EVENT (R101). -/
  | lightEvent (sensor : Fin 64)
  /-- TEMP_LIMIT_EVENT (R101). -/
  | tempLimitEvent (sensor : Fin 8) (reading : BitVec 16)
  /-- TEMP_WARNING (R102). -/
  | tempWarning (sensor : Fin 8) (reading : BitVec 16)
  /-- MESH_EVENT (R101). -/
  | meshEvent (line : Fin 16) (short : Bool)
  /-- L3_VAULT_ERASE_DONE (R114). -/
  | l3VaultEraseDone
  /-- COLD_HOLD_QUIET_TIMER (R118). -/
  | coldHoldQuietTimer
  /-- TAMP_CTRL_THAW (R104). -/
  | tampCtrlThaw
  /-- TAMP_CTRL_MAP_LOCK (R109). -/
  | tampCtrlMapLock
  /-- TAMP_CTRL_RAISE (R105). -/
  | tampCtrlRaise (level : BitVec 2)
  /-- TAMP_MAP_WRITE (R108). -/
  | tampMapWrite (value : Word)
  /-- ALARM_CLEAR (R123). -/
  | alarmClear
  /-- VBAT_LATCH_SET (R120). -/
  | vbatLatchSet (latch : VbatLatch)
  /-- TAMPER_LOG_WRITE (R125). -/
  | tamperLogWrite
  /-- MOVE_ISSUE (R131). -/
  | moveIssue (c : Ctx) (ecc0 ecc1 : Bool)
  /-- MACRO_MOVE (R205). -/
  | macroMove (c : Ctx) (src : BitVec 12) (index : BitVec 6) (rd : BitVec 5)
  /-- LOAD_DATA_ARRIVAL (R143). -/
  | loadDataArrival (c : Ctx) (ecc : Bool)
  /-- ALU_ADD (R166). -/
  | aluAdd (c : Ctx) (b : Word)
  /-- ALU_SUB (R166). -/
  | aluSub (c : Ctx) (b : Word)
  /-- ALU_ADDC (R166). -/
  | aluAddc (c : Ctx) (b : Word)
  /-- ALU_SUBB (R166). -/
  | aluSubb (c : Ctx) (b : Word)
  /-- ALU_AND (R166). -/
  | aluAnd (c : Ctx) (b : Word)
  /-- ALU_OR (R166). -/
  | aluOr (c : Ctx) (b : Word)
  /-- ALU_XOR (R166). -/
  | aluXor (c : Ctx) (b : Word)
  /-- ALU_ANDN (R166). -/
  | aluAndn (c : Ctx) (b : Word)
  /-- ALU_SHL (R166). -/
  | aluShl (c : Ctx) (b : Word)
  /-- ALU_SHR (R166). -/
  | aluShr (c : Ctx) (b : Word)
  /-- ALU_SAR (R166). -/
  | aluSar (c : Ctx) (b : Word)
  /-- ALU_ROR (R166). -/
  | aluRor (c : Ctx) (b : Word)
  /-- ALU_CLZ (R166). -/
  | aluClz (c : Ctx) (b : Word)
  /-- ALU_POPC (R166). -/
  | aluPopc (c : Ctx) (b : Word)
  /-- ALU_MIN (R166). -/
  | aluMin (c : Ctx) (b : Word)
  /-- ALU_MAX (R166). -/
  | aluMax (c : Ctx) (b : Word)
  /-- ALU_EQ (R167). -/
  | aluEq (c : Ctx) (b : Word)
  /-- ALU_NE (R167). -/
  | aluNe (c : Ctx) (b : Word)
  /-- ALU_LT (R167). -/
  | aluLt (c : Ctx) (b : Word)
  /-- ALU_LTU (R167). -/
  | aluLtu (c : Ctx) (b : Word)
  /-- ALU_GE (R167). -/
  | aluGe (c : Ctx) (b : Word)
  /-- ALU_GEU (R167). -/
  | aluGeu (c : Ctx) (b : Word)
  /-- ALU_BIT (R167). -/
  | aluBit (c : Ctx) (b : Word)
  /-- MUL_S (R168). -/
  | mulS (c : Ctx) (b : Word)
  /-- MUL_U (R168). -/
  | mulU (c : Ctx) (b : Word)
  /-- MUL_MACS (R169). -/
  | mulMacs (c : Ctx) (b : Word)
  /-- LSU_LD (R170). -/
  | lsuLd (c : Ctx) (w : Width) (b : Word)
  /-- LSU_ST (R172). -/
  | lsuSt (c : Ctx) (w : Width) (b : Word)
  /-- LSU_LDX (R170). -/
  | lsuLdx (c : Ctx) (w : Width) (b : Word)
  /-- LSU_STX (R170). -/
  | lsuStx (c : Ctx) (w : Width) (b : Word)
  /-- LSU_SWP (R171). -/
  | lsuSwp (c : Ctx) (b : Word)
  /-- LSU_CAS (R171). -/
  | lsuCas (c : Ctx) (b : Word)
  /-- BR_J (R174). -/
  | brJ (c : Ctx) (b : Word)
  /-- BR_CALL (R137). -/
  | brCall (c : Ctx) (b : Word)
  /-- BR_ERET (R160). -/
  | brEret (c : Ctx) (b : Word)
  /-- BR_REL (R174). -/
  | brRel (c : Ctx) (b : Word)
  /-- BR_CALLR (R174). -/
  | brCallr (c : Ctx) (b : Word)
  /-- EVT_WAIT (R176). -/
  | evtWait (c : Ctx) (b : Word)
  /-- EVT_WAITC (R175). -/
  | evtWaitc (c : Ctx) (b : Word)
  /-- EVT_CLR (R175). -/
  | evtClr (c : Ctx) (b : Word)
  /-- EVT_SEND (R249). -/
  | evtSend (c : Ctx) (b : Word)
  /-- EVT_WAIT_END (R253). -/
  | evtWaitEnd (c : Ctx)
  /-- TMR_UNTIL (R179). -/
  | tmrUntil (c : Ctx) (b : Word)
  /-- TMR_AFTER (R180). -/
  | tmrAfter (c : Ctx) (b : Word)
  /-- TMR_UNTIL64 (R180). -/
  | tmrUntil64 (c : Ctx) (b : Word)
  /-- TMR_ALRM (R180). -/
  | tmrAlrm (c : Ctx) (b : Word)
  /-- TIMED_WAIT_END (R182). -/
  | timedWaitEnd (c : Ctx) (now : Time)
  /-- TMR_ALARM_FIRE (R181). -/
  | tmrAlarmFire (c : Ctx) (now : Time)
  /-- RPT_GO (R184). -/
  | rptGo (c : Ctx) (b : Word)
  /-- RPT_CNT_WRITE (R183). -/
  | rptCntWrite (c : Ctx) (b : Word)
  /-- STR_COPY (R190). -/
  | strCopy (c : Ctx)
  /-- STR_COPYD (R190). -/
  | strCopyd (c : Ctx)
  /-- STR_FILL (R188). -/
  | strFill (c : Ctx)
  /-- STR_CMP (R189). -/
  | strCmp (c : Ctx)
  /-- STR_CMPCT (R194). -/
  | strCmpct (c : Ctx)
  /-- STR_SCAN (R189). -/
  | strScan (c : Ctx)
  /-- STRING_STEP (R191). -/
  | stringStep (c : Ctx) (n : Fin 8)
  /-- SYS_SYNC (R154). -/
  | sysSync (c : Ctx)
  /-- SYS_TRAP (R195). -/
  | sysTrap (c : Ctx) (b : Word)
  /-- SYS_YIELD (R195). -/
  | sysYield (c : Ctx)
  /-- SYS_CONSENT_WRITE (R43). -/
  | sysConsentWrite (c : Ctx) (b : Word)
  /-- CTR_READ (R196). -/
  | ctrRead (c : Ctx)
  /-- CTR_INC (R198). -/
  | ctrInc (c : Ctx) (b : Word)
  /-- CTR_OP_DONE (R306). -/
  | ctrOpDone (c : Ctx) (fault : Bool)
  /-- RNG_W_READ (R200). -/
  | rngWRead (c : Ctx) (rd : BitVec 5)
  /-- DEC_MAC_WRITE (R208). -/
  | decMacWrite (index : BitVec 6) (value : Word)
  /-- DEC_UCODE_WRITE (R209). -/
  | decUcodeWrite (entry : BitVec 10) (value : Word)
  /-- CASK_ENABLE (R228). -/
  | caskEnable
  /-- CASK_DISABLE (R267). -/
  | caskDisable
  /-- CASK_RESUME (R233). -/
  | caskResume
  /-- CASK_RESET (R268). -/
  | caskReset
  /-- CASK_WIPE (R267). -/
  | caskWipe
  /-- CASK_DRAIN_DONE (R271). -/
  | caskDrainDone (n : BitVec 10)
  /-- CASK_WIPE_ERASE_DONE (R271). -/
  | caskWipeEraseDone (n : BitVec 10)
  /-- BACKGROUND_ERASE_DONE (R297). -/
  | backgroundEraseDone
  /-- CASK_WIN_WRITE (R232). -/
  | caskWinWrite (offset : BitVec 9) (value : Word)
  /-- CASK_CTL_WRITE (R242). -/
  | caskCtlWrite (n : BitVec 10) (value : Word)
  /-- CONTEXT_SWAP_OUT_DONE (R236). -/
  | contextSwapOutDone (slot : Fin 64)
  /-- CONTEXT_SWAP_IN_DONE (R236). -/
  | contextSwapInDone (slot : Fin 64)
  /-- SCHED_WINDOW_START (R257). -/
  | schedWindowStart (now : Time)
  /-- SLICE_END (R260). -/
  | sliceEnd (slot : Fin 64)
  /-- VAULT_GENERATE (R286). -/
  | vaultGenerate (c : Ctx) (r : Req)
  /-- VAULT_IMPORT (R286). -/
  | vaultImport (c : Ctx) (r : Req)
  /-- VAULT_EXPORT (R286). -/
  | vaultExport (c : Ctx) (r : Req)
  /-- VAULT_DERIVE (R287). -/
  | vaultDerive (c : Ctx) (r : Req)
  /-- VAULT_DESTROY (R289). -/
  | vaultDestroy (c : Ctx) (r : Req)
  /-- VAULT_INFO (R286). -/
  | vaultInfo (c : Ctx) (r : Req)
  /-- VAULT_REQUEST_DONE (R284). -/
  | vaultRequestDone
  /-- PAGE_WRITE (R295). -/
  | pageWrite (c : Ctx) (r : Req)
  /-- PAGE_WRITE_DONE (R296). -/
  | pageWriteDone (ok : Bool)
  /-- NVM_ALLOC_SECT (R312). -/
  | nvmAllocSect (arg0 arg1 : Word)
  /-- NVM_ALLOC_CTR (R311). -/
  | nvmAllocCtr (arg0 arg1 : Word)
  /-- NVM_COMPLETE (R298). -/
  | nvmComplete
  /-- NVM_RAW_READ (R301). -/
  | nvmRawRead (arg0 : Word)
  /-- NVM_CTR_GEN (R313). -/
  | nvmCtrGen (arg0 : Word)
  /-- NVM_CMD_DONE (R313). -/
  | nvmCmdDone
  /-- VAULT_RETEST (R291). -/
  | vaultRetest
  /-- RNG_HEALTH_FAIL (R291). -/
  | rngHealthFail
  /-- RNG_RETEST_TIMER (R291). -/
  | rngRetestTimer (pass : Bool)
  /-- DRBG_RESEED (R290). -/
  | drbgReseed
  /-- CRY_CTR_ENCRYPT (R327). -/
  | cryCtrEncrypt (c : Ctx) (mode : Word)
  /-- CRY_CTR_DECRYPT (R327). -/
  | cryCtrDecrypt (c : Ctx) (mode : Word)
  /-- CRY_GCM_ENCRYPT (R327). -/
  | cryGcmEncrypt (c : Ctx) (mode : Word)
  /-- CRY_GCM_DECRYPT (R328). -/
  | cryGcmDecrypt (c : Ctx) (mode : Word)
  /-- CRY_XTS_ENCRYPT (R327). -/
  | cryXtsEncrypt (c : Ctx) (mode : Word)
  /-- CRY_XTS_DECRYPT (R327). -/
  | cryXtsDecrypt (c : Ctx) (mode : Word)
  /-- CRY_CMAC_GENERATE (R327). -/
  | cryCmacGenerate (c : Ctx) (mode : Word)
  /-- CRY_CMAC_VERIFY (R327). -/
  | cryCmacVerify (c : Ctx) (mode : Word)
  /-- CRY_KW_WRAP (R327). -/
  | cryKwWrap (c : Ctx) (mode : Word)
  /-- CRY_KW_UNWRAP (R328). -/
  | cryKwUnwrap (c : Ctx) (mode : Word)
  /-- CRY_KWP_WRAP (R327). -/
  | cryKwpWrap (c : Ctx) (mode : Word)
  /-- CRY_KWP_UNWRAP (R328). -/
  | cryKwpUnwrap (c : Ctx) (mode : Word)
  /-- CRY_CANCEL (R331). -/
  | cryCancel (c : Ctx)
  /-- PRESS_NONCE_RESERVED (R332). -/
  | pressNonceReserved (c : Ctx)
  /-- PRESS_STAGING_SLOT_FREE (R329). -/
  | pressStagingSlotFree
  /-- PRESS_BURST_LIMIT (R339). -/
  | pressBurstLimit (c : Ctx)
  /-- PRESS_JOB_DONE (R330). -/
  | pressJobDone (c : Ctx)
  /-- PRESS_PARITY_ERROR (R344). -/
  | pressParityError (pipe : Fin 16)
  /-- PRESS_PIPE_TEST_DONE (R346). -/
  | pressPipeTestDone (pipe : Fin 16) (pass : Bool)
  /-- LAT_IMPORT (R375). -/
  | latImport (c : Ctx) (op : Word)
  /-- LAT_EXPORT (R362). -/
  | latExport (c : Ctx) (op : Word)
  /-- LAT_FREE (R362). -/
  | latFree (c : Ctx) (op : Word)
  /-- LAT_COPY (R362). -/
  | latCopy (c : Ctx) (op : Word)
  /-- LAT_KEYGEN (R382). -/
  | latKeygen (c : Ctx) (op : Word)
  /-- LAT_ENCRYPT (R366). -/
  | latEncrypt (c : Ctx) (op : Word)
  /-- LAT_DECRYPT (R367). -/
  | latDecrypt (c : Ctx) (op : Word)
  /-- LAT_ADD (R362). -/
  | latAdd (c : Ctx) (op : Word)
  /-- LAT_SUB (R362). -/
  | latSub (c : Ctx) (op : Word)
  /-- LAT_NEG (R362). -/
  | latNeg (c : Ctx) (op : Word)
  /-- LAT_PADD (R362). -/
  | latPadd (c : Ctx) (op : Word)
  /-- LAT_PSUB (R362). -/
  | latPsub (c : Ctx) (op : Word)
  /-- LAT_PMUL (R362). -/
  | latPmul (c : Ctx) (op : Word)
  /-- LAT_CMUL (R362). -/
  | latCmul (c : Ctx) (op : Word)
  /-- LAT_MUL (R364). -/
  | latMul (c : Ctx) (op : Word)
  /-- LAT_ROTATE (R365). -/
  | latRotate (c : Ctx) (op : Word)
  /-- LAT_DROP (R363). -/
  | latDrop (c : Ctx) (op : Word)
  /-- LAT_REFRESH (R393). -/
  | latRefresh (c : Ctx) (op : Word)
  /-- LAT_CANCEL (R377). -/
  | latCancel (c : Ctx)
  /-- LAT_FUSED_STEP_END (R384). -/
  | latFusedStepEnd (lane : Fin 8)
  /-- LAT_JOB_DONE (R372). -/
  | latJobDone (c : Ctx)
  /-- VAT_ECC_ERROR (R377). -/
  | vatEccError (granule : Fin 2048)
  /-- LANE_FAULT (R387). -/
  | laneFault (lane : Fin 8)
  /-- LANE_TEST_DONE (R388). -/
  | laneTestDone (lane : Fin 8) (pass : Bool)
  /-- KEM_KEYGEN (R398). -/
  | kemKeygen (c : Ctx) (r : Req)
  /-- KEM_ENCAPS (R398). -/
  | kemEncaps (c : Ctx) (r : Req)
  /-- KEM_DECAPS (R399). -/
  | kemDecaps (c : Ctx) (r : Req)
  /-- DSA_KEYGEN (R398). -/
  | dsaKeygen (c : Ctx) (r : Req)
  /-- DSA_SIGN (R399). -/
  | dsaSign (c : Ctx) (r : Req)
  /-- DSA_VERIFY (R398). -/
  | dsaVerify (c : Ctx) (r : Req)
  /-- EC_KEYGEN (R398). -/
  | ecKeygen (c : Ctx) (r : Req)
  /-- EC_SIGN (R399). -/
  | ecSign (c : Ctx) (r : Req)
  /-- EC_VERIFY (R398). -/
  | ecVerify (c : Ctx) (r : Req)
  /-- EC_AGREE (R399). -/
  | ecAgree (c : Ctx) (r : Req)
  /-- PKE_REQUEST_DONE (R284). -/
  | pkeRequestDone
  /-- LINK_CFG_WRITE (R407). -/
  | linkCfgWrite (l : Lane) (value : Word)
  /-- LINK_CTRL_TRAIN (R426). -/
  | linkCtrlTrain (l : Lane)
  /-- LINK_CTRL_DOWN (R426). -/
  | linkCtrlDown (l : Lane)
  /-- LINK_CTRL_RETRAIN (R429). -/
  | linkCtrlRetrain (l : Lane)
  /-- LANE_CAL_DONE (R426). -/
  | laneCalDone (l : Lane)
  /-- LANE_LOCK (R426). -/
  | laneLock (l : Lane) (inverted : Bool)
  /-- TRAINING_SET (R428). -/
  | trainingSet (l : Lane) (set : BitVec 128)
  /-- LANE_TRAIN_TIMEOUT (R426). -/
  | laneTrainTimeout (l : Lane)
  /-- RETRAIN_ATTEMPT_TIMEOUT (R429). -/
  | retrainAttemptTimeout (l : Lane)
  /-- ACK (R419). -/
  | ack (l : Lane) (vc : Vc) (seq : BitVec 12)
  /-- NAK (R421). -/
  | nak (l : Lane) (vc : Vc) (seq : BitVec 12)
  /-- STAMP (R416). -/
  | stamp (l : Lane) (param : BitVec 16) (now : Time)
  /-- RETRAIN (R429). -/
  | retrain (l : Lane)
  /-- ACK_TIMER (R419). -/
  | ackTimer (l : Lane) (vc : Vc)
  /-- REPLAY_TIMER (R421). -/
  | replayTimer (l : Lane) (vc : Vc)
  /-- CREDIT_TIMEOUT (R424). -/
  | creditTimeout (l : Lane) (vc : Vc)
  /-- LNK_GO (R437). -/
  | lnkGo (c : Ctx)
  /-- LNK_CANCEL (R439). -/
  | lnkCancel (c : Ctx)
  /-- LNK_REQUEST_TIMEOUT (R438). -/
  | lnkRequestTimeout (c : Ctx)
  /-- RSP (R438). -/
  | rsp (l : Lane) (p : Pkt)
  /-- REQ (R425). -/
  | req (l : Lane) (p : Pkt)
  /-- PRESENCE_PULSE (R455). -/
  | presencePulse (l : Lane)
  /-- PASS_RESTART_TIMER (R453). -/
  | passRestartTimer (l : Lane)
  /-- DISCOVERY_START (R455). -/
  | discoveryStart (l : Lane)
  /-- SEARCH_SEQUENCE (R451). -/
  | searchSequence (l : Lane) (tiles : List Dword)
  /-- CONFIRM_SEQUENCE (R452). -/
  | confirmSequence (l : Lane) (reply : Byte)
  /-- UNSTABLE_RETRY_TIMER (R454). -/
  | unstableRetryTimer (l : Lane)
  /-- STUCK_LOW_DETECT (R456). -/
  | stuckLowDetect (l : Lane)
  /-- STUCK_LOW_CHECK (R456). -/
  | stuckLowCheck (l : Lane) (high : Bool)
  /-- ENUM_RSP (R458). -/
  | enumRsp (l : Lane) (p : Pkt)
  /-- PONG (R472). -/
  | pong (l : Lane) (p : Pkt)
  /-- LINK_CHANGE (R460). -/
  | linkChange (l : Lane) (p : Pkt)
  /-- AUTH_RESP (R463). -/
  | authResp (l : Lane) (p : Pkt)
  /-- AUTH_VERIFY_DONE (R463). -/
  | authVerifyDone (l : Lane) (addr : BitVec 6)
  /-- AUTH_DONE (R465). -/
  | authDone (l : Lane) (p : Pkt)
  /-- SENSE_RSP (R468). -/
  | senseRsp (l : Lane) (p : Pkt)
  /-- LIMIT_ACK (R470). -/
  | limitAck (l : Lane) (p : Pkt)
  /-- MGMT_TIMEOUT (R448). -/
  | mgmtTimeout (l : Lane) (addr : BitVec 6)
  /-- AUTH_RETRY_TIMER (R466). -/
  | authRetryTimer (l : Lane) (addr : BitVec 6)
  /-- TILE_CMD_DISCOVER (R476). -/
  | tileCmdDiscover (l : Lane)
  /-- TILE_CMD_FORGET (R476). -/
  | tileCmdForget (l : Lane)
  /-- TILE_CMD_REAUTH (R476). -/
  | tileCmdReauth (l : Lane) (addr : BitVec 6)
  /-- TILE_MAKER_WRITE (R476). -/
  | tileMakerWrite (m : Fin 8) (offset : BitVec 7) (value : Word)
  /-- LOOP_START (R467). -/
  | loopStart (n : BitVec 10) (r : Req)
  /-- LOOP_STOP (R467). -/
  | loopStop (n : BitVec 10) (r : Req)
  /-- LIMIT (R470). -/
  | limit (n : BitVec 10) (r : Req)
  /-- LOOP_TICK (R468). -/
  | loopTick (n : BitVec 10) (now : Time)
  /-- FRAME_CFG_WRITE (R478). -/
  | frameCfgWrite (value : Word)
  /-- FRAME_PERIOD_WRITE (R478). -/
  | framePeriodWrite (value : Word)
  /-- FRAME_BOUNDARY (R479). -/
  | frameBoundary (now : Time)
  /-- FRAME_IN_EDGE (R479). -/
  | frameInEdge (now : Time) (wide : Bool)
  /-- FRAME_IN_TIMEOUT (R479). -/
  | frameInTimeout (now : Time)
  /-- FRAME_DEADLINE (R497). -/
  | frameDeadline
  /-- REGION_WRITE (R484). -/
  | regionWrite (r : Byte) (offset : BitVec 6) (value : Word)
  /-- DATA_PACKET (R488). -/
  | dataPacket (l : Lane) (p : Pkt)
  /-- SEGMENT_DECRYPT_DONE (R490). -/
  | segmentDecryptDone
  /-- FACK (R500). -/
  | fack (l : Lane) (p : Pkt)
  /-- PLAY_COUNTER_COMMIT (R502). -/
  | playCounterCommit (r : Byte) (fault : Bool)
  /-- PLAY_TALLY_ADD (R502). -/
  | playTallyAdd (r : Byte)
  /-- FRM_APPLY (R508). -/
  | frmApply (c : Ctx)
  /-- FRM_FLUSH (R504). -/
  | frmFlush (c : Ctx)
  /-- FRM_READ (R507). -/
  | frmRead (c : Ctx)
  /-- SPAN_ENABLE (R512). -/
  | spanEnable
  /-- SPAN_DISABLE (R539). -/
  | spanDisable
  /-- HELLO (R516). -/
  | hello (l : Lane) (seq : BitVec 12) (m : SpanMsg)
  /-- HELLO_ACK (R516). -/
  | helloAck (l : Lane) (seq : BitVec 12) (m : SpanMsg)
  /-- HELLO_TIMEOUT (R516). -/
  | helloTimeout (l : Lane)
  /-- HELLO_RETRY_TIMER (R516). -/
  | helloRetryTimer (l : Lane)
  /-- ALIVE (R518). -/
  | alive (l : Lane) (seq : BitVec 12) (m : SpanMsg)
  /-- ALIVE_TIMER (R518). -/
  | aliveTimer
  /-- PEER_LOST_TIMEOUT (R518). -/
  | peerLostTimeout (peer : Fin 64)
  /-- STAMP_MEASURE_TIMER (R520). -/
  | stampMeasureTimer (now : Time)
  /-- TIME_RSP (R520). -/
  | timeRsp (l : Lane) (seq : BitVec 12) (m : SpanMsg)
  /-- TIME_RSP_TIMEOUT (R524). -/
  | timeRspTimeout
  /-- HOLDOVER_EXPIRY (R524). -/
  | holdoverExpiry
  /-- SCHEDULE (R526). -/
  | schedule (l : Lane) (seq : BitVec 12) (m : SpanMsg)
  /-- REPORT_REQ (R532). -/
  | reportReq (l : Lane) (seq : BitVec 12) (m : SpanMsg)
  /-- REPORT (R533). -/
  | report (l : Lane) (seq : BitVec 12) (m : SpanMsg)
  /-- EPOCH_NEW (R532). -/
  | epochNew (l : Lane) (seq : BitVec 12) (m : SpanMsg)
  /-- INC_REQ (R529). -/
  | incReq (l : Lane) (seq : BitVec 12) (m : SpanMsg)
  /-- PROPOSE (R529). -/
  | propose (l : Lane) (seq : BitVec 12) (m : SpanMsg)
  /-- VOTE (R529). -/
  | vote (l : Lane) (seq : BitVec 12) (m : SpanMsg)
  /-- COMMIT (R530). -/
  | commit (l : Lane) (seq : BitVec 12) (m : SpanMsg)
  /-- DONE (R529). -/
  | done (l : Lane) (seq : BitVec 12) (m : SpanMsg)
  /-- INC_RSP (R529). -/
  | incRsp (l : Lane) (seq : BitVec 12) (m : SpanMsg)
  /-- SPAN_INC_TIMEOUT (R531). -/
  | spanIncTimeout (c : Ctx)
  /-- KEYS (R534). -/
  | keys (l : Lane) (seq : BitVec 12) (m : SpanMsg)
  /-- KEY_DEL (R535). -/
  | keyDel (l : Lane) (seq : BitVec 12) (m : SpanMsg)
  /-- SPAN_CMD_PUSH (R534). -/
  | spanCmdPush
  /-- PCIE_BAR0_ACCESS (R544). -/
  | pcieBar0Access (offset : BitVec 16) (size : Width) (write : Option Word)
  /-- H2C_WRITE (R548). -/
  | h2cWrite (page : PageId) (value : Word)
  /-- C2H_WRITE (R549). -/
  | c2hWrite (page : PageId) (value : Word)
  /-- MSIX_OWED_SEND (R545). -/
  | msixOwedSend (vector : Fin 1025)
  /-- PCIE_LINK_UP (R564). -/
  | pcieLinkUp (rate width : BitVec 2)
  /-- PCIE_LINK_DOWN (R546). -/
  | pcieLinkDown
  /-- PCIE_FLR (R546). -/
  | pcieFlr
  /-- PERSTN_ASSERT (R567). -/
  | perstnAssert
  /-- SPI_WRITE_FRAME (R555). -/
  | spiWriteFrame (quad : Bool) (bytes : List Byte)
  /-- SPI_READ_STATUS (R555). -/
  | spiReadStatus
  /-- SPI_READ_RESPONSE (R555). -/
  | spiReadResponse
  /-- SPI_CS_RISE (R556). -/
  | spiCsRise
  /-- I2C_WRITE_TRANSACTION (R557). -/
  | i2cWriteTransaction (addr : BitVec 7) (bytes : List Byte)
  /-- I2C_READ_TRANSACTION (R557). -/
  | i2cReadTransaction
  /-- I2C_STUCK_TIMEOUT (R558). -/
  | i2cStuckTimeout
  /-- STATUS (R553). -/
  | status (via : HostVia) (f : V1Frame)
  /-- IDENT (R553). -/
  | ident (via : HostVia) (f : V1Frame)
  /-- PUBKEYS (R553). -/
  | pubkeys (via : HostVia) (f : V1Frame)
  /-- MB_WRITE (R553). -/
  | mbWrite (via : HostVia) (f : V1Frame)
  /-- MB_READ (R553). -/
  | mbRead (via : HostVia) (f : V1Frame)
  /-- RING (R553). -/
  | ring (via : HostVia) (f : V1Frame)
  /-- POLL (R553). -/
  | poll (via : HostVia) (f : V1Frame)
  /-- STAGE (R559). -/
  | stage (via : HostVia) (f : V1Frame)
  /-- OWN_CLAIM (R561). -/
  | ownClaim (via : HostVia) (f : V1Frame)
  /-- IMAGE_REPLACE (R562). -/
  | imageReplace (via : HostVia) (f : V1Frame)
  /-- CLAIM_RESET_TIMER (R561). -/
  | claimResetTimer
  /-- RESETN_RELEASE (R85). -/
  | resetnRelease
  /-- SENSOR_EPISODE_END (R102). -/
  | sensorEpisodeEnd (cls : Byte) (source : Byte)
  /-- FRAME_OUT_PULSE_END (R481). -/
  | frameOutPulseEnd
  /-- TILE_REENCRYPT_DONE (R491). -/
  | tileReencryptDone (l : Lane) (addr : BitVec 6) (offset : Word)
  /-- AUTH_EPHEMERAL_KEYGEN_DONE (R462). -/
  | authEphemeralKeygenDone (l : Lane) (addr : BitVec 6)
  /-- SPAN_PUSH_DONE (R534). -/
  | spanPushDone
  /-- DEVICE_PAGE_RESPONSE_READ (R561). -/
  | devicePageResponseRead
  /-- DISCARDED_PACKET (R414). -/
  | discardedPacket (l : Lane)
  deriving DecidableEq, Repr, Inhabited

end Sys2Proof
end

