-- ==== Sys2Proof/Decode.lean ====
section
/-! DEFINITION. The commands that words spell by the table's bits. Nelvo's opcode table gives no row any bits (its rows are commands of
a block: register writes, messages, pins and events), so no word spells one. The move word of the cores has its fields and checks in
Machine/Operands.lean and Machine/Moves.lean. -/

namespace Sys2Proof

/-- The command that the `nbits` bits of `w` spell by the table: none, for no row has bits. [DEDUCED, log 3] -/
def decodeTableWord (_nbits _w : Nat) : Option Instr := none

end Sys2Proof
end

