-- ==== Sys2Proof/Config.lean ====
section
/-! DEFINITION. What a device fixes and the spec leaves open: constants without a body, so that no proof can see a
value. Free values drawn during a run are indexed by the number of draws so far (`State.draw`). -/

namespace Sys2Proof.Config

/-- The device ID, fixed at fabrication (R594). -/
opaque deviceId : Dword
/-- Byte `i` of the `draw`-th free value: CTR_DRBG output, sampled noise, and every other value the spec leaves open.
[DESIGN CHOICE, log 7] -/
opaque freeByte : (draw i : Nat) → Byte
/-- A free number, of draw `draw`: a progress count the spec leaves open. [DESIGN CHOICE, log 4, 7] -/
opaque freeNat : (draw : Nat) → Nat
/-- Which of the words that a context may fetch at an address it does fetch, where another requester changed its code: the old ones and
the new (R155). [DEDUCED, log 81; DESIGN CHOICE, log 7] -/
opaque fetchPick : (draw addr : Nat) → Nat
/-- Which of two candidates of equal rank the scheduler takes: true for cask `a` (R259 gives no rule). [DESIGN CHOICE, log 7, 32] -/
opaque tieFirst : (draw a b : Nat) → Bool
/-- Whose turn it is among the requesters of a VC that an arbitration round can serve, by the SEQ of the packet (R264 gives no order).
[DEDUCED, log 132; DESIGN CHOICE, log 7] -/
opaque linkTurn : (draw seq : Nat) → Nat
/-- The presence wire of lane `lane` belongs to clock domain CD197, presence B, and not to CD196, presence A (R74).
[PRESUMED, log 135] -/
opaque presenceB : (lane : Nat) → Bool
/-- Byte `i` of the value the PUF reconstructs on this device (R275). -/
opaque pufByte : (i : Nat) → Byte
/-- ML-DSA verification (FIPS 204, pure, empty context) with the parameter set of key TYPE `typ` (R399). [DESIGN CHOICE, log 123] -/
opaque mldsaVerify : (typ : Nat) → (pk msg sig : Bytes) → Bool
/-- ML-KEM of FIPS 203 for key TYPE `typ`: the encapsulation key of d and z, its input check, encapsulation with 32 random bytes (the
shared secret, then the ciphertext), decapsulation (R399). [DESIGN CHOICE, log 123] -/
opaque mlkemPublic : (typ : Nat) → (dz : Bytes) → Bytes
opaque mlkemCheck : (typ : Nat) → (ek : Bytes) → Bool
/-- [DESIGN CHOICE, log 123] -/
opaque mlkemEncaps : (typ : Nat) → (ek rnd : Bytes) → Bytes
/-- [DESIGN CHOICE, log 123] -/
opaque mlkemDecaps : (typ : Nat) → (dz ct : Bytes) → Bytes
/-- ML-DSA of FIPS 204 for key TYPE `typ`: the public key of a seed, and the signature hedged with 32 random bytes (R399). -/
opaque mldsaPublic : (typ : Nat) → (seed : Bytes) → Bytes
/-- [DESIGN CHOICE, log 123] -/
opaque mldsaSign : (typ : Nat) → (seed msg rnd : Bytes) → Bytes
/-- Elliptic curves for key TYPE `typ`: the public key of a private one, whether a public key is a valid point, a signature, and Z of
ECDH or X25519, `none` for an identity or all-zero result (R399, R400). -/
opaque ecPublic : (typ : Nat) → (priv : Bytes) → Bytes
opaque ecValid : (typ : Nat) → (pk : Bytes) → Bool
/-- [DESIGN CHOICE, log 123] -/
opaque ecSign : (typ : Nat) → (priv msg rnd : Bytes) → Bytes
/-- [DESIGN CHOICE, log 46, 123] -/
opaque ecAgree : (typ : Nat) → (priv peer : Bytes) → Option Bytes
/-- ECDSA or Ed25519 verification on the curve of key TYPE `typ` (R399). [DESIGN CHOICE, log 123] -/
opaque ecVerify : (typ : Nat) → (pk msg sig : Bytes) → Bool

end Sys2Proof.Config
end

