-- ==== Sys2Proof/Machine/State.lean ====
section
/-! DEFINITION. The state of Nelvo as plain data, its reset value, and the reasons a command can stop. Every field's
docstring names the rule that gives it; INVENTORY.md lists them with their reset values. -/

namespace Sys2Proof.Machine

open Sys2Proof

/-- Sparse table: pairs of a key and a value, keys strictly rising. An absent key holds the table's default. -/
abbrev Tab (α : Type) := List (Nat × α)

/-! ## Life cycle, debug and TAP (chapter 02) -/

/-- Life-cycle states (R29). TEST_OPEN is volatile, the others are held in the life-cycle record. -/
inductive Lcs where
  | blank | testLocked | testOpen | personal | owned | analysisPending | analysis | scrap
  deriving DecidableEq, Repr, Inhabited

/-- Debug levels (R40). -/
inductive DbgLevel where
  | closed | bscan | observe | control | full
  deriving DecidableEq, Repr, Inhabited

/-- Status of the last life-cycle request (R34, R38, R39, R54). [DESIGN CHOICE, log 12] -/
inductive LcStatus where
  | ok | noPath | tokensExhausted | lockedOut | mismatch | pending | busy
  deriving DecidableEq, Repr, Inhabited

/-- The life-cycle sequencer (ch. 02). [DESIGN CHOICE, log 60] -/
structure Life where
  /-- the state in force (R29, R61) -/
  state      : Lcs := .blank
  /-- target of the wipe: false ANALYSIS, true SCRAP (R61) -/
  target     : Bool := false
  /-- the value WIPE held when the wipe began (R52) -/
  w0         : Dword := 0
  /-- a wipe is running (R61 BUSY), and the chunks erased so far (R52, R53) -/
  wiping     : Bool := false
  chunk      : Nat := 0
  /-- the wipe was started directly by LC_SCRAP, without ANALYSIS_PENDING (R35) -/
  directScrap : Bool := false
  /-- LCS_CMD.CMD, the last code written (R62) -/
  cmd        : BitVec 4 := 0
  /-- STATUS of the last request (R61). [DESIGN CHOICE, log 14] -/
  lastStatus : LcStatus := .ok
  /-- the token table once LC_PROVISION has written it (R34, R36) -/
  tokenTable : Option (BitVec 4096) := none
  /-- LC_TOKEN mismatches since the last power-on reset (R39) -/
  mismatches : Nat := 0
  /-- SHA-384 digest of the Evkenor authority key (R34) -/
  authority  : Option Bytes := none
  /-- the PUF is enrolled: helper data present (R275) -/
  enrolled   : Bool := false
  /-- the device identity public keys: ML-DSA-65 then P-384 (R34, R553) -/
  identKeys  : Option Bytes := none
  /-- the device identity private keys stand in the system area (chunk 0 of the wipe) -/
  identPriv  : Bool := false
  /-- owner record: owner keys and owner debug-authority keys, 2,056 bytes each, and the image sector (R34, R560) -/
  ownerKeys  : Option Bytes := none
  debugKeys  : Option Bytes := none
  imageSector : Nat := 0
  /-- bytes of the stored keystone image (R404) -/
  imageLen   : Nat := 0
  /-- a way to ANALYSIS_PENDING waits for its wind-down, with its target (R51) -/
  toPending  : Option Bool := none
  deriving DecidableEq, Repr, Inhabited

/-- An open debug session (R47). -/
structure Session where
  level     : DbgLevel := .closed
  first     : BitVec 16 := 0
  last      : BitVec 16 := 0xFFFF
  keystone  : Bool := false
  extest    : Bool := false
  /-- EXPIRY in seconds, and TIME when the session opened -/
  expiry    : Nat := 0
  start     : Time := 0
  deriving DecidableEq, Repr, Inhabited

/-- The debug unit (R63). -/
structure Dbg where
  /-- LEVEL in force; at reset the default of BLANK (R29) -/
  level      : DbgLevel := .bscan
  session    : Option Session := none
  certResult : BitVec 4 := 0
  fails      : BitVec 4 := 0
  /-- authorisations recorded until the next reset (R49) -/
  authAnalysis : Bool := false
  authScrap  : Bool := false
  /-- the certificate under verification and whether the TAP brought it (R46) -/
  verifying  : Option (Bytes × Bool) := none
  /-- a certificate shifted in during SLEEP waits for the wake to IDLE (R59) -/
  wakeCert   : Option Bytes := none
  /-- DBG_CERT_BUF, sparse by byte offset (R63) -/
  certBuf    : Tab Byte := []
  /-- the keystone is halted by the debugger (R40) -/
  keystoneHalted : Bool := false
  /-- TIME at that halt: the watchdog pauses from then on in TEST_OPEN and ANALYSIS (R87) -/
  haltAt    : Time := 0
  deriving DecidableEq, Repr, Inhabited

/-- The test access port (R60). [PRESUMED, log 13] -/
structure TapPort where
  /-- the instruction register -/
  ir      : Byte := 0x01
  /-- the data register last captured and its width in bits -/
  dr      : Nat := 0x14E3156F
  drWidth : Nat := 32
  /-- the boundary-scan register as last preloaded, and whether EXTEST drives the balls (R40, R41) -/
  bsr     : List Bool := []
  extest  : Bool := false
  deriving DecidableEq, Repr, Inhabited

/-! ## Clock, power, reset (chapter 03) -/

/-- Clocks (R65-R78, R97, R99). [DEDUCED, log 62; DESIGN CHOICE, log 61] -/
structure Clk where
  refclk     : Bool := false
  pllLock    : Bool := false
  onRefclk   : Bool := true
  /-- the 16 baseline windows are complete (R101) -/
  baseline   : Bool := false
  /-- the clock-frequency monitor is armed (R101) -/
  freqArmed  : Bool := false
  /-- boot step 1 has ended since the last reset that starts there: TIME counts (R69) -/
  timeOn     : Bool := false
  time       : Time := 0
  /-- CLK_FORCE_OFF as written, by domain number (R97) -/
  forceOff   : List Nat := []
  /-- domains whose force-off has taken effect (R78) -/
  off        : List Nat := []
  /-- auto-gated domains whose clock stands (R75) -/
  gated      : List Nat := []
  deriving DecidableEq, Repr, Inhabited

/-- Power states (R88). -/
inductive PState where
  | active | idle | hold | sleep | off
  deriving DecidableEq, Repr, Inhabited

/-- Reset kinds, in the order of R84's table. -/
inductive RKind where
  | por | pin | cold | warm | tamper | wdog
  deriving DecidableEq, Repr, Inhabited

/-- Wake latches and power requests (R89-R98). [DESIGN CHOICE, log 61] -/
structure Pwr where
  state     : PState := .active
  /-- RESULT: 0 OK, 1 LC_FORBIDS, 2 DEBUG_HELD, 3 BUSY (R98) -/
  result    : BitVec 3 := 0
  offReady  : Bool := false
  /-- PWR_CMD.STATE, the last code written (R98) -/
  cmd       : BitVec 3 := 0
  /-- the power change running (R90, R98 BUSY): its target; `none` for no change -/
  change    : Option PState := none
  /-- a wake fired while SLEEP is being entered (R94) -/
  wakePending : Bool := false
  wakeEn    : BitVec 20 := 0
  wakePol   : BitVec 16 := 0
  wakeAt    : Dword := 0
  resetCause : BitVec 7 := 1
  /-- PWR_BOOT (R98) -/
  bootStep  : Nat := 0
  bootResult : BitVec 4 := 0
  /-- boot runs: its last step has not ended (R79) -/
  booting   : Bool := true
  wdogTimeout : BitVec 23 := 100000
  wdogRunning : Bool := false
  /-- TIME at the last restart of the watchdog (R87) -/
  wdogFrom  : Time := 0
  /-- TIME when SLEEP was reached: the watchdog does not count in SLEEP (R88) -/
  sleepAt   : Time := 0
  /-- RESETn is low; the internal reset is held (R85) -/
  resetnLow : Bool := false
  /-- main power is above the power-on reset threshold (R96) -/
  mainPower : Bool := true
  /-- VDDIO bank classes: bit b set for the 3.3 V class (R574) -/
  bankClass : BitVec 4 := 0
  deriving DecidableEq, Repr, Inhabited

/-! ## Tamper (chapter 04) -/

/-- A tamper-log entry (R124). -/
structure LogEntry where
  time   : Time := 0
  seq    : Word := 0
  cls    : Byte := 0
  source : Byte := 0
  level  : BitVec 2 := 0
  flags  : BitVec 4 := 0
  deriving DecidableEq, Repr, Inhabited

/-- The running wind-down (R110): what waits for its end. -/
structure WindDown where
  /-- resets waiting for the end of the wind-down (R86) -/
  resets  : List RKind := []
  /-- the reset after it must start at boot step 1 (R113) -/
  fromStep1 : Bool := false
  /-- a power change waits for it (R91) -/
  power   : Option PState := none
  /-- an L2 response caused it: tile and link keys are zeroized at the end (R104) -/
  l2      : Bool := false
  /-- black frames sent so far, 0-2 (R110 steps 4, 5; R499) -/
  black   : Nat := 0
  /-- frame F of R499, whose release window contains step 1 -/
  frame   : Dword := 0
  deriving DecidableEq, Repr, Inhabited

/-- L3 progress (R114): none, erase running, or cold hold. -/
inductive L3State where
  | none | erasing | coldHold
  deriving DecidableEq, Repr, Inhabited

/-- The tamper system (R126). [DESIGN CHOICE, log 60] -/
structure Tamp where
  alarm     : Bool := false
  frozen    : Bool := false
  vbatLost  : Bool := false
  lastClass : BitVec 4 := 0
  lastLevel : BitVec 2 := 0
  mapLock   : Bool := false
  alarmOnL1 : Bool := false
  raiseLevel : BitVec 2 := 0
  map       : BitVec 16 := 0xEEA6
  tempWarn  : Byte := 0x73
  /-- SEQ of the next entry (R124, R126) -/
  nextSeq   : Word := 0
  /-- the ring of 256 entries in flash, by slot (R124) -/
  log       : Tab LogEntry := []
  /-- the volatile queue of at most 16 entries, oldest first, and the entries lost (R125) -/
  queue     : List LogEntry := []
  lost      : Nat := 0
  light     : BitVec 64 := 0
  /-- TAMP_TEMP readings by sensor, 1/16 degree (R126) -/
  temps     : Tab (BitVec 16) := []
  /-- class and source of each episode already reported (R102) -/
  episodes  : List (Byte × Byte) := []
  wind      : Option WindDown := none
  l3        : L3State := .none
  /-- the L3 record of the system area: written, and marked complete (R114, R116) -/
  l3Record  : Option Bool := none
  /-- every sensor has been clear for 100 ms in cold hold (R118) -/
  quiet     : Bool := false
  /-- VBAT latches (R120) -/
  vbat      : List VbatLatch := []
  deriving DecidableEq, Repr, Inhabited

/-! ## Contexts (chapters 05 to 08) -/

/-- ALU ports (R166). -/
structure Alu where
  a : Word := 0
  r : Word := 0
  c : Bool := false
  deriving DecidableEq, Repr, Inhabited

/-- A pending product and the moves still to issue before it is visible (R144, R230). -/
structure PendMul where
  value : Dword := 0
  delay : Nat := 2
  deriving DecidableEq, Repr, Inhabited

/-- MUL ports (R168): `p` is PH:P as visible. -/
structure Mul where
  a    : Word := 0
  p    : Dword := 0
  pend : List PendMul := []
  deriving DecidableEq, Repr, Inhabited

/-- A load result with its address and its ECC mark (R156, R230). -/
structure LoadRes where
  value : Word := 0
  addr  : Word := 0
  ecc   : Bool := false
  deriving DecidableEq, Repr, Inhabited

/-- A load on its way: the moves still to issue, and whether its data has arrived (R142, R143). -/
structure PendLoad where
  res     : LoadRes := {}
  delay   : Nat := 2
  arrived : Bool := true
  deriving DecidableEq, Repr, Inhabited

/-- LSU ports (R170). -/
structure Lsu where
  sd   : Word := 0
  base : Word := 0
  cmp  : Word := 0
  r    : LoadRes := {}
  pend : List PendLoad := []
  deriving DecidableEq, Repr, Inhabited

/-- The kind of a wait, in R230's codes at offset 0x12C. -/
inductive WaitKind where
  | none | wait | waitc | time | time64 | ctr
  deriving DecidableEq, Repr, Inhabited

/-- A wait in force: kind, mask of kinds 1 and 2, target of kinds 3 and 4 (R230 offsets 0x12C-0x138). -/
structure Wait where
  kind   : WaitKind := .none
  mask   : Word := 0
  target : Dword := 0
  deriving DecidableEq, Repr, Inhabited

/-- EVT ports (R175), but for PEND, which belongs to the cask. -/
structure Evt where
  ien : Word := 0
  got : Word := 0
  sst : BitVec 2 := 0
  deriving DecidableEq, Repr, Inhabited

/-- TMR ports and the alarm entry (R180, R181). -/
structure Tmr where
  hi    : Word := 0
  thi   : Word := 0
  wmask : Word := 0
  why   : BitVec 2 := 0
  aline : BitVec 9 := 0
  armed : Bool := false
  target : Word := 0
  deriving DecidableEq, Repr, Inhabited

/-- RPT ports (R183). -/
structure Rpt where
  n   : Word := 0
  cnt : Word := 0
  beg : Word := 0
  fin : Word := 0
  deriving DecidableEq, Repr, Inhabited

/-- STR ports (R188). `busy`: the operation blocks the context; `long`: its trigger move has two words. -/
structure Str where
  src  : Word := 0
  dst  : Word := 0
  len  : Word := 0
  val  : Byte := 0
  r    : Bool := false
  op   : BitVec 3 := 0
  busy : Bool := false
  long : Bool := false
  deriving DecidableEq, Repr, Inhabited

/-- SYS ports (R195). -/
structure Sys where
  evec    : Word := 0
  epend   : Word := 0
  consent : Bool := false
  moves   : Word := 0
  handler : Bool := false
  deriving DecidableEq, Repr, Inhabited

/-- A counter operation in flight (R196, R306): counter record number, and the amount of an INC. -/
structure CtrOp where
  counter : Nat := 0
  inc     : Option Nat := none
  /-- a span counter (R528) -/
  span    : Bool := false
  deriving DecidableEq, Repr, Inhabited

/-- CTR ports (R196). -/
structure CtrU where
  sel  : BitVec 16 := 0
  lo   : Word := 0
  hi   : Word := 0
  st   : BitVec 3 := 0
  op   : Option CtrOp := none
  deriving DecidableEq, Repr, Inhabited

/-- A frame (R157): return PC, cause word, fault address, saved RPT count. -/
structure Frame4 where
  pc    : Word := 0
  cause : Word := 0
  addr  : Word := 0
  rpt   : Word := 0
  deriving DecidableEq, Repr, Inhabited

/-- Results governed by R142 and R144 that an exception sets aside until BR.ERET (R145): visible and pending. -/
structure Aside where
  p     : Dword := 0
  mpend : List PendMul := []
  r     : LoadRes := {}
  lpend : List PendLoad := []
  deriving DecidableEq, Repr, Inhabited

/-- The registers of a context (R164, R230). -/
structure Regs where
  pc      : Word := 0
  /-- the prefetch window: the next words in execution order with their addresses (R149) -/
  window  : List (Word × Word) := []
  /-- how many words of it are valid, 0-2 (R230 offset 0x04C) -/
  winValid : Nat := 0
  /-- the next move is a delay slot, with the pending branch target (R146) -/
  delay   : Option Word := none
  /-- general registers; g0 reads 0 (R136) -/
  g       : Tab Word := []
  alu     : Alu := {}
  mul     : Mul := {}
  lsu     : Lsu := {}
  evt     : Evt := {}
  wait    : Wait := {}
  tmr     : Tmr := {}
  rpt     : Rpt := {}
  str     : Str := {}
  sys     : Sys := {}
  ctr     : CtrU := {}
  rngSt   : Bool := false
  fallback : Frame4 := {}
  fbValid : Bool := false
  fault   : Byte := 0
  /-- results set aside while a handler runs (R145) -/
  aside   : Option Aside := none
  deriving DecidableEq, Repr, Inhabited

/-- A segment descriptor (R220). -/
structure Seg where
  base  : Word := 0
  size  : Word := 0
  r     : Bool := false
  w     : Bool := false
  x     : Bool := false
  sealed : Bool := false
  group : Byte := 0
  deriving DecidableEq, Repr, Inhabited

/-- Cask states (R215). -/
inductive CState where
  | disabled | ready | running | waiting | faulted | halted | disabling
  deriving DecidableEq, Repr, Inhabited

/-- The command whose drain runs (R267). -/
inductive DrainCmd where
  | disable | reset | wipe
  deriving DecidableEq, Repr, Inhabited

/-- A cask: its state, context block, segments, lines and per-cask registers (chapters 07, 08, 17). [PRESUMED, log 93] -/
structure Cask where
  state   : CState := .disabled
  /-- the state before a debugger halt (R216) -/
  before  : CState := .ready
  /-- the thread slot it holds: core + 16 × thread (R234, SYS.WHERE) -/
  slot    : Option Nat := none
  /-- the context mover is saving it (R235) -/
  leaving : Bool := false
  regs    : Regs := {}
  /-- the block as the context mover last saved it (R231) -/
  saved   : Regs := {}
  pend    : Word := 0
  code    : Seg := {}
  data    : Seg := {}
  stack   : Seg := {}
  shared  : Seg := {}
  cls     : BitVec 3 := 0
  hostPath : BitVec 2 := 0
  drain   : Option DrainCmd := none
  /-- a WIPE's flash sector erases run (R271 step 8) -/
  wipeErase : Bool := false
  /-- SCHED_CASK (R273) -/
  weight  : Byte := 16
  prio    : BitVec 2 := 0
  cap     : Bool := false
  /-- PRIO and CAP as the current window schedules by them, and its budget (R257, R263). [DEDUCED, log 100] -/
  winPrio : BitVec 2 := 0
  winCap  : Bool := false
  budget  : Nat := 0
  used    : Nat := 0
  boosted : Bool := false
  /-- SCHED_USED.BOOSTED (R255) -/
  boostUsed : Bool := false
  boostAt : Time := 0
  lastEnd : Time := 0
  holdSince : Time := 0
  group   : Byte := 0
  toKs    : Bool := false
  rxmask  : Word := 0
  boostMask : Word := 0
  /-- HOST_CASKCFG (R564) -/
  hostCfg : BitVec 14 := 0
  quota   : Nat := 0
  deriving DecidableEq, Repr, Inhabited

/-- The CASK control block (R245). -/
structure CaskBlk where
  sel     : BitVec 10 := 0
  cmd     : BitVec 4 := 0
  result  : BitVec 4 := 0
  violSource : BitVec 3 := 0
  violWrite : Bool := false
  violCount : Byte := 0
  violNew : Bool := false
  violAddr : Word := 0
  kslo    : Word := 0
  kshi    : Word := 0
  /-- CASK_CLASS0-7 (R239) -/
  classes : Tab Word := []
  /-- EVT_FAULTED and EVT_DRAINED, as cask numbers (R273) -/
  faulted : List Nat := []
  drained : List Nat := []
  deriving DecidableEq, Repr, Inhabited

/-- The keystone's own state (R211-R214). -/
structure Keystone where
  /-- keystone code has been started (R79 step 9, R31) -/
  running : Bool := false
  /-- halted by a stack fault or double fault (R161) -/
  dead    : Bool := false
  regs    : Regs := {}
  pend    : Word := 0
  deriving DecidableEq, Repr, Inhabited

/-- Scheduler registers (R273). -/
structure Sched where
  slots : BitVec 7 := 63
  w     : BitVec 18 := 0
  ksw   : Byte := 16
  deriving DecidableEq, Repr, Inhabited

/-- A macro descriptor (R207). -/
structure MacDesc where
  start   : BitVec 10 := 0
  len     : BitVec 5 := 0
  valid   : Bool := false
  classes : Byte := 0
  deriving DecidableEq, Repr, Inhabited

/-- The DEC block (R207). -/
structure Dec where
  badEntry : BitVec 10 := 0
  badMacro : BitVec 6 := 0
  err      : Bool := false
  macs     : Tab MacDesc := []
  ucode    : Tab Word := []
  deriving DecidableEq, Repr, Inhabited

/-! ## Vault, NVM and counters (chapter 09) -/

/-- A filled vault slot (R278): the record with its key material unwrapped. [DEDUCED, log 106] -/
structure VSlot where
  owner    : BitVec 11 := 0
  typ      : BitVec 7 := 0
  volatile : Bool := false
  policy   : Byte := 0
  incarn   : BitVec 16 := 0
  key      : Bytes := []
  deriving DecidableEq, Repr, Inhabited

/-- The services with a request block in a page (R283, R397, R467). -/
inductive Svc where
  | nvm | vault | pke | tile
  deriving DecidableEq, Repr, Inhabited

/-- A request taken from a block at GO (R284). -/
structure Request where
  svc  : Svc := .vault
  ctx  : Ctx := .keystone
  op   : Byte := 0
  req  : Req := {}
  deriving DecidableEq, Repr, Inhabited

/-- The vault (R313). [DESIGN CHOICE, log 60] -/
structure Vault where
  rootOk  : Bool := false
  pufFail : Bool := false
  rngFail : Bool := false
  root    : Bytes := []
  slots   : Tab VSlot := []
  /-- vault and public-key requests waiting, oldest first (R284, ch. 12) -/
  queue   : List Request := []
  pkeQueue : List Request := []
  deriving DecidableEq, Repr, Inhabited

/-- The random number generator (R290, R291, R200). -/
structure Rng where
  instantiated : Bool := false
  requests : Nat := 0
  retests  : Nat := 0
  /-- stopped until RETEST or reset, after the third failure (R291) -/
  stopped  : Bool := false
  /-- the 16-word buffer of each core (R200) -/
  buffers  : Tab (List Word) := []
  deriving DecidableEq, Repr, Inhabited

/-- A journal entry that has a STAGED header and no DONE (R296-R299). -/
structure JEntry where
  page     : Nat := 0
  data     : Bytes := []
  /-- units of step 4 already programmed, and whether the next one was caught in progress (R300) -/
  units    : Nat := 0
  mid      : Bool := false
  deferred : Bool := false
  deriving DecidableEq, Repr, Inhabited

/-- The page write being served, with the source bytes as read when it began (R296). -/
structure NvmJob where
  req  : Request := {}
  page : Nat := 0
  data : Bytes := []
  deriving DecidableEq, Repr, Inhabited

/-- The NVM block and services (R313). [DESIGN CHOICE, log 60] -/
structure Nvm where
  cmd      : BitVec 4 := 0
  arg0     : Word := 0
  arg1     : Word := 0
  result   : BitVec 4 := 0
  busy     : Bool := false
  deferred : Bool := false
  abortUnits : BitVec 7 := 0
  abortArm : Bool := false
  ctrGen   : Word := 0
  /-- RAW_STAT codes in unit order, RAW_DATA (R301) -/
  rawStat  : List (BitVec 2) := []
  rawData  : Bytes := []
  /-- allocation map: sector owners (default free 0x7FF) and counter ranges (FIRST, COUNT) (R310-R313) -/
  sectOwn  : Tab (BitVec 11) := []
  ctrMap   : Tab (BitVec 24) := []
  journal  : List JEntry := []
  /-- sectors of an interrupted WIPE still to erase in the background (R297) -/
  eraseQueue : List Nat := []
  /-- page writes waiting, oldest first, and the one being served (R295, R296) -/
  queue    : List Request := []
  active   : Option NvmJob := none
  /-- deficits of the round robin by page (R264) -/
  deficit  : Tab Nat := []
  /-- an accepted NVM command that takes time (R313): code and arguments -/
  running  : Option (BitVec 4 × Word × Word) := none
  deriving DecidableEq, Repr, Inhabited

/-- A cell of a course (R302): ERASED 0b11, PROGRAMMED 0b00, PARTIAL otherwise. -/
inductive Cell2 where
  | erased | programmed | partialCell
  deriving DecidableEq, Repr, Inhabited

/-- A base record (R301): VALUE, GEN; `none` when not valid. -/
structure CBase where
  value : Dword := 0
  gen   : Word := 0
  deriving DecidableEq, Repr, Inhabited

/-- A course counter record (ch. 09): two bases, TAG generation when valid, 64 cells. -/
structure CtrRec where
  base0 : Option CBase := none
  base1 : Option CBase := none
  tag   : Option Word := none
  cells : List Cell2 := []
  deriving DecidableEq, Repr, Inhabited

/-! ## Press (chapter 10) -/

/-- Where a press job stands. -/
inductive PPhase where
  | failed (code : BitVec 5)
  | waitNonce
  | waitSlot
  | waitPipe
  | running (pipe : Fin 16)
  deriving DecidableEq, Repr, Inhabited

/-- A press job: latched ports, resolved keys and inputs (R324, R328, R343). -/
structure PressJob where
  mode  : Word := 0
  key   : Word := 0
  key2  : Word := 0
  src   : Word := 0
  dst   : Word := 0
  len   : Word := 0
  aad   : Word := 0
  alen  : Word := 0
  iv    : Word := 0
  tag   : Word := 0
  nfix  : Word := 0
  nctr  : BitVec 12 := 0
  mat   : Bytes := []
  mat2  : Bytes := []
  nonce : Bytes := []
  /-- the first block has entered a pipeline, and the inputs as read then (R328) -/
  begun : Bool := false
  input : Bytes := []
  aadIn : Bytes := []
  ivIn  : Bytes := []
  tagIn : Bytes := []
  /-- the staging slot it holds (R329) -/
  slot  : Option Nat := none
  phase : PPhase := .waitPipe
  /-- blocks processed in the current burst (R339) -/
  burst : Nat := 0
  /-- the job has been suspended (R341) -/
  suspended : Bool := false
  /-- bytes of output already written to DST when last stopped (R331, R344) -/
  written : Nat := 0
  deriving DecidableEq, Repr, Inhabited

/-- A press register page (R318-R320). -/
structure PressPage where
  key   : Word := 0
  key2  : Word := 0
  mode  : Word := 0
  src   : Word := 0
  dst   : Word := 0
  len   : Word := 0
  aad   : Word := 0
  alen  : Word := 0
  iv    : Word := 0
  tag   : Word := 0
  nfix  : Word := 0
  nctr  : BitVec 12 := 0
  result : BitVec 5 := 0
  refused : Bool := false
  olen  : Word := 0
  /-- the reservation (C, L) (R332) -/
  resv  : Option (Dword × BitVec 16) := none
  /-- GEN count (R336) -/
  gen   : Nat := 0
  job   : Option PressJob := none
  deriving DecidableEq, Repr, Inhabited

/-- What runs on a press pipeline (R348). -/
inductive PipeUse where
  | idle | page (n : Nat) | frame
  deriving DecidableEq, Repr, Inhabited

/-- A press pipeline (R346, R348). -/
structure Pipe where
  use    : PipeUse := .idle
  faults : Nat := 0
  test   : Bool := false
  deriving DecidableEq, Repr, Inhabited

/-- The press (ch. 10). -/
structure Press where
  pages   : Tab PressPage := []
  pipes   : Tab Pipe := []
  faultPage : BitVec 11 := 0
  faultPipe : BitVec 4 := 0
  faultCount : Byte := 0
  faultNew : Bool := false
  /-- staging slots held, with the page that holds each (R329) -/
  staging : Tab Nat := []
  /-- deficits of the round robin by page (R264) -/
  deficit : Tab Nat := []
  deriving DecidableEq, Repr, Inhabited

/-! ## Lattice engine (chapters 11 and 12) -/

/-- An object table entry (R350, R351, R356): header fields, body granules, body length. -/
structure LObj where
  owner   : Nat := 0
  incarn  : BitVec 16 := 0
  kind    : Byte := 0
  level   : Byte := 0
  enc     : Byte := 0
  logN    : Byte := 0
  flags   : Byte := 0
  bodyLen : Nat := 0
  /-- the body of the parameter set it belongs to (R354); PARAM_DIGEST is its digest (R355) -/
  params  : Bytes := []
  keyTag  : Bytes := []
  galois  : Word := 0
  grans   : List Nat := []
  damaged : Bool := false
  deriving DecidableEq, Repr, Inhabited

/-- A lattice job: latched ports, and the check that failed (R372, R373). -/
structure LatJob where
  op    : Word := 0
  a     : Word := 0
  b     : Word := 0
  dst   : Word := 0
  sk    : Word := 0
  kaddr : Word := 0
  addr  : Word := 0
  len   : Word := 0
  arg   : Word := 0
  cfg   : Bool := false
  rkey  : Word := 0
  code  : Option Byte := none
  /-- granules reserved for its result and intermediates (R373 check 8, R379 USED) -/
  need  : Nat := 0
  lane  : Option (Fin 8) := none
  /-- CANCEL or a drain waits for the end of the fused step (R377) -/
  cancel : Bool := false
  discard : Bool := false
  deriving DecidableEq, Repr, Inhabited

/-- A LAT page (R371). -/
structure LatPage where
  op    : Word := 0
  a     : Word := 0
  b     : Word := 0
  dst   : Word := 0
  sk    : Word := 0
  kaddr : Word := 0
  addr  : Word := 0
  len   : Word := 0
  arg   : Word := 0
  cfg   : Bool := false
  rkey  : Word := 0
  result : Byte := 0
  refused : Bool := false
  refreshed : Bool := false
  r     : Word := 0
  lvl   : BitVec 6 := 0
  job   : Option LatJob := none
  deriving DecidableEq, Repr, Inhabited

/-- A lattice lane (R387, R388). -/
structure LatLane where
  faults : Nat := 0
  test   : Bool := false
  deriving DecidableEq, Repr, Inhabited

/-- The lattice engine (R379). -/
structure Lat where
  pages  : Tab LatPage := []
  objs   : Tab LObj := []
  quota  : Tab Nat := []
  lanes  : Tab LatLane := []
  /-- deficits of the round robin by page, in microseconds of lane time (R264) -/
  deficit : Tab Nat := []
  faultPage : BitVec 11 := 0
  faultLane : BitVec 3 := 0
  faultNew : Bool := false
  deriving DecidableEq, Repr, Inhabited

/-! ## Gytra link (chapter 13) -/

/-- TYPE of a data packet (R412). -/
inductive PktType where
  | data | req | rsp | fack | mgmt | span
  deriving DecidableEq, Repr, Inhabited

/-- A packet to send: in the queue, or in the replay buffer with its SEQ and transmissions so far (R421-R423). -/
structure TxPkt where
  typ   : PktType := .data
  addr  : Byte := 0
  tag   : BitVec 16 := 0
  body  : Bytes := []
  seq   : BitVec 12 := 0
  sent  : Nat := 0
  /-- the LNK page whose request it carries (R438) -/
  owner : Option Nat := none
  deriving DecidableEq, Repr, Inhabited

/-- One virtual channel of a lane, both directions (R417-R423). -/
structure VcState where
  txSeq   : BitVec 12 := 0
  queue   : List TxPkt := []
  replay  : List TxPkt := []
  exp     : BitVec 12 := 0
  nakOut  : Bool := false
  sinceAck : Nat := 0
  owner   : BitVec 11 := 0x7FF
  /-- deficits of the round robin among its requesters (R264, R266) -/
  deficit : Tab Nat := []
  deriving DecidableEq, Repr, Inhabited

/-- Lane states (R426). -/
inductive LState where
  | down | cal | wait | train | up | retrain
  deriving DecidableEq, Repr, Inhabited

/-- A lane (R442). -/
structure LaneSt where
  role    : BitVec 2 := 0
  gen     : BitVec 2 := 0
  vcs     : BitVec 4 := 0
  ffe     : BitVec 2 := 0
  state   : LState := .down
  /-- agreed VC count V while UP (R428) -/
  v       : Nat := 0
  attempt : BitVec 2 := 0
  cause   : BitVec 4 := 0
  polinv  : Bool := false
  cfgErr  : Bool := false
  evtUp   : Bool := false
  evtLeft : Bool := false
  evtFail : Bool := false
  cntCrc  : Word := 0
  cntReplay : Word := 0
  cntDrop : Word := 0
  cntBroken : Word := 0
  partner : Dword := 0
  partnerRole : Byte := 0
  partnerLane : Byte := 0
  partnerVcs : BitVec 4 := 0
  stampTx : Time := 0
  stampRx : Time := 0
  stampTxId : BitVec 16 := 0
  stampRxId : BitVec 16 := 0
  /-- training: consecutive valid sets received, TS2 phase entered, consecutive TS2 received (R428) -/
  tsCount : Nat := 0
  ts2     : Bool := false
  ts2Count : Nat := 0
  /-- in RETRAIN: lock has been regained in the running attempt (R429) -/
  locked  : Bool := false
  /-- the lane was UP at the last frame boundary and has been since (R434) -/
  frameOk : Bool := false
  vc      : Tab VcState := []
  deriving DecidableEq, Repr, Inhabited

/-- A request in progress of a LNK page (R437-R439). -/
structure LnkReq where
  lane   : Lane := 0
  vc     : Vc := 0
  addr   : Byte := 0
  tag    : BitVec 16 := 0
  posted : Bool := false
  rbuf   : Word := 0
  rcap   : Nat := 0
  line   : BitVec 5 := 0
  event  : Bool := false
  tmo    : BitVec 16 := 0
  deriving DecidableEq, Repr, Inhabited

/-- A LNK page (R435). -/
structure LnkPage where
  dest  : Word := 0
  src   : Word := 0
  len   : BitVec 11 := 0
  rbuf  : Word := 0
  rcap  : BitVec 11 := 0
  cfg   : BitVec 23 := 0
  result : BitVec 5 := 0
  refused : Bool := false
  rlen  : BitVec 11 := 0
  job   : Option LnkReq := none
  deriving DecidableEq, Repr, Inhabited

/-! ## Tile chains (chapter 14) -/

/-- PSTATE of a chain (R476). -/
inductive PresState where
  | idle | searching | waiting | stuckLow | unstable | off
  deriving DecidableEq, Repr, Inhabited

/-- A search in progress (R451, R452): IDs found, the branch prefixes still to visit (as bits, first bit first), IDs to confirm. -/
structure Search where
  found   : List Dword := []
  todo    : List (List Bool) := [[]]
  confirm : Option (List Dword) := none
  deriving DecidableEq, Repr, Inhabited

/-- A chain (R476). -/
structure Chain where
  pstate   : PresState := .idle
  restarts : Nat := 0
  search   : Option Search := none
  /-- an enumeration runs: the address offered last (R458) -/
  enum     : Option (BitVec 6) := none
  /-- a discovery waits 2 ms after a presence pulse (R455) -/
  scheduled : Bool := false
  deriving DecidableEq, Repr, Inhabited

/-- STATE of a tile (R476). -/
inductive TState where
  | absent | found | auth | active | failed | gone
  deriving DecidableEq, Repr, Inhabited

/-- A management exchange of a tile that waits for its answer, or the local work of an authentication (R448, R463). -/
inductive Mgmt where
  | keygen | hello | verify | fin | ping | sense (seq : Word) | limit (seq : Word)
  deriving DecidableEq, Repr, Inhabited

/-- A tile (R462-R476): identity, session keys and exchanges. -/
structure Tile where
  id     : Dword := 0
  state  : TState := .absent
  fail   : BitVec 4 := 0
  /-- the maker entry that its certificate matched (R463) -/
  maker  : Option (BitVec 3) := none
  model  : Word := 0
  tries  : Nat := 0
  /-- exchanges outstanding, oldest first -/
  exch   : List Mgmt := []
  /-- the authentication waits for one of the 8 sequences that run at a time (R466) -/
  wantAuth : Bool := false
  nonceN : Bytes := []
  /-- the ephemeral key pair of this end: private, public -/
  ephPriv : Bytes := []
  ephN   : Bytes := []
  hello  : Bytes := []
  resp   : Bytes := []
  h      : Bytes := []
  kdat   : Bytes := []
  kctl   : Bytes := []
  kack   : Bytes := []
  seq    : Word := 0
  /-- no LIMIT has completed in this session (R473 SAFE) -/
  safe   : Bool := true
  /-- the cask whose LIMIT is outstanding (R470), with its limits and completion line -/
  limitOf : Option (BitVec 10 × BitVec 16 × BitVec 5) := none
  /-- becomes eligible for frame data at the next boundary (R465) -/
  lit    : Bool := false
  deriving DecidableEq, Repr, Inhabited

/-- A maker entry (R476). -/
structure Maker where
  id    : Word := 0
  alg   : BitVec 2 := 0
  valid : Bool := false
  owner : BitVec 10 := 0
  key   : Tab Byte := []
  deriving DecidableEq, Repr, Inhabited

/-- A cask's sensor loop (R467, R468). -/
structure Loop where
  running : Bool := false
  period : Nat := 0
  buffer : Word := 0
  line   : BitVec 5 := 0
  /-- TIME at the start of the last pass -/
  last   : Time := 0
  /-- tiles still to answer in this pass, as 64 × lane + address -/
  waiting : List Nat := []
  deriving DecidableEq, Repr, Inhabited

/-- The tile chain controller (R476). -/
structure TileCtl where
  auto   : BitVec 12 := 0xFFF
  cmd    : BitVec 14 := 0
  result : BitVec 4 := 0
  change : BitVec 12 := 0
  alert  : BitVec 12 := 0
  chains : Tab Chain := []
  makers : Tab Maker := []
  tiles  : Tab Tile := []
  loops  : Tab Loop := []
  deriving DecidableEq, Repr, Inhabited

/-! ## Frame path (chapter 15) -/

/-- An extent of a region (R482, R509). -/
structure Extent where
  lane  : BitVec 4 := 0
  first : BitVec 6 := 0
  last  : BitVec 6 := 0
  used  : Bool := false
  deriving DecidableEq, Repr, Inhabited

/-- The settings a cask stages for a region (R507, R508). -/
structure RegSet where
  key0  : Word := 0
  key1  : Word := 0
  ctr   : BitVec 13 := 0
  batch : BitVec 7 := 0
  tally : Word := 0
  slot  : BitVec 15 := 0
  line  : BitVec 6 := 0
  deriving DecidableEq, Repr, Inhabited

/-- MODE of a region (R507). -/
inductive RMode where
  | idle | show | hold | fallback
  deriving DecidableEq, Repr, Inhabited

/-- A commit of proof-of-play counts in progress: counter record, amount, and whether the counter step is done (R502). -/
structure RCommit where
  ctr     : Nat := 0
  amount  : Nat := 0
  counted : Bool := false
  /-- the tally object and the vault slot as they stood when it began -/
  tally   : Word := 0
  slot    : BitVec 15 := 0
  deriving DecidableEq, Repr, Inhabited

/-- A region (R482-R509). -/
structure Region where
  owner   : BitVec 11 := 0
  valid   : Bool := false
  /-- a set or clear of VALID waits for the next boundary (R484) -/
  validNext : Option Bool := none
  fallback : BitVec 2 := 0
  slate   : BitVec 24 := 0
  tileBytes : BitVec 23 := 0
  extents : Tab Extent := []
  cur     : RegSet := {}
  staged  : Option RegSet := none
  mode    : RMode := .idle
  /-- what the region shows since the last boundary -/
  shown   : RMode := .idle
  holds   : Nat := 0
  lastSeg : BitVec 4 := 0
  pendPlays : Nat := 0
  plays   : Word := 0
  held    : Word := 0
  tagFail : Word := 0
  /-- the verdict taken at D_F for the frame now to be shown: SHOW with every tile ACTIVE (R501) -/
  showAll : Bool := false
  /-- the same for the frame being shown, whose FACK window is open -/
  showAllNow : Bool := false
  /-- tiles with an accepted FACK SHOWN for the frame being shown (R500) -/
  facks   : List Nat := []
  /-- a failed segment has raised the owner's line in this frame (R507) -/
  segLine : Bool := false
  /-- a commit of PEND runs (R502) -/
  commit  : Option RCommit := none
  /-- PEND is to be committed when the FACK window closes (R504) -/
  flush   : Bool := false
  deriving DecidableEq, Repr, Inhabited

/-- A segment (R486-R491): in assembly, being decrypted, or releasable. -/
inductive SegPhase where
  | decrypting | releasable
  deriving DecidableEq, Repr, Inhabited

/-- A segment held in the secure segment buffer (R489-R491). -/
structure Segm where
  region : Byte := 0
  frame  : Dword := 0
  offset : Nat := 0
  len    : Nat := 0
  header : Bytes := []
  tag    : Bytes := []
  key    : Bytes := []
  handle : Word := 0
  /-- its granules of the segment buffer, in order; a freed one is `none` -/
  grans  : List (Option Nat) := []
  /-- the press pipeline that decrypts it -/
  pipe   : Option Nat := none
  phase  : SegPhase := .decrypting
  deriving DecidableEq, Repr, Inhabited

/-- A segment in assembly on a lane and VC (R488). -/
structure Assembly where
  frag   : Nat := 0
  bytes  : Bytes := []
  /-- the header passed R489: the region key and the granules reserved -/
  accepted : Option (Bytes × Word × List Nat) := none
  /-- the header failed R489: the rest is discarded -/
  dead   : Bool := false
  deriving DecidableEq, Repr, Inhabited

/-- A FRM page (R507). -/
structure FrmPage where
  reg  : Byte := 0
  set  : RegSet := {}
  st   : BitVec 5 := 0
  fnoHi : Word := 0
  deriving DecidableEq, Repr, Inhabited

/-- The frame path (R509). -/
structure FrameSt where
  run      : Bool := false
  src      : Bool := false
  outEn    : Bool := false
  period   : BitVec 23 := 0
  /-- a new period applies from the next boundary (R478) -/
  periodNext : Option (BitVec 23) := none
  running  : Bool := false
  flywheel : Bool := false
  cfgErr   : Bool := false
  ssbOvf   : Bool := false
  errCode  : BitVec 4 := 0
  frameNo  : Dword := 0
  last     : Time := 0
  /-- no edge has been accepted since RUN was set (R479) -/
  first    : Bool := true
  inRej    : Word := 0
  /-- TIME of the last accepted edge of FRAME_IN (R479) -/
  edge     : Option Time := none
  outPin   : Bool := false
  /-- the deadline of the next frame has been taken (R497) -/
  deadline : Bool := false
  regions  : Tab Region := []
  segs     : List Segm := []
  asm      : Tab Assembly := []
  /-- bytes of each tile's slice for the next frame already queued: tile index, byte offsets of the packets (R496) -/
  queued   : Tab (List Nat) := []
  pages    : Tab FrmPage := []
  deriving DecidableEq, Repr, Inhabited

/-! ## Span (chapter 16) -/

/-- Member states (R517). -/
inductive MState where
  | off | seeking | syncing | active | observer | excluded
  deriving DecidableEq, Repr, Inhabited

/-- States of a peer (R539). -/
inductive PeerState where
  | absent | linked | active | lost | observer | excluded | authFail
  deriving DecidableEq, Repr, Inhabited

/-- What is known of a peer (R539). -/
structure Peer where
  state : PeerState := .absent
  hops  : BitVec 6 := 0
  lane  : BitVec 4 := 0
  level : BitVec 4 := 0
  hash  : Bytes := []
  /-- the EPOCH of its last message -/
  epoch : Word := 0
  /-- this member, as leader, has answered its REPORT_REQ and sent it the keys (R537) -/
  served : Bool := false
  deriving DecidableEq, Repr, Inhabited

/-- A span lane's authentication (R516). -/
structure SpanLink where
  nonce  : Bytes := []
  hello  : Bool := false
  ack    : Bool := false
  peer   : Nat := 0
  deriving DecidableEq, Repr, Inhabited

/-- A proposal the leader runs (R529). -/
structure Proposal where
  counter : Nat := 0
  old     : Dword := 0
  new     : Dword := 0
  votes   : List Nat := []
  dones   : List Nat := []
  committed : Bool := false
  requester : Nat := 0
  request : Word := 0
  /-- part of an epoch formation (R532) -/
  epoch   : Bool := false
  deriving DecidableEq, Repr, Inhabited

/-- Epoch formation at the leader (R532): members asked, reports by counter, members that have sent all 5. -/
structure Forming where
  members : List Nat := []
  reports : Tab Dword := []
  counts  : Tab Nat := []
  deriving DecidableEq, Repr, Inhabited

/-- The span unit (R539). -/
structure Span where
  en      : Bool := false
  state   : MState := .off
  locked  : Bool := false
  holdover : Bool := false
  diverged : Bool := false
  member  : BitVec 6 := 0
  offset  : Word := 0
  root    : Word := 0
  cmd     : BitVec 4 := 0
  arg0    : Word := 0
  arg1    : Word := 0
  result  : BitVec 4 := 0
  evt     : BitVec 6 := 0
  steps   : Word := 0
  schedMiss : Word := 0
  hash    : Bytes := []
  peers   : Tab Peer := []
  /-- the configuration record window, by byte offset (R511) -/
  config  : Tab Byte := []
  links   : Tab SpanLink := []
  mseq    : Word := 0
  /-- (SRC, EPOCH, MSEQ) seen (R515) -/
  seen    : List (Nat × Word × Word) := []
  /-- lane of the first copy of the latest broadcast of each member (R515) -/
  via     : Tab Nat := []
  /-- the STAMP exchange in progress: PARAM, t1, t4 (R520) -/
  stampK  : BitVec 16 := 0
  t1      : Time := 0
  t4      : Option Time := none
  /-- last offsets, newest first (R520); consecutive in-range and out-of-range measurements (R523) -/
  thetas  : List Int := []
  inRange : Nat := 0
  outRange : Nat := 0
  /-- correction still to apply to TIME, in ticks (R521) -/
  correction : Int := 0
  /-- ticks until the next single tick may be added or skipped (R521) -/
  slewWait : Nat := 0
  /-- boundaries scheduled: frame number and TIME (R525, R526) -/
  schedule : List (Dword × Time) := []
  /-- a schedule has set FRAME_NO since SYNCING began; records and keys taken (R537 steps 4 to 6) -/
  gotSchedule : Bool := false
  /-- a boundary has passed since this leader's last SCHEDULE (R525) -/
  schedDue : Bool := false
  gotReports : Nat := 0
  /-- increments queued at the leader: requester, request number, counter, amount (R529) -/
  incQueue : List (Nat × Word × Nat × Nat) := []
  proposal : Option Proposal := none
  /-- own votes in this epoch: counter and value (R529) -/
  votes   : List (Nat × Dword) := []
  forming : Option Forming := none
  /-- counters whose record exceeds the adopted value (R533) -/
  divergedCtrs : List Nat := []
  /-- the ACTIVE bitmap of the epoch (R532) -/
  activeSet : List Nat := []
  /-- request number of the next INC_REQ, and the contexts waiting: request number, page (R529) -/
  reqNo   : Word := 0
  waiting : List (Word × Nat) := []
  /-- a PUSH runs: the slot pushed (R534) -/
  push    : Option Nat := none
  deriving DecidableEq, Repr, Inhabited

/-! ## Host ports (chapter 17) -/

/-- Interface registers of a page (R547). -/
structure PageIf where
  h2c    : Word := 0
  c2h    : Word := 0
  c2hCnt : Word := 0
  h2cCnt : Word := 0
  losses : Byte := 0
  /-- a C2H write since the last POLL (R556) -/
  attn   : Bool := false
  deriving DecidableEq, Repr, Inhabited

/-- One v1 transport, SPI or I2C (R555-R557). -/
structure V1Port where
  rx    : Bytes := []
  /-- a frame is being shifted in -/
  open' : Bool := false
  resp  : Option Bytes := none
  err   : Bool := false
  deriving DecidableEq, Repr, Inhabited

/-- HOST block and ports (R564). [PRESUMED, log 162] -/
structure HostSt where
  ksPath  : BitVec 2 := 0
  attnEn  : Bool := false
  portEn  : BitVec 3 := 0b111
  up      : Bool := false
  rate    : BitVec 2 := 0
  width   : BitVec 2 := 0
  bme     : Bool := false
  msixEn  : Bool := false
  /-- PSTAT.LINK_UP of the PCI Express-bound pages (R546) -/
  linkUp  : Bool := false
  evt     : BitVec 6 := 0
  bar0    : BitVec 16 := 0x4000
  i2cAddr : BitVec 7 := 0x3A
  cntFrameErr : Word := 0
  cntI2c  : Word := 0
  cntLost : Word := 0
  grants  : Tab (BitVec 22) := []
  owed    : List Nat := []
  /-- MSI-X vectors unmasked by the host (R545) -/
  unmasked : List Nat := []
  pages   : Tab PageIf := []
  devPage : PageIf := {}
  /-- the device page's memory by offset (command frame and response frame) -/
  devMem  : Tab Byte := []
  /-- response SEQ of the last OWN_CLAIM or IMAGE_REPLACE, whose reading starts the cold reset (R561) -/
  claim   : Option HostVia := none
  /-- STAGE data is held (R559) -/
  staged  : Bool := false
  spi     : V1Port := {}
  i2c     : V1Port := {}
  deriving DecidableEq, Repr, Inhabited

/-- GPIO (R569). [DESIGN CHOICE, log 61] -/
structure Gpio where
  out : BitVec 16 := 0
  oe  : BitVec 16 := 0
  pin : BitVec 16 := 0
  fn  : Bool := false
  deriving DecidableEq, Repr, Inhabited

/-- HI latches, one set per requester (R593): TIME, FRAME_NO, and each lane's stamps. -/
structure Latches where
  time    : Word := 0
  frameNo : Word := 0
  stampTx : Tab Word := []
  stampRx : Tab Word := []
  deriving DecidableEq, Repr, Inhabited

/-- What leaves Nelvo on a wire, newest first in `State.out` (the model's own record). [DEDUCED, log 173] -/
inductive Output where
  | ctrl (l : Lane) (ctype : Byte) (vc : Nat) (seq : BitVec 12) (param : BitVec 16)
  | msix (vector : Nat)
  | frameOut (level : Bool)
  | host (via : HostVia) (bytes : Bytes)
  deriving DecidableEq, Repr, Inhabited

/-- The whole machine. -/
structure State where
  /-- commands waiting, first in first out -/
  pending : List Instr := []
  life    : Life := {}
  dbg     : Dbg := {}
  tap     : TapPort := {}
  clk     : Clk := {}
  pwr     : Pwr := {}
  tamp    : Tamp := {}
  /-- SRAM, user flash, vat, secure segment buffer and mailbox memory of the pages (R586) -/
  mem     : List Host.Cell := []
  nvm     : Nvm := {}
  /-- counter records 0-4607 (R292, R301) -/
  ctrs    : Tab CtrRec := []
  vault   : Vault := {}
  rng     : Rng := {}
  ks      : Keystone := {}
  casks   : Tab Cask := []
  caskBlk : CaskBlk := {}
  sched   : Sched := {}
  dec     : Dec := {}
  press   : Press := {}
  lat     : Lat := {}
  lanes   : Tab LaneSt := []
  lnk     : Tab LnkPage := []
  tile    : TileCtl := {}
  frame   : FrameSt := {}
  span    : Span := {}
  host    : HostSt := {}
  gpio    : Gpio := {}
  /-- HI latches by requester: 0 keystone, 1 debugger, 2 host -/
  latches : Tab Latches := []
  /-- words of a context's code that another requester changed since the context's last SYNC, by context number: address and old word
  (R155) -/
  stale   : Tab (List (Nat × Word)) := []
  /-- number of free values drawn so far (the model's own field) -/
  draw    : Nat := 0
  /-- wire outputs, newest first (the model's own field) -/
  out     : List Output := []
  deriving DecidableEq, Repr, Inhabited

/-- No command of this block stops with a fault: what the spec calls an exception, a refusal status or a violation is an
effect on State. The type has no constructor (safe). -/
inductive Fault where
  deriving DecidableEq, Repr

/-- Why a command has no meaning. -/
inductive Refusal where
  /-- raised by `exec` for a row of the table that this model does not give a meaning yet (safe) -/
  | notModelled (mnemonic : String)
  deriving DecidableEq, Repr

/-- The machine when the internal power-on reset is released (R84, R574) on a device as fabricated: life cycle BLANK,
boot waiting at step 1 for REFCLK, every register at its reset value, memory with nothing listed.
[DEDUCED, log 5; DESIGN CHOICE, log 60] -/
def State.reset : State := {}

end Sys2Proof.Machine
end

