-- ==== Sys2Proof/Machine/Ops.lean ====
section
/-! DEFINITION. The named operations every family shares: bit fields, byte orders, sparse tables, the byte memory,
casks and contexts, event lines, free values. -/

namespace Sys2Proof.Machine

open Sys2Proof

/-! ## Bits and bytes -/

/-- The `n` bits of `w` from bit `lo` up, as a number. -/
def fld {k : Nat} (w : BitVec k) (lo n : Nat) : Nat := (w.toNat >>> lo) % 2 ^ n

/-- The same bits as a bit vector of `n` bits. -/
def bv {k : Nat} (w : BitVec k) (lo n : Nat) : BitVec n := BitVec.ofNat n (w.toNat >>> lo)

/-- Bit `i` of `w`. -/
def bit {k : Nat} (w : BitVec k) (i : Nat) : Bool := w.getLsbD i

/-- A number as a 32-bit word, modulo 2^32. -/
def w32 (n : Nat) : Word := BitVec.ofNat 32 n

/-- A word with only bit `i` set (none when `i ≥ 32`). -/
def oneHot (i : Nat) : Word := w32 (2 ^ i)

/-- A Bool as bit `i` of a number. -/
def flag (b : Bool) (i : Nat) : Nat := if b then 2 ^ i else 0

/-- The low and high words of a 64-bit value. -/
def loW (d : Dword) : Word := w32 d.toNat
def hiW (d : Dword) : Word := w32 (d.toNat >>> 32)
/-- A 64-bit value from its high and low words. -/
def dword (hi lo : Word) : Dword := BitVec.ofNat 64 (hi.toNat * 2 ^ 32 + lo.toNat)

/-- `n` bytes of `v`, least significant first (R10). -/
def leBytes : Nat → Nat → Bytes
  | 0, _ => []
  | n + 1, v => BitVec.ofNat 8 v :: leBytes n (v / 256)

/-- The number a little-endian byte string holds (R10). -/
def leNat : Bytes → Nat
  | [] => 0
  | b :: bs => b.toNat + 256 * leNat bs

/-- `n` bytes of `v`, most significant first. -/
def beBytes (n v : Nat) : Bytes := (leBytes n v).reverse

/-- The number a big-endian byte string holds. -/
def beNat (bs : Bytes) : Nat := leNat bs.reverse

/-- `len` bytes of `bs` from offset `off`, zero beyond its end. -/
def slice (bs : Bytes) (off len : Nat) : Bytes :=
  let part := (bs.drop off).take len
  part ++ List.replicate (len - part.length) 0

/-- The little-endian word at byte offset `off` of `bs`. -/
def wordAt (bs : Bytes) (off : Nat) : Word := w32 (leNat (slice bs off 4))

/-- `n` zero bytes. -/
def zeros (n : Nat) : Bytes := List.replicate n 0

/-- Bytewise exclusive or, of the shorter length. -/
def xorBytes (a b : Bytes) : Bytes := List.zipWith (· ^^^ ·) a b

/-- Cuts a string into blocks of `n` bytes, the last one as it stands. `fuel` bounds the number of blocks. -/
def chunksAux (n : Nat) : Nat → Bytes → List Bytes
  | 0, _ => []
  | fuel + 1, bs => if bs.isEmpty then [] else bs.take n :: chunksAux n fuel (bs.drop n)
def chunks (n : Nat) (bs : Bytes) : List Bytes := chunksAux n (bs.length + 1) bs

/-- A byte as a number modulo 256, and a counter that stops at its largest value. -/
def byte (n : Nat) : Byte := BitVec.ofNat 8 n
def satAdd1 {k : Nat} (c : BitVec k) : BitVec k := if c = BitVec.allOnes k then c else c + 1

/-- Word with bits cleared where a write of ones clears (W1C, R5). -/
def w1c {k : Nat} (old w : BitVec k) : BitVec k := old &&& ~~~ w

/-! ## Sparse tables -/

/-- The value a table holds at `k`, `d` when it lists none. -/
def tget {α : Type} : Tab α → Nat → α → α
  | [], _, d => d
  | (j, v) :: t, k, d => if j = k then v else tget t k d

/-- The table with `k` set to `v`. -/
def tset {α : Type} : Tab α → Nat → α → Tab α
  | [], k, v => [(k, v)]
  | (j, w) :: t, k, v =>
    if j = k then (k, v) :: t
    else if k < j then (k, v) :: (j, w) :: t
    else (j, w) :: tset t k v

/-- The table with the value at `k` (default `d`) changed by `f`. -/
def tmod {α : Type} (t : Tab α) (k : Nat) (d : α) (f : α → α) : Tab α := tset t k (f (tget t k d))

/-- The table without the key `k`. -/
def tdel {α : Type} (t : Tab α) (k : Nat) : Tab α := t.filter fun e => e.1 ≠ k

/-! ## The byte memory (R586) -/

/-- What an address that lists no byte reads as: 0xFF (erased) in the user flash, 0 elsewhere (notes/assumptions/6.md).
[DESIGN CHOICE, log 6] -/
def memDefault (a : Nat) : Byte := if 0x00100000 ≤ a ∧ a < 0x01000000 then 0xFF else 0

/-- The byte at `a`. [DESIGN CHOICE, log 6] -/
def memRead : List Host.Cell → Nat → Byte
  | [], a => memDefault a
  | (k, v) :: m, a => if k = a then v else memRead m a

/-- The cells of the bytes `bs` from address `a` that differ from what an unlisted address reads as. -/
def cellsOf : Nat → Bytes → List Host.Cell
  | _, [] => []
  | a, b :: bs => if b = memDefault a then cellsOf (a + 1) bs else (a, b) :: cellsOf (a + 1) bs

/-- The memory with the bytes `bs` stored from address `a`. -/
def memSplice (m : List Host.Cell) (a : Nat) (bs : Bytes) : List Host.Cell :=
  m.filter (fun c => c.1 < a) ++ (cellsOf a bs ++ m.filter fun c => a + bs.length ≤ c.1)

/-- The memory with `n` bytes from `a` back at what an unlisted address reads as: SRAM zeroized, flash erased. -/
def memClear (m : List Host.Cell) (a n : Nat) : List Host.Cell :=
  m.filter fun c => decide (c.1 < a) || decide (a + n ≤ c.1)

/-- Every address of the list lies above `lo`, and addresses rise strictly. -/
def memSorted : Nat → List Host.Cell → Bool
  | _, [] => true
  | lo, c :: m => decide (lo ≤ c.1) && memSorted (c.1 + 1) m

/-- The canonical form: addresses strictly rising, and no byte equal to what an unlisted address reads as. -/
def Memory.wf (m : List Host.Cell) : Bool := memSorted 0 m && m.all fun c => c.2 != memDefault c.1

/-- The byte at address `a`. -/
def State.rd (s : State) (a : Nat) : Byte := memRead s.mem a
/-- The `n` bytes from address `a`. -/
def State.rdBytes (s : State) (a n : Nat) : Bytes := (List.range n).map fun i => s.rd (a + i)
/-- The little-endian number in the `n` bytes from address `a`. -/
def State.rdLe (s : State) (a n : Nat) : Nat := leNat (s.rdBytes a n)
/-- The bytes `bs` stored from address `a`. -/
def State.wrBytes (s : State) (a : Nat) (bs : Bytes) : State := { s with mem := memSplice s.mem a bs }
/-- `n` bytes from `a` zeroized (or erased, in the user flash). -/
def State.clear (s : State) (a n : Nat) : State := { s with mem := memClear s.mem a n }

/-! ## Physical map (R586) -/

def sramBase : Nat := 0x10000000
def sramSize : Nat := 0x400000
def flashBase : Nat := 0x00100000
def flashEnd : Nat := 0x01000000
def vatBase : Nat := 0x20000000
def vatSize : Nat := 0x800000
def ssbBase : Nat := 0x30000000
def ssbSize : Nat := 0x80000
def pagesBase : Nat := 0x50000000

/-- Whether `n` bytes from `a` lie in the `size` bytes from `base` (no wrap, R221). -/
def inRange (a n base size : Nat) : Bool := decide (base ≤ a) && decide (a + n ≤ base + size)

/-! ## Contexts -/

/-- The page number of a context: its cask number, or 1024 for the keystone (R211, R543). -/
def ctxNum : Ctx → Nat
  | .keystone => 1024
  | .cask n => n.toNat

/-- The context of a page number. -/
def ctxOf (n : Nat) : Ctx := if n = 1024 then .keystone else .cask (BitVec.ofNat 10 n)

def State.cask (s : State) (n : Nat) : Cask := tget s.casks n {}
def State.setCask (s : State) (n : Nat) (k : Cask) : State := { s with casks := tset s.casks n k }
def State.modCask (s : State) (n : Nat) (f : Cask → Cask) : State := s.setCask n (f (s.cask n))

/-- The live registers of a context. -/
def State.regs (s : State) : Ctx → Regs
  | .keystone => s.ks.regs
  | .cask n => (s.cask n.toNat).regs
def State.setRegs (s : State) (c : Ctx) (r : Regs) : State :=
  match c with
  | .keystone => { s with ks := { s.ks with regs := r } }
  | .cask n => s.setCask n.toNat { s.cask n.toNat with regs := r }
def State.modRegs (s : State) (c : Ctx) (f : Regs → Regs) : State := s.setRegs c (f (s.regs c))

/-- EVT.PEND of a context (R164). -/
def State.pendOf (s : State) : Ctx → Word
  | .keystone => s.ks.pend
  | .cask n => (s.cask n.toNat).pend
def State.setPend (s : State) (c : Ctx) (p : Word) : State :=
  match c with
  | .keystone => { s with ks := { s.ks with pend := p } }
  | .cask n => s.setCask n.toNat { s.cask n.toNat with pend := p }

/-! ## Event lines (R247, R250, R255) -/

/-- The boost a line that becomes pending gives a cask that is not resident and READY (R255, R256). -/
def boostFor (now : Time) (line : Nat) (k : Cask) : Cask :=
  if bit k.boostMask line && k.slot.isNone && k.state == .ready && !k.boostUsed && !k.boosted then
    { k with boosted := true, boostAt := now }
  else k

/-- A line becomes pending. A DISABLED or DISABLING cask has no line set (R249, R271). -/
def State.raiseLine (s : State) (c : Ctx) (line : Nat) : State :=
  match c with
  | .keystone => s.setPend .keystone (s.ks.pend ||| oneHot line)
  | .cask n =>
    let k := s.cask n.toNat
    if k.state = .disabled ∨ k.state = .disabling ∨ bit k.pend line then s
    else s.setCask n.toNat (boostFor s.clk.time line { k with pend := k.pend ||| oneHot line })

/-- A keystone line set by hardware (R250). -/
def State.ksLine (s : State) (line : Nat) : State := s.raiseLine .keystone line

/-- Keystone lines by name (R250). -/
def lineTamper : Nat := 0
def lineCaskFault : Nat := 1
def lineViolation : Nat := 2
def lineDrainDone : Nat := 3
def linePower : Nat := 4
def lineDebug : Nat := 5
def lineCaskStart : Nat := 6
def lineNvm : Nat := 7
def lineLink : Nat := 8
def lineTile : Nat := 9
def lineFrame : Nat := 10
def lineSpan : Nat := 11
def lineHost : Nat := 12
def lineEngineFault : Nat := 13

/-! ## Free values -/

/-- `n` bytes of a free value, and the state after the draw. [DESIGN CHOICE, log 7] -/
def State.drawBytes (s : State) (n : Nat) : Bytes × State :=
  ((List.range n).map (Config.freeByte s.draw), { s with draw := s.draw + 1 })
/-- `n` bytes of CTR_DRBG output: free bytes, and one generate request more since the last reseed (ch. 09).
[DEDUCED, log 108; DESIGN CHOICE, log 7] -/
def State.drbg (s : State) (n : Nat) : Bytes × State :=
  let d := s.drawBytes n
  (d.1, { d.2 with rng := { d.2.rng with requests := d.2.rng.requests + 1 } })
/-- A free number. [DESIGN CHOICE, log 7] -/
def State.drawNat (s : State) : Nat × State := (Config.freeNat s.draw, { s with draw := s.draw + 1 })

/-! ## Clock domains (R75) -/

/-- The `n` domains from `lo` are clocked again on a request (R75). -/
def State.ungate (s : State) (lo n : Nat) : State :=
  { s with clk := { s.clk with gated := s.clk.gated.filter fun d => decide (d < lo) || decide (lo + n ≤ d) } }

/-! ## Outputs -/

/-- An output on a wire, recorded newest first (the model's own record). [DESIGN CHOICE, log 7] -/
def State.emit (s : State) (o : Output) : State := { s with out := o :: s.out }

/-! ## Request blocks of a page (R283, R284, R588) -/

/-- Offsets of the request blocks in a page. -/
def blkNvm : Nat := 0xF00
def blkVault : Nat := 0xF20
def blkPke : Nat := 0xF40
def blkTile : Nat := 0xF60

/-- The physical address of offset `off` in a context's page (R588). -/
def pageAddr (c : Ctx) (off : Nat) : Nat := pagesBase + 0x1000 * ctxNum c + off

/-- A cask that takes no further output of any engine into its memory (R271 step 1). -/
def State.caskLive (s : State) (n : Nat) : Bool :=
  (s.cask n).state != .disabled && (s.cask n).state != .disabling

/-- The same for a context; the keystone always takes its output. -/
def State.ctxLive (s : State) : Ctx → Bool
  | .keystone => true
  | .cask n => s.caskLive n.toNat

/-- A value the spec states, or a free one where it states none. [DESIGN CHOICE, log 42] -/
def State.orFree (s : State) (v : Option Word) : Word × State :=
  match v with
  | some w => (w, s)
  | none => (w32 (leNat (s.drawBytes 4).1), (s.drawBytes 4).2)

/-- Completion of a request: RESULT, STATUS and DONE written, the completion line raised (R284). RESULT is a free value where the
spec states none. Nothing reaches a cask that drains (R271). -/
def State.completeBlock (s : State) (c : Ctx) (blk : Nat) (result : Option Word) (status line : Nat) : State :=
  if !s.ctxLive c then s
  else
    let r := s.orFree result
    (r.2.wrBytes (pageAddr c (blk + 0x10)) (leBytes 4 r.1.toNat ++ leBytes 4 (status % 256 + 2 ^ 31))).raiseLine c line

/-- GO: DONE cleared and the block's words written as the request names them (R283, R284). -/
def State.loadBlock (s : State) (c : Ctx) (blk : Nat) (op : Nat) (r : Req) : State :=
  let w0 := op % 256 + r.typ.toNat * 2 ^ 8 + r.policy.toNat * 2 ^ 16 + r.line.toNat * 2 ^ 24
  s.wrBytes (pageAddr c blk)
    (leBytes 4 w0 ++ leBytes 4 r.arg0.toNat ++ leBytes 4 r.arg1.toNat ++ leBytes 4 r.arg2.toNat)

/-- GO clears DONE, and keeps the rest of the status word. -/
def State.clearDone (s : State) (c : Ctx) (blk : Nat) : State :=
  s.wrBytes (pageAddr c (blk + 0x17)) [s.rd (pageAddr c (blk + 0x17)) &&& 0x7F]

/-- The request a block holds (R283). -/
def State.readBlock (s : State) (c : Ctx) (blk : Nat) : Nat × Req :=
  let w (i : Nat) : Word := w32 (s.rdLe (pageAddr c (blk + 4 * i)) 4)
  (fld (w 0) 0 8, { typ := bv (w 0) 8 8, policy := bv (w 0) 16 8, line := bv (w 0) 24 5,
                    arg0 := w 1, arg1 := w 2, arg2 := w 3 })

/-- The one of some candidates that a choice left open takes (log 7). [DESIGN CHOICE, log 38] -/
def choose {α : Type} (k : Nat) : List α → Option α
  | [] => none
  | [a] => some a
  | a :: b :: as => some ((a :: b :: as).getD (k % (as.length + 2)) a)

/-! ## Engine shares (R264, R265) -/

/-- The weight of a requester: its cask's, or the keystone's of R265 given the requesters that wait. [DEDUCED, log 104] -/
def State.engineWeight (s : State) (waiting : List Nat) (n : Nat) : Nat :=
  if n = 1024 then
    max s.sched.ksw.toNat ((((waiting.filter (· < 1024)).map fun i => (s.cask i).weight.toNat).sum + 14) / 15)
  else (s.cask n).weight.toNat

/-- The rounds in which the deficit of a requester reaches the cost of the work at its head. -/
def roundsFor (deficit cost gain : Nat) : Nat := (cost - deficit + gain - 1) / max 1 gain

/-- Deficit round robin with quantum `q` among requesters with the cost of the work at their heads: as many rounds as the first of
them needs, then a page that can be served, `turn` choosing which. The page, and the deficits with its cost taken off (R264).
[DEDUCED, log 104; DESIGN CHOICE, log 38] -/
def State.drrPick (s : State) (turn : Nat) (deficit : Tab Nat) (q : Nat) (ws : List (Nat × Nat)) : Option (Nat × Tab Nat) :=
  let ns := ws.map (·.1)
  let gain (n : Nat) : Nat := q * s.engineWeight ns n
  let need (w : Nat × Nat) : Nat := roundsFor (tget deficit w.1 0) w.2 (gain w.1)
  match (ws.map need).min? with
  | none => none
  | some r =>
    let grown : Tab Nat := ws.map fun w => (w.1, tget deficit w.1 0 + r * gain w.1)
    match choose turn (ws.filter fun w => need w == r) with
    | none => none
    | some w => some (w.1, tmod grown w.1 0 (· - w.2))

/-! ## TIME (R69, R258) -/

/-- The ticks SCHED_USED of a cask grows by: it holds a slot, is RUNNING and is not frozen (R258). -/
def chargeCask (frozen : Bool) (d : Nat) (k : Cask) : Cask :=
  if k.slot.isSome && !k.leaving && k.state == .running && !frozen then { k with used := k.used + d } else k

/-- TIME counts: REFCLK is present and boot step 1 has ended (R69, R70). -/
def State.timeCounts (s : State) : Bool := s.pwr.mainPower && s.clk.refclk && s.clk.timeOn

/-- `d` ticks of 10 ns pass (R69, R258). [DESIGN CHOICE, log 9, 58] -/
def State.advance (s : State) (d : Nat) : State :=
  if s.timeCounts ∧ 0 < d then
    { s with clk := { s.clk with time := s.clk.time + BitVec.ofNat 64 d }
             casks := s.casks.map fun e => (e.1, chargeCask (s.tamp.frozen || s.tamp.wind.isSome) d e.2) }
  else s

/-- TIME as of an event that carries its time: TIME never goes back (R69). [DESIGN CHOICE, log 9] -/
def State.atTime (s : State) (now : Time) : State := s.advance (now.toNat - s.clk.time.toNat)

end Sys2Proof.Machine
end

