-- ==== Sys2Proof/Machine/Counters.lean ====
section
/-! DEFINITION. Course counters: their encoding in bases, tag and cells, reading, incrementing, folding, what an
interruption leaves and the repair at boot step 4 (R301-R308). -/

namespace Sys2Proof.Machine

open Sys2Proof

/-- A record as LC_PROVISION sets it: BASE1 with VALUE 0 and GEN 1, TAG 1, every cell ERASED (ch. 09). -/
def ctrFresh : CtrRec := { base1 := some { value := 0, gen := 1 }, tag := some 1 }

/-- Counter record `c`. A record that nothing has changed is fresh once LC_PROVISION has run, and has no valid base before.
[DEDUCED, log 111] -/
def State.ctr (s : State) (c : Nat) : CtrRec :=
  tget s.ctrs c (if s.life.tokenTable.isSome then ctrFresh else {})
def State.setCtr (s : State) (c : Nat) (r : CtrRec) : State := { s with ctrs := tset s.ctrs c r }

/-- Cell `i` of a record. -/
def ctrCell (r : CtrRec) (i : Nat) : Cell2 := r.cells.getD i .erased

/-- The base in force: the highest GEN among the valid bases (R302). -/
def ctrBase (r : CtrRec) : Option CBase :=
  match r.base0, r.base1 with
  | some a, some b => if a.gen.toNat < b.gen.toNat then some b else some a
  | some a, none => some a
  | none, b => b

/-- k of R302: the consecutive PROGRAMMED cells from cell 0 when TAG is valid and equals g. -/
def ctrCount (r : CtrRec) (g : Word) : Nat :=
  if r.tag = some g then (((List.range 64).map (ctrCell r)).takeWhile (· == .programmed)).length else 0

/-- The value V + k; `none` when neither base is valid (R302). -/
def ctrVal (r : CtrRec) : Option Nat := (ctrBase r).map fun b => b.value.toNat + ctrCount r b.gen

/-- The record with BASE(g mod 2) of generation `g` set to `b`. -/
def ctrSetBase (r : CtrRec) (g : Word) (b : Option CBase) : CtrRec :=
  if bit g 0 then { r with base1 := b } else { r with base0 := b }

/-- The states a fold at value `v` from generation `g` passes through, after each of R304's steps. -/
def ctrFoldSteps (r : CtrRec) (g : Word) (v : Nat) : List CtrRec :=
  let r1 := ctrSetBase r (g + 1) none
  let r2 := ctrSetBase r (g + 1) (some { value := BitVec.ofNat 64 v, gen := g + 1 })
  let r3 := { r2 with tag := none, cells := [] }
  [r1, r2, r3, { r3 with tag := some (g + 1) }]

/-- The record with cell `i` at `v`. -/
def ctrSetCell (r : CtrRec) (i : Nat) (v : Cell2) : CtrRec :=
  { r with cells := ((List.range 64).map (ctrCell r)).set i v }

/-- The states the programming of cells k + n − 1 down to k passes through: each cell PARTIAL, then PROGRAMMED (R303). -/
def ctrCellSteps (k : Nat) : Nat → CtrRec → List CtrRec
  | 0, _ => []
  | n + 1, r =>
    let done := ctrSetCell r (k + n) .programmed
    ctrSetCell r (k + n) .partialCell :: done :: ctrCellSteps k n done

/-- Every state an increment by `b` passes through after the start, last the finished one; empty when it changes nothing.
[DEDUCED, log 111] -/
def ctrIncSteps (r : CtrRec) (b : Nat) : List CtrRec :=
  match ctrBase r with
  | none => []
  | some base =>
    let k := ctrCount r base.gen
    if 2 ^ 64 ≤ base.value.toNat + k + b then []
    else if k + b ≤ 64 then ctrCellSteps k b r
    else
      let fs := ctrFoldSteps r base.gen (base.value.toNat + k)
      fs ++ ctrCellSteps 0 b (fs.getLastD r)

/-- The record after a whole increment by `b` (R303, R304). -/
def ctrInc (r : CtrRec) (b : Nat) : CtrRec := (ctrIncSteps r b).getLastD r

/-- The outcome of an increment: OK, AT_MAX (R307) or NVM_FAULT (R302). -/
inductive CtrRes where
  | ok (value : Nat)
  | atMax
  | nvmFault
  deriving DecidableEq, Repr

/-- An increment of counter `c` by `b`, with its outcome; a fault of the NVM or a record without a base changes nothing.
[DEDUCED, log 111] -/
def State.ctrAdd (s : State) (c b : Nat) (fault : Bool) : CtrRes × State :=
  match ctrVal (s.ctr c) with
  | none => (.nvmFault, s.ksLine lineNvm)
  | some v =>
    if fault then (.nvmFault, s)
    else if 2 ^ 64 ≤ v + b then (.atMax, s)
    else (.ok (v + b), s.setCtr c (ctrInc (s.ctr c) b))

/-- The value of counter `c` as registers show it: 0 for a record without a valid base. -/
def State.ctrNat (s : State) (c : Nat) : Nat := (ctrVal (s.ctr c)).getD 0

/-- Reserved counters by name (R308). -/
def ctrTokcnt : Nat := 0
def ctrDbgEpoch : Nat := 1
def ctrWipe : Nat := 2
def ctrKsver : Nat := 128

/-- One count of a reserved counter by hardware. -/
def State.ctrBump (s : State) (c : Nat) : State := (s.ctrAdd c 1 false).2

/-- The repair of one record at boot step 4 (R305). [DEDUCED, log 111] -/
def ctrRepair (r : CtrRec) : CtrRec :=
  match ctrBase r with
  | none => r
  | some base =>
    let r1 := if r.tag = some base.gen then r else { r with tag := some base.gen, cells := [] }
    let cs := ((List.range 64).map (ctrCell r1)).map fun x => if x = .partialCell then .programmed else x
    let r2 := { r1 with cells := cs }
    if (cs.dropWhile (· == .programmed)).any (· == .programmed) then
      (ctrFoldSteps r2 base.gen (base.value.toNat + ctrCount r2 base.gen)).getLastD r2
    else r2

/-- Boot step 4's repair of every record that lists a change. -/
def State.ctrRepairAll (s : State) : State := { s with ctrs := s.ctrs.map fun e => (e.1, ctrRepair e.2) }

/-- An increment in flight meets a reset or a loss of power: how many of its steps are done is free (R305).
[DEDUCED, log 66, 111] -/
def State.ctrInterrupt (s : State) (c b : Nat) : State :=
  let d := s.drawNat
  let st := s.ctr c :: ctrIncSteps (s.ctr c) b
  d.2.setCtr c (st.getD (d.1 % st.length) (s.ctr c))

end Sys2Proof.Machine
end

