-- ==== Sys2Proof/Machine/LinkBase.lean ====
section
/-! DEFINITION. Lanes, virtual channels and tiles: the operations that other families share. Sending a packet, credits,
what a lane that leaves UP discards and completes, a tile that goes (R417-R434, R439, R446, R468-R473). -/

namespace Sys2Proof.Machine

open Sys2Proof

/-! ## Lanes and virtual channels -/

def State.laneAt (s : State) (l : Nat) : LaneSt := tget s.lanes l {}
def State.setLane (s : State) (l : Nat) (x : LaneSt) : State := { s with lanes := tset s.lanes l x }
def State.modLane (s : State) (l : Nat) (f : LaneSt → LaneSt) : State := s.setLane l (f (s.laneAt l))

/-- The reset state of a virtual channel: VC 0 belongs to hardware (R442). -/
def vcReset (v : Nat) : VcState := { owner := if v = 0 then 0x7FE else 0x7FF }
def LaneSt.vcAt (x : LaneSt) (v : Nat) : VcState := tget x.vc v (vcReset v)
def LaneSt.setVc (x : LaneSt) (v : Nat) (c : VcState) : LaneSt := { x with vc := tset x.vc v c }
def State.vcAt (s : State) (l v : Nat) : VcState := (s.laneAt l).vcAt v
def State.setVc (s : State) (l v : Nat) (c : VcState) : State := s.modLane l fun x => x.setVc v c

/-- The lane is an egress lane in UP (R26, R434). -/
def State.egressUp (s : State) (l : Nat) : Bool := (s.laneAt l).role == 2 && (s.laneAt l).state == .up
/-- Some egress lane is UP (R84, R111). -/
def State.anyEgressUp (s : State) : Bool := (List.range 12).any s.egressUp

/-- Credits a packet holds, 1 to 5 (ch. 13, before R423). -/
def pktCredits (p : TxPkt) : Nat := (12 + p.body.length + 255) / 256

/-- Credits of a VC with `v` agreed VCs (R423). -/
def vcSize (agreed v : Nat) : Nat :=
  if agreed ≤ v then 0 else if agreed = 1 then 256 else if v = 0 then 128 else 128 / (agreed - 1)

/-- Credits of a VC held by packets sent and not yet acknowledged. -/
def vcHeld (c : VcState) : Nat := (c.replay.map pktCredits).sum

/-- The packet a VC sends next, and the VC without it: hardware's own traffic in order, then requesters by deficit round robin with a
quantum of 64 bytes (R264, R266). [DEDUCED, log 132] -/
def State.vcNext (s : State) (c : VcState) : Option (TxPkt × VcState) :=
  match c.queue.find? (·.owner.isNone) with
  | some p => some (p, { c with queue := c.queue.eraseP (·.owner.isNone) })
  | none =>
    match s.drrPick (Config.linkTurn s.draw c.txSeq.toNat) c.deficit 64 (c.queue.filterMap fun p => p.owner.map fun n => (n, p.body.length)) with
    | none => none
    | some (n, d) => (c.queue.find? (·.owner == some n)).map fun p =>
        (p, { c with queue := c.queue.eraseP (·.owner == some n), deficit := d })

/-- One packet leaves the queue when its credits are free: it takes the next SEQ and enters the replay buffer (R420, R423). -/
def State.vcSend (s : State) (size : Nat) (c : VcState) : VcState :=
  match s.vcNext c with
  | none => c
  | some (p, d) =>
    if vcHeld c + pktCredits p ≤ size then
      { d with replay := d.replay ++ [{ p with seq := d.txSeq, sent := 1 }], txSeq := d.txSeq + 1 }
    else c

/-- The lane sends what its queues and credits allow, once it is UP (R432). -/
def State.pump (s : State) (l v : Nat) : State :=
  let x := s.laneAt l
  if x.state = .up then
    s.setVc l v ((x.vcAt v).queue.foldl (fun c _ => s.vcSend (vcSize x.v v) c) (x.vcAt v))
  else s

/-- A packet is put in its VC's queue (R432). Hardware's own traffic on VC 0 waits in the same list. [DEDUCED, log 132] -/
def State.enqueue (s : State) (l v : Nat) (p : TxPkt) : State :=
  let c := s.vcAt l v
  (s.setVc l v { c with queue := c.queue ++ [p] }).pump l v

/-- A VC's queue has room for one more packet (R423, R432). [DEDUCED, log 132] -/
def State.queueRoom (s : State) (l v : Nat) : Bool := decide ((s.vcAt l v).queue.length < 16)

/-- A control packet on a lane (R415). -/
def State.sendCtrl (s : State) (l : Lane) (ctype : Byte) (vc : Nat) (seq : BitVec 12) (param : BitVec 16) : State :=
  s.emit (.ctrl l ctype vc seq param)

/-- A MGMT packet to a tile: the 4-byte prefix, then the body (R447). -/
def State.sendMgmt (s : State) (l : Nat) (addr mcode : Byte) (body : Bytes) : State :=
  s.enqueue l 0 { typ := .mgmt, addr := addr, body := [mcode, 0, 0, 0] ++ body }

/-! ## LNK requests that end (R438, R439) -/

def State.lnkPage (s : State) (n : Nat) : LnkPage := tget s.lnk n {}
def State.setLnk (s : State) (n : Nat) (p : LnkPage) : State := { s with lnk := tset s.lnk n p }

/-- A page's packet leaves the queue unsent; one in the replay buffer carries no request any more. [DEDUCED, log 132] -/
def detachVc (n : Nat) (c : VcState) : VcState :=
  { c with queue := c.queue.filter (fun p => p.owner ≠ some n)
           replay := c.replay.map fun p => if p.owner = some n then { p with owner := none } else p }

/-- Completion of a page's request: RESULT, ACTIVE cleared, LINE raised when EVENT is 1 (R438). -/
def State.lnkComplete (s : State) (n : Nat) (code : BitVec 5) : State :=
  let p := s.lnkPage n
  match p.job with
  | none => s
  | some j =>
    let s0 := s.setVc j.lane.val j.vc.val (detachVc n (s.vcAt j.lane.val j.vc.val))
    let s1 := s0.setLnk n { p with job := none, result := code }
    if j.event then s1.raiseLine (ctxOf n) j.line.toNat else s1

/-- The page's packet still waits unsent in a queue of lane `l`. -/
def State.lnkUnsent (s : State) (l n : Nat) : Bool :=
  (s.laneAt l).vc.any fun e => e.2.queue.any fun p => p.owner == some n

/-- Requests on lane `l` end with LINK_LOST; those unsent are kept when `keepUnsent` (R430, R439). -/
def State.lnkLost (s : State) (l : Nat) (keepUnsent : Bool) : State :=
  s.lnk.foldl (fun t e =>
    match e.2.job with
    | some j => if j.lane.val = l ∧ ¬ (keepUnsent ∧ s.lnkUnsent l e.1) then t.lnkComplete e.1 5 else t
    | none => t) s

/-! ## Tiles (R446, R468, R472) -/

/-- The key of a tile in the tile table: 64 × lane + address (R468, R476). -/
def tileKey (l addr : Nat) : Nat := 64 * l + addr
def State.tileAt (s : State) (k : Nat) : Tile := tget s.tile.tiles k {}
def State.setTile (s : State) (k : Nat) (t : Tile) : State :=
  { s with tile := { s.tile with tiles := tset s.tile.tiles k t } }
def State.modTile (s : State) (k : Nat) (f : Tile → Tile) : State := s.setTile k (f (s.tileAt k))
def State.chainAt (s : State) (l : Nat) : Chain := tget s.tile.chains l {}
def State.setChain (s : State) (l : Nat) (c : Chain) : State :=
  { s with tile := { s.tile with chains := tset s.tile.chains l c } }
def State.modChain (s : State) (l : Nat) (f : Chain → Chain) : State := s.setChain l (f (s.chainAt l))
def State.makerAt (s : State) (m : Nat) : Maker := tget s.tile.makers m {}
def State.loopAt (s : State) (n : Nat) : Loop := tget s.tile.loops n {}
def State.setLoop (s : State) (n : Nat) (x : Loop) : State :=
  { s with tile := { s.tile with loops := tset s.tile.loops n x } }

/-- A tile holds its address from the time it is found until its session ends (R446, R472). -/
def tileHeld (t : Tile) : Bool := t.state != .absent && t.state != .gone

/-- Keys of the tiles of a chain that hold an address, in address order. -/
def State.chainTiles (s : State) (l : Nat) : List Nat :=
  ((List.range 64).map (tileKey l)).filter fun k => tileHeld (s.tileAt k)

/-- The lowest address no tile of the chain holds (R446). -/
def State.freeAddr (s : State) (l : Nat) : Option Nat :=
  (List.range 64).find? fun a => !tileHeld (s.tileAt (tileKey l a))

/-- The cask that owns a tile, by its maker entry; `none` when the entry is not valid. -/
def State.tileOwner (s : State) (k : Nat) : Option Nat :=
  match (s.tileAt k).maker with
  | none => none
  | some i => if (s.makerAt i.toNat).valid then some (s.makerAt i.toNat).owner.toNat else none

/-- CHANGE for the chain and keystone line 9 (R472, R476). -/
def State.tileChange (s : State) (l : Nat) : State :=
  ({ s with tile := { s.tile with change := s.tile.change ||| BitVec.ofNat 12 (2 ^ l) } }).ksLine lineTile

/-- ALERT for the chain and keystone line 9 (R454, R456). -/
def State.tileAlert (s : State) (l : Nat) : State :=
  ({ s with tile := { s.tile with alert := s.tile.alert ||| BitVec.ofNat 12 (2 ^ l) } }).ksLine lineTile

/-- Address of a tile's record in the loop buffer of cask `n` (R468). -/
def State.recordAddr (s : State) (n k : Nat) : Nat := (s.loopAt n).buffer.toNat + 32 * k

/-- A tile's exchange of the running pass ends; when it was the last, the pass line is raised (R468). -/
def State.loopAnswered (s : State) (n k : Nat) : State :=
  let x := s.loopAt n
  if x.waiting.contains k then
    let rest := x.waiting.filter (· ≠ k)
    let s1 := s.setLoop n { x with waiting := rest }
    if rest.isEmpty then s1.raiseLine (.cask (BitVec.ofNat 10 n)) x.line.toNat else s1
  else s

/-- Flag bits set in the tile's record of a running loop (R468). [DEDUCED, log 141] -/
def State.markRecord (s : State) (n k : Nat) (f : Byte → Byte) : State :=
  if (s.loopAt n).running ∧ s.caskLive n then
    let a := s.recordAddr n k + 8
    s.wrBytes a [f (s.rd a)]
  else s

/-- An outstanding LIMIT of the tile completes (R467, R470). -/
def State.limitEnd (s : State) (k : Nat) (status : Nat) : State :=
  match (s.tileAt k).limitOf with
  | none => s
  | some (n, _, line) =>
    let s1 := s.modTile k fun t => { t with limitOf := none }
    s1.completeBlock (.cask n) blkTile none status line.toNat

/-- Authentications running (R466). -/
def State.authCount (s : State) : Nat := (s.tile.tiles.filter fun e => e.2.state == .auth).length

/-- Waiting authentications begin with an ephemeral key generation while fewer than 8 run (R462, R466). [DEDUCED, log 139] -/
def State.authPump (s : State) : State :=
  s.tile.tiles.foldl (fun t e =>
    let x := t.tileAt e.1
    if x.wantAuth ∧ t.authCount < 8 then
      t.setTile e.1 { x with state := .auth, fail := 0, wantAuth := false, exch := x.exch ++ [.keygen] }
    else t) s

/-- The session of a tile ends with its keys; it takes state `st` with code `fail` (R463, R472). -/
def State.tileEnd (s : State) (k : Nat) (st : TState) (fail : BitVec 4) : State :=
  let owner := s.tileOwner k
  let s1 := (s.limitEnd k 1).modTile k fun t =>
    { t with state := st, fail := fail, exch := [], wantAuth := false, kdat := [], kctl := [], kack := [], nonceN := [],
             ephPriv := [], ephN := [],
             hello := [], resp := [], h := [], lit := false, limitOf := none }
  (match owner with
  | none => s1
  | some n => s1.loopAnswered n k).authPump

/-- A tile is GONE: session ended, its record marked, CHANGE and keystone line 9 (R472). -/
def State.tileGone (s : State) (k : Nat) : State :=
  let s1 := match s.tileOwner k with
    | none => s
    | some n => s.markRecord n k (· ||| 0x04)
  (s1.tileEnd k .gone 0).tileChange (k / 64)

/-- Every tile of a chain is GONE, and its search or enumeration ends (R472). -/
def State.chainGone (s : State) (l : Nat) : State :=
  let s1 := (s.chainTiles l).foldl State.tileGone s
  s1.modChain l fun c => { c with search := none, enum := none,
                                  pstate := if c.pstate = .searching then .idle else c.pstate }

/-- Outstanding LIMITs of a chain end with TILE_GONE when its lane leaves UP (R470). -/
def State.limitsLost (s : State) (l : Nat) : State :=
  (s.chainTiles l).foldl (fun t k => t.limitEnd k 1) s

/-! ## State changes of a lane (R426-R431) -/

/-- What a lane that leaves UP discards: replay buffers, and all queued packets but unsent REQs (R430). -/
def vcLeaveUp (c : VcState) : VcState :=
  { c with replay := [], queue := c.queue.filter (fun p => p.typ == .req), txSeq := 0, exp := 0, nakOut := false,
           sinceAck := 0 }

/-- Segments in assembly on the lane are dropped with it (R488, R491). -/
def State.dropAssemblies (s : State) (l : Nat) : State :=
  { s with frame := { s.frame with asm := s.frame.asm.filter fun e => e.1 / 8 ≠ l } }

/-- The lane leaves UP (R430, R431, R439, R470, R516); a SYNCING member that loses a link starts again (R538). -/
def State.leaveUp (s : State) (l : Nat) : State :=
  if (s.laneAt l).state = .up then
    let s1 := (s.lnkLost l true).limitsLost l
    let s2 := s1.modLane l fun x =>
      { x with vc := x.vc.map (fun e => (e.1, vcLeaveUp e.2)), evtLeft := true, v := 0, frameOk := false }
    let auth := s2.span.links.any fun e => e.1 == l && e.2.hello && e.2.ack
    let links := tdel s2.span.links l
    let s3 := { s2 with span :=
      if auth ∧ s2.span.state = MState.syncing then
        { s2.span with links := links, locked := false, inRange := 0, outRange := 0, gotSchedule := false, gotReports := 0 }
      else { s2.span with links := links } }
    (s3.dropAssemblies l).ksLine lineLink
  else s

/-- Unsent requests end with LINK_LOST when the lane reaches WAIT or DOWN, and its tiles are GONE (R430, R472). -/
def State.laneLost (s : State) (l : Nat) : State :=
  let s1 := s.lnkLost l false
  let s2 := s1.modLane l fun x => { x with vc := x.vc.map fun e => (e.1, { e.2 with queue := [] }) }
  s2.chainGone l

/-- The lane enters state `st` (WAIT, DOWN, CAL, TRAIN or RETRAIN). Requests queued before it was ever UP stay queued (R443).
[DEDUCED, log 133] -/
def State.laneTo (s : State) (l : Nat) (st : LState) : State :=
  let ends := st = .down ∨ (st = .wait ∧ (s.laneAt l).state = .retrain)
  let s1 := (s.leaveUp l).modLane l fun x =>
    { x with state := st, tsCount := 0, ts2 := false, ts2Count := 0, locked := false,
             attempt := if st = .retrain then 1 else 0 }
  if ends then s1.laneLost l else s1

/-- The lane goes DOWN (R426). -/
def State.laneDown (s : State) (l : Nat) : State := s.laneTo l .down

/-- Every lane goes DOWN. -/
def State.allLanesDown (s : State) : State := (List.range 12).foldl State.laneDown s

end Sys2Proof.Machine
end

