-- ==== Sys2Proof/Machine/Response.lean ====
section
/-! DEFINITION. What every reset clears and keeps, the zeroizations, the wind-down and the graded tamper response
(R29, R30, R84-R86, R104, R110-R119, R124, R125): the operations that life cycle, power, tamper and debug share. -/

namespace Sys2Proof.Machine

open Sys2Proof

/-! ## Life-cycle facts -/

/-- The default debug level of a state (R29). -/
def defaultLevel : Lcs → DbgLevel
  | .blank | .testLocked | .scrap => .bscan
  | .testOpen | .analysis => .full
  | .personal | .owned | .analysisPending => .closed

/-- Keystone code runs only in these states (R31). -/
def keystoneState (l : Lcs) : Bool := l == .owned || l == .testOpen || l == .analysis

/-- Nelvo is powered and not in cold hold or an L3 response (R96, R114, R117). -/
def State.alive (s : State) : Bool := s.pwr.mainPower && s.tamp.l3 == .none

/-- The TAP answers beyond boot step 3 (R79). [DEDUCED, log 11] -/
def State.tapUp (s : State) : Bool := s.pwr.mainPower && decide (3 ≤ s.pwr.bootStep)

/-- Keystone code issues moves (R31, R161, R88). -/
def State.ksRunning (s : State) : Bool :=
  s.alive && s.ks.running && !s.ks.dead && keystoneState s.life.state && s.pwr.state != .sleep &&
    s.pwr.state != .off && s.clk.pllLock

/-! ## Flash work in flight at a reset (R298-R306) -/

/-- Counter of index `i` in a cask's range (R310). -/
def State.caskCtr (s : State) (n i : Nat) : Option Nat :=
  let w := tget s.nvm.ctrMap n 0
  if i < fld w 12 12 then some (fld w 0 12 + i) else none

/-- The counter that NCTR names for a page (R320): an index for casks, a number from 129 to 255 for the keystone. -/
def State.nctrOf (s : State) (page i : Nat) : Option Nat :=
  if page = 1024 then (if 129 ≤ i ∧ i ≤ 255 then some i else none) else s.caskCtr page i

/-- A counter operation in flight as (counter, amount); a READ changes nothing. -/
def ctrFlight (r : Regs) : List (Nat × Nat) :=
  match r.ctr.op with
  | some op => match op.inc with
    | some b => if op.span then [] else [(op.counter, b)]
    | none => []
  | none => []

/-- Every increment in flight: CTR units, nonce reservations, proof-of-play commits (R196, R332, R502). -/
def State.ctrFlights (s : State) : List (Nat × Nat) :=
  ctrFlight s.ks.regs ++ s.casks.flatMap (fun e => ctrFlight e.2.regs) ++
  (s.press.pages.flatMap fun e => match e.2.job with
    | some j => if j.phase = .waitNonce then
        (match s.nctrOf e.1 j.nctr.toNat with | some c => [(c, 1)] | none => []) else []
    | none => []) ++
  (s.frame.regions.flatMap fun e => match e.2.commit with
    | some k => if k.counted then [] else [(k.ctr, k.amount)]
    | none => [])

/-- A page write in flight: how far it has come is free; after its commit point a journal entry stands (R296, R300).
[DEDUCED, log 66] -/
def State.nvmInterrupt (s : State) : State :=
  match s.nvm.active with
  | none => s
  | some j =>
    let d := s.drawNat
    let e : JEntry := { page := j.page, data := j.data, units := (d.1 - 1) % 129, mid := true }
    if d.1 = 0 then d.2
    else { d.2 with nvm := { d.2.nvm with journal := d.2.nvm.journal ++ [e] } }

/-- The user-flash sectors allocated to an owner (R312). -/
def State.sectorsOf (s : State) (owner : Nat) : List Nat :=
  (s.nvm.sectOwn.filter fun e => e.2.toNat == owner).map (·.1)

/-- Flash address of a sector (R312). -/
def sectorAddr (sect : Nat) : Nat := flashBase + 0x4000 * sect

/-- A cask WIPE's sector erases in flight: how many are done is free; the rest waits for the boot (R297). [DEDUCED, log 66] -/
def State.wipeInterrupt (s : State) (n : Nat) : State :=
  if (s.cask n).wipeErase then
    let d := s.drawNat
    let sects := s.sectorsOf n
    let k := d.1 % (sects.length + 1)
    let s1 := (sects.take k).foldl (fun t j => t.clear (sectorAddr j) 0x4000) d.2
    { s1 with nvm := { s1.nvm with eraseQueue := s1.nvm.eraseQueue ++ sects.drop k } }
  else s

/-- What a reset or a loss of power leaves of the flash work in flight. [DEDUCED, log 66] -/
def State.interruptFlash (s : State) : State :=
  let s1 := (s.ctrFlights.foldl (fun t f => t.ctrInterrupt f.1 f.2) s).nvmInterrupt
  (s1.casks.map (·.1)).foldl State.wipeInterrupt s1

/-! ## Zeroization -/

/-- Under a new root no record of the vault backing unwraps (R276, R277): the material is lost, the headers stay.
[DESIGN CHOICE, log 16] -/
def State.loseKeys (s : State) : State :=
  { s with vault := { s.vault with slots := s.vault.slots.map fun e => (e.1, { e.2 with key := [] }) } }

/-- SRAM, vat, press pages, lattice scratch and vault slot cache zeroized (R52 step 2, R79 step 5). VOLATILE keys live in
the slot cache only (R282). -/
def State.zeroVolatile (s : State) : State :=
  let s1 := (s.clear sramBase sramSize).clear vatBase vatSize
  { s1 with press := { s1.press with pages := [], staging := [] }
            lat := { s1.lat with objs := [], pages := s1.lat.pages.map fun e => (e.1, { e.2 with job := none }) }
            vault := { s1.vault with slots := s1.vault.slots.filter fun e => !e.2.volatile } }

/-- What stays of the state over every reset (R84): NVM, course counters, tamper log and its queue, VBAT latches, the
pages, the pins. Everything volatile is at its reset value; the life cycle is at its recorded state (R30).
[DEDUCED, log 67, 72; DESIGN CHOICE, log 70; PRESUMED, log 13, 93] -/
def afterReset (s : State) (por : Bool) : State :=
  let st := if s.life.state = .testOpen then .testLocked else s.life.state
  { pending := s.pending
    life := { s.life with
      state := st, wiping := false, directScrap := false, cmd := 0, lastStatus := .ok, toPending := none,
      mismatches := if por then 0 else s.life.mismatches }
    dbg := { level := defaultLevel st, fails := if por then 0 else s.dbg.fails }
    tap := if por then {} else { s.tap with extest := false }
    clk := { s.clk with forceOff := [], off := [], gated := [] }
    pwr := { resetCause := s.pwr.resetCause, mainPower := s.pwr.mainPower, bankClass := s.pwr.bankClass,
             resetnLow := s.pwr.resetnLow }
    tamp := { alarm := s.tamp.alarm && !por, nextSeq := s.tamp.nextSeq, log := s.tamp.log, queue := s.tamp.queue,
              lost := s.tamp.lost, l3Record := s.tamp.l3Record, vbat := s.tamp.vbat }
    mem := if por then s.mem.filter (fun c => c.1 < flashEnd) else s.mem
    nvm := { sectOwn := s.nvm.sectOwn, ctrMap := s.nvm.ctrMap, journal := s.nvm.journal,
             eraseQueue := s.nvm.eraseQueue }
    ctrs := s.ctrs
    vault := { slots := s.vault.slots.filter fun e => !e.2.volatile }
    host := { pages := if por then [] else s.host.pages }
    gpio := { pin := s.gpio.pin }
    draw := s.draw
    out := s.out }

/-! ## Resets (R84-R86) -/

/-- The boot step a reset kind starts at; `from1`: a tamper reset after a lost clock or lock (R84, R113). -/
def kindStep (from1 : Bool) : RKind → Nat
  | .por | .pin | .cold => 1
  | .tamper => if from1 then 1 else 3
  | .warm | .wdog => 3

/-- The bit of a kind in PWR_RESET_CAUSE (R98). -/
def causeBit : RKind → BitVec 7
  | .por => 0x01
  | .pin => 0x02
  | .cold => 0x04
  | .warm => 0x08
  | .tamper => 0x10
  | .wdog => 0x20

/-- Boot step 1 ends once REFCLK is present and RESETn is high; TIME starts at 0 (R69, R83, R85). -/
def State.bootStep1 (s : State) : State :=
  if s.pwr.booting ∧ ¬ s.clk.timeOn ∧ s.clk.refclk ∧ s.pwr.mainPower ∧ ¬ s.pwr.resetnLow then
    { s with pwr := { s.pwr with bootStep := 1 }, clk := { s.clk with time := 0, timeOn := true } }
  else s

/-- The reset of the kinds in `ks` (R84, R86): flash work in flight, what is cleared and kept, the boot's first step, every
cause recorded. [DEDUCED, log 67] -/
def State.doReset (s : State) (ks : List RKind) (from1 : Bool) : State :=
  let por := ks.contains .por
  let s1 := afterReset s.interruptFlash por
  let step1 := ks.any fun k => kindStep from1 k == 1
  let causes := ks.foldl (fun c k => c ||| causeBit k) (if por then 0 else s1.pwr.resetCause)
  let s2 := { s1 with pwr := { s1.pwr with resetCause := if por then 0x01 else causes } }
  if step1 then ({ s2 with clk := { refclk := s2.clk.refclk } } : State).bootStep1 else s2

/-! ## Wind-down (R110-R113) -/

/-- Wind-down step 1: segments not released discarded, segment buffer and every cask press page zeroized (R110). -/
def State.windStep1 (s : State) : State :=
  let s1 := s.clear ssbBase ssbSize
  { s1 with frame := { s1.frame with segs := [], asm := [] }
            press := { s1.press with
              pages := s1.press.pages.filter (fun e => e.1 = 1024),
              staging := s1.press.staging.filter (fun e => e.2 = 1024),
              pipes := s1.press.pipes.map fun e => (e.1, match e.2.use with
                | .page 1024 => e.2
                | _ => { e.2 with use := .idle }) } }

/-- Tile and link session keys zeroized: every tile's session ends (R104, R110). -/
def State.zeroSessions (s : State) : State :=
  { s with tile := { s.tile with tiles := s.tile.tiles.map fun e =>
      (e.1, { e.2 with kdat := [], kctl := [], kack := [] }) }
           span := { s.span with links := [] } }

/-- DARK on every UP egress chain (R110 step 5, R474). -/
def State.sendDark (s : State) : State :=
  (List.finRange 12).foldl (fun t l => if t.egressUp l.val then t.sendCtrl l 0x05 0 0 0 else t) s

/-- The write of the ANALYSIS_PENDING record: everything volatile cleared, the wipe begins (R51, R52 steps 1 and 2).
[DEDUCED, log 67] -/
def State.enterPending (s : State) (scrap : Bool) : State :=
  let s1 := afterReset s.interruptFlash false
  let s2 := { s1 with
    life := { s1.life with state := .analysisPending, target := scrap, w0 := BitVec.ofNat 64 (s.ctrNat ctrWipe),
                           wiping := true, chunk := 0, cmd := s.life.cmd }
    dbg := { s1.dbg with level := .closed }
    clk := { s.clk with forceOff := [], off := [], gated := [] }
    pwr := { s1.pwr with booting := false, bootStep := s.pwr.bootStep, bootResult := s.pwr.bootResult }
    tamp := { s.tamp with wind := none, frozen := false } }
  s2.zeroVolatile

/-- The end of a wind-down: the way to ANALYSIS_PENDING, the resets that wait, or the power change goes on (R110 step 6).
[DEDUCED, log 65] -/
def State.windEnd (s : State) (w : WindDown) : State :=
  let s1 := { s with tamp := { s.tamp with wind := none } }
  match s1.life.toPending with
  | some scrap => if w.resets.isEmpty then s1.enterPending scrap else s1.doReset w.resets w.fromStep1
  | none =>
    if w.resets.isEmpty then
      (if w.power = some .hold then s1 else s1.allLanesDown.zeroSessions)
    else s1.doReset w.resets w.fromStep1

/-- A wind-down begins; it ends at step 1 when no egress lane is UP (R110, R111). -/
def State.startWind (s : State) (w : WindDown) : State :=
  let s1 := s.windStep1
  if s1.anyEgressUp then { s1 with tamp := { s1.tamp with wind := some { w with frame := s.frame.frameNo + 1 } } }
  else s1.windEnd w

/-- A trigger of a reset kind that winds down first, or joins the wind-down that runs (R84, R86). [DEDUCED, log 65] -/
def State.requestReset (s : State) (k : RKind) (from1 : Bool) : State :=
  match s.tamp.wind with
  | some w => { s with tamp := { s.tamp with
      wind := some { w with resets := w.resets ++ [k], fromStep1 := w.fromStep1 || from1,
                            l2 := w.l2 || k == .tamper } } }
  | none => s.startWind { resets := [k], fromStep1 := from1, l2 := k == .tamper }

/-! ## Wake (R93-R95) -/

/-- A wake source fires: SLEEP is left for IDLE, or its entry ends in IDLE (R92, R94). [DEDUCED, log 68] -/
def State.wake (s : State) : State :=
  if s.pwr.state = .sleep ∧ s.pwr.change = none then { s with pwr := { s.pwr with change := some .idle } }
  else if s.pwr.change = some .sleep then { s with pwr := { s.pwr with wakePending := true } }
  else s

/-! ## Tamper log (R124, R125) -/

/-- An entry enters the volatile queue of 16, or counts as lost (R125). -/
def State.logEntry (s : State) (cls src : Nat) (level flags : Nat) : State :=
  if s.tamp.queue.length < 16 then
    let e : LogEntry := { time := s.clk.time, cls := byte cls, source := byte src, level := BitVec.ofNat 2 level,
                          flags := BitVec.ofNat 4 flags }
    { s with tamp := { s.tamp with queue := s.tamp.queue ++ [e] } }
  else { s with tamp := { s.tamp with lost := s.tamp.lost + 1 } }

/-- One entry written to the ring: SEQ taken, a page erased when the ring enters it (R124, R125). [DEDUCED, log 71] -/
def State.logWrite (s : State) (e : LogEntry) : State :=
  let n := s.tamp.nextSeq.toNat % 256
  let kept := if n % 128 = 0 then s.tamp.log.filter (fun x => decide (x.1 < n) || decide (n + 128 ≤ x.1)) else s.tamp.log
  { s with tamp := { s.tamp with
      log := tset kept n { e with seq := s.tamp.nextSeq }, nextSeq := s.tamp.nextSeq + 1 } }

/-- The oldest entry of the queue is written; with the queue empty, one LOG_OVERFLOW entry for those lost (R125). -/
def State.logWriteOne (s : State) : State :=
  match s.tamp.queue with
  | e :: es => ({ s with tamp := { s.tamp with queue := es } } : State).logWrite e
  | [] =>
    if s.tamp.lost = 0 then s
    else ({ s with tamp := { s.tamp with lost := 0 } } : State).logWrite
      { time := s.clk.time, cls := 0x0F, source := byte (min 255 s.tamp.lost) }

/-- Everything the queue holds is written. [DEDUCED, log 71] -/
def State.logFlush (s : State) : State := (List.range 17).foldl (fun t _ => t.logWriteOne) s

/-! ## Graded response (R104, R119) -/

/-- L3 steps 1 to 5: links drop, ALARM, all volatile keys and memories zeroized, the L3 record written (R114). Nothing runs
until cold hold ends (R117). [DEDUCED, log 67, 73] -/
def State.startL3 (s : State) : State :=
  let s1 := (afterReset s.interruptFlash false).zeroVolatile
  let s2 := s1.clear ssbBase ssbSize
  { s2 with
    dbg := { s2.dbg with level := defaultLevel s2.life.state }
    clk := { s.clk with forceOff := [], off := [], gated := [] }
    pwr := { s2.pwr with booting := false, bootStep := s.pwr.bootStep, resetCause := s.pwr.resetCause }
    tamp := { s.tamp with alarm := true, wind := none, l3 := .erasing, l3Record := some false, quiet := false } }

/-- The action of a level that runs (R104, R119, R55). [DEDUCED, log 74] -/
def State.respond (s : State) (level : Nat) (from1 : Bool) : State :=
  match level with
  | 0 => s
  | 1 => { s with tamp := { s.tamp with frozen := true, alarm := s.tamp.alarm || s.tamp.alarmOnL1 } }
  | 2 =>
    let s1 := { s with tamp := { s.tamp with frozen := true, alarm := true } }
    if s.pwr.booting ∧ s.tamp.wind.isNone then s1.doReset [.tamper] from1 else s1.requestReset .tamper from1
  | _ => s.startL3

/-- Whether a running response keeps an event of this level from acting (R119). [DEDUCED, log 69] -/
def State.clamps (s : State) (level : Nat) : Bool :=
  s.tamp.l3 != .none || ((s.tamp.wind.isSome || s.tamp.frozen) && decide (level ≤ 1))

/-- A tamper event: logged, told to keystone code, and answered at its level (R104, R119, R124). In ANALYSIS_PENDING every
response zeroizes volatile state (R55); an event of any level wakes Nelvo from SLEEP (R93, R95). [DEDUCED, log 68, 69] -/
def State.tamperEvent (s : State) (cls src level flags : Nat) (from1 : Bool) : State :=
  let clamped := s.clamps level
  let fl := flags ||| flag s.tamp.wind.isSome 1 ||| flag (clamped && decide (0 < level)) 3
  let s1 := s.logEntry cls src level fl
  let s2 := ({ s1 with tamp := { s1.tamp with
    lastClass := BitVec.ofNat 4 cls, lastLevel := BitVec.ofNat 2 level, quiet := false } } : State).wake
  if clamped then s2
  else
    let s3 := s2.ksLine lineTamper
    let s4 := if s3.life.state = .analysisPending then s3.zeroVolatile else s3
    s4.respond level from1

/-- The level TAMP_MAP gives a field of two bits (R106). -/
def State.mapLevel (s : State) (field : Nat) : Nat := fld s.tamp.map (2 * field) 2

/-! ## Debug sessions (R50) -/

/-- A context halted by the debugger goes on as before the halt (R216). -/
def resumeCask (k : Cask) : Cask :=
  if k.state = .halted then { k with state := k.before } else k

/-- The keystone goes on after a debugger's halt; in TEST_OPEN and ANALYSIS the watchdog paused meanwhile (R87). -/
def State.unhaltKs (s : State) : State :=
  let paused : Bool := s.dbg.keystoneHalted && (s.life.state == .testOpen || s.life.state == .analysis)
  { s with
    dbg := { s.dbg with keystoneHalted := false }
    pwr := { s.pwr with wdogFrom := if paused then s.pwr.wdogFrom + (s.clk.time - s.dbg.haltAt) else s.pwr.wdogFrom } }

/-- The end of a session: level back to the default, every halted context resumes; keystone line 5 when one was open (R50, R250).
[DEDUCED, log 27] -/
def State.endSession (s0 : State) : State :=
  let s := s0.unhaltKs
  let s1 := { s with
    dbg := { s.dbg with level := defaultLevel s.life.state, session := none }
    casks := s.casks.map fun e => (e.1, resumeCask e.2) }
  if s.dbg.session.isSome then s1.ksLine lineDebug else s1

/-- DBGEPOCH advances by 1 (R47, R63). -/
def State.advanceEpoch (s : State) : State := s.ctrBump ctrDbgEpoch

/-- Someone can write KS fields: keystone code, or a debugger at FULL (R8, R40). -/
def State.ksWriter (s : State) : Bool := s.ksRunning || (s.alive && s.tapUp && s.dbg.level == .full)

end Sys2Proof.Machine
end

