-- ==== Sys2Proof/Machine/CaskBase.lean ====
section
/-! DEFINITION. Casks as other families see them: segments, where they may reach, freezing, leaving a slot (R216-R226, R234-R238). -/

namespace Sys2Proof.Machine

open Sys2Proof

/-- A cask is frozen by an L1 freeze or a wind-down (R104, R110, R217). [DEDUCED, log 74] -/
def State.frozen (s : State) : Bool := s.tamp.frozen || s.tamp.wind.isSome

/-- The four segments of a cask, code, data, stack, shared (R220). -/
def caskSegs (k : Cask) : List Seg := [k.code, k.data, k.stack, k.shared]

/-- A segment is present (R220). -/
def segPresent (g : Seg) : Bool := g.size != 0

/-- `n` bytes at `a` lie in the segment, without wrap (R221). -/
def inSeg (g : Seg) (a n : Nat) : Bool := segPresent g && inRange a n g.base.toNat g.size.toNat

/-- `n` bytes at `a` meet a sealed segment of a cask that is not DISABLED (R225). -/
def State.inSealed (s : State) (a n : Nat) : Bool :=
  s.casks.any fun e => e.2.state != .disabled && (caskSegs e.2).any fun g =>
    segPresent g && g.sealed && decide (a < g.base.toNat + g.size.toNat) && decide (g.base.toNat < a + n)

/-- `n` bytes at `a` lie in SRAM outside every sealed segment (R213, R295, R326). -/
def State.openSram (s : State) (a n : Nat) : Bool := inRange a n sramBase sramSize && !s.inSealed a n

/-- A present segment has SEAL = 1 (R245). -/
def caskSealed (k : Cask) : Bool := (caskSegs k).any fun g => segPresent g && g.sealed

/-- A data range an engine may read or write for a cask: in one segment with the permission, or in its own page (R221-R224). -/
def caskRange (k : Cask) (n a len : Nat) (write : Bool) : Bool :=
  (caskSegs k).any (fun g => inSeg g a len && (if write then g.w else g.r)) ||
  inRange a len (pagesBase + 0x1000 * n) 0x1000

/-- A range that an engine may read or write for a requester (R286, R326): for the keystone, SRAM or the keystone page, outside
every sealed segment. An empty range needs nothing. [DEDUCED, log 97] -/
def State.engineRange (s : State) (c : Ctx) (a len : Nat) (write : Bool) : Bool :=
  len == 0 ||
  match c with
  | .keystone => s.openSram a len || inRange a len (pageAddr .keystone 0) 0x1000
  | .cask n => caskRange (s.cask n.toNat) n.toNat a len write

/-! ## Code that others change (R153, R155) -/

/-- The word at `a` is code that context `n` may fetch: of a cask that is not DISABLED, or of keystone code that runs (R213, R223).
[DEDUCED, log 81] -/
def State.codeWord (s : State) (n a : Nat) : Bool :=
  if n = 1024 then s.ksRunning && s.openSram a 4
  else let k := s.cask n; k.state != .disabled && k.code.x && inSeg k.code a 4

/-- The addresses of the words that `n` bytes at `a` meet. -/
def wordsOf (a n : Nat) : List Nat := (List.range (n / 4 + 2)).map (fun i => a / 4 * 4 + 4 * i) |>.filter (· < a + n)

/-- What context `n` may still fetch after `t` has come of `s` by a change to the words `ws`: a change of its own is seen at once, of a
change by another the old word stays possible (R153, R155). [DEDUCED, log 81] -/
def State.staleAfter (s t : State) (own : Bool) (ws : List Nat) (n : Nat) (old : List (Nat × Word)) : List (Nat × Word) :=
  if own then old.filter fun e => !ws.contains e.1
  else (ws.filter fun w => s.codeWord n w && s.rdLe w 4 != t.rdLe w 4).map (fun w => (w, w32 (s.rdLe w 4))) ++ old

/-- The words a context may still fetch are set. [DEDUCED, log 81] -/
def State.setStale (s : State) (n : Nat) (l : List (Nat × Word)) : State :=
  if tget s.stale n [] = l then s else { s with stale := tset s.stale n l }

/-- A store of bytes in memory by context `who`, or by the debugger for `none`: fetches of other contexts may see the old words until
they execute SYNC (R153, R155). [DEDUCED, log 81] -/
def State.store (s : State) (who : Option Ctx) (a : Nat) (bs : Bytes) : State :=
  let t := s.wrBytes a bs
  (1024 :: s.casks.map (·.1)).foldl
    (fun u n => u.setStale n (s.staleAfter t (who == some (ctxOf n)) (wordsOf a bs.length) n (tget u.stale n []))) t

/-- Output of an engine into memory: nothing once a cask drains (R271 step 1), and nothing at page offsets 0xEE0-0xFFF.
[DEDUCED, log 81, 97] -/
def State.engineWrite (s : State) (c : Ctx) (a : Nat) (bs : Bytes) : State :=
  if !s.ctxLive c ∨ bs.isEmpty then s
  else if pagesBase ≤ a then s.wrBytes a (bs.take (pageAddr c 0xEE0 - a))
  else s.store (some c) a bs

/-! ## Slots (R211, R234) -/

/-- The core and thread of a slot: core + 16 × thread; slot 0 is the keystone's. -/
def slotCore (slot : Nat) : Nat := slot % 16

/-- A core's clock runs: core 0 always, cores 1-15 in ACTIVE unless forced off (R74, R88). [DEDUCED, log 89] -/
def State.coreOn (s : State) (core : Nat) : Bool :=
  core == 0 || (s.pwr.state == .active && !s.clk.off.contains core && !s.clk.forceOff.contains core)

/-- A cask is swapped out of its slot: the block is saved; RUNNING becomes READY (R216, R231, R235). -/
def leaveSlot (k : Cask) (now : Time) : Cask :=
  match k.slot with
  | none => k
  | some _ => { k with slot := none, leaving := false, saved := k.regs, lastEnd := now,
                       state := if k.state = .running then .ready else k.state }

/-- Every resident cask for which `p` holds of its slot is swapped out (R91, R238). -/
def State.evict (s : State) (p : Nat → Bool) : State :=
  { s with casks := s.casks.map fun e =>
      (e.1, match e.2.slot with
        | some j => if p j then leaveSlot e.2 s.clk.time else e.2
        | none => e.2) }

end Sys2Proof.Machine
end

