-- ==== Sys2Proof/Machine/Block.lean ====
section
/-! DEFINITION. The 512-byte context block as words: segment descriptors and the registers of a context at their offsets (R220,
R230), read and written by keystone code through CASK_WIN and by the debugger (R226, R227, R231, R232). -/

namespace Sys2Proof.Machine

open Sys2Proof

/-! ## Descriptors (R220) -/

def segFlags (g : Seg) : Word :=
  w32 (flag g.r 0 + flag g.w 1 + flag g.x 2 + flag g.sealed 3 + g.group.toNat * 2 ^ 8)

def segWord (g : Seg) (i : Nat) : Word :=
  match i with
  | 0 => g.base
  | 1 => g.size
  | 2 => segFlags g
  | _ => 0

def segSet (g : Seg) (i : Nat) (v : Word) : Seg :=
  match i with
  | 0 => { g with base := v }
  | 1 => { g with size := v }
  | 2 => { g with r := bit v 0, w := bit v 1, x := bit v 2, sealed := bit v 3, group := bv v 8 8 }
  | _ => g

/-- The word at offset `off` (0x000-0x03F) of the four descriptors. -/
def descWord (k : Cask) (off : Nat) : Word := segWord ((caskSegs k).getD (off / 16) {}) (off / 4 % 4)

def descSet (k : Cask) (off : Nat) (v : Word) : Cask :=
  let i := off / 4 % 4
  match off / 16 with
  | 0 => { k with code := segSet k.code i v }
  | 1 => { k with data := segSet k.data i v }
  | 2 => { k with stack := segSet k.stack i v }
  | _ => { k with shared := segSet k.shared i v }

/-! ## General registers (R136) -/

/-- A general register; g0 reads 0. -/
def getG (r : Regs) (i : Nat) : Word := if i = 0 then 0 else tget r.g i 0
/-- A write of a general register; a write to g0 is discarded. -/
def setG (r : Regs) (i : Nat) (v : Word) : Regs := if i = 0 then r else { r with g := tset r.g i v }

/-! ## Waits, pending results and frames -/

def waitCode : WaitKind → Nat
  | .none => 0
  | .wait => 1
  | .waitc => 2
  | .time => 3
  | .time64 => 4
  | .ctr => 5
def waitOf : Nat → WaitKind
  | 1 => .wait
  | 2 => .waitc
  | 3 => .time
  | 4 => .time64
  | 5 => .ctr
  | _ => .none

/-- The i-th pending product and the i-th pending load, with delay 0 when there is none. -/
def mulSlot (r : Regs) (i : Nat) : PendMul := r.mul.pend.getD i { delay := 0 }
def lsuSlot (r : Regs) (i : Nat) : PendLoad := r.lsu.pend.getD i { delay := 0 }

def setMulSlot (r : Regs) (i : Nat) (f : PendMul → PendMul) : Regs :=
  { r with mul := { r.mul with pend := [mulSlot r 0, mulSlot r 1].modify i f } }
def setLsuSlot (r : Regs) (i : Nat) (f : PendLoad → PendLoad) : Regs :=
  { r with lsu := { r.lsu with pend := [lsuSlot r 0, lsuSlot r 1].modify i f } }

/-- A delay count of the block, 0-2 (R230). -/
def delay2 (n : Nat) : Nat := min 2 n

def frameWord (f : Frame4) (i : Nat) : Word :=
  match i with
  | 0 => f.pc
  | 1 => f.cause
  | 2 => f.addr
  | _ => f.rpt
def frameSet (f : Frame4) (i : Nat) (v : Word) : Frame4 :=
  match i with
  | 0 => { f with pc := v }
  | 1 => { f with cause := v }
  | 2 => { f with addr := v }
  | _ => { f with rpt := v }

/-- Prefetched word `i`; the block holds the words without their addresses (R230). -/
def winWord (r : Regs) (i : Nat) : Word := (r.window.getD i (0, 0)).2
/-- The window with word `i` set; written words stand for the moves from PC on. [DEDUCED, log 94] -/
def winSet (r : Regs) (i : Nat) (v : Word) : Regs :=
  let w (j : Nat) : Word := if j = i then v else winWord r j
  { r with window := [(r.pc, w 0), (r.pc + 4, w 1)] }

/-! ## The block (R230) -/

/-- The word at offset `off` (0x040-0x1FF) of a context's registers. -/
def blockWord (r : Regs) (off : Nat) : Word :=
  if 0x050 ≤ off ∧ off < 0x0D0 then getG r ((off - 0x50) / 4)
  else if 0x1B0 ≤ off ∧ off < 0x1C0 then frameWord r.fallback ((off - 0x1B0) / 4)
  else match off with
  | 0x040 => r.pc
  | 0x044 => winWord r 0
  | 0x048 => winWord r 1
  | 0x04C => w32 (r.winValid % 4 + flag r.delay.isSome 2 + flag r.sys.handler 3)
  | 0x0D0 => r.alu.a
  | 0x0D4 => r.alu.r
  | 0x0D8 => w32 (flag r.alu.c 0)
  | 0x0DC => r.mul.a
  | 0x0E0 => loW r.mul.p
  | 0x0E4 => hiW r.mul.p
  | 0x0E8 => loW (mulSlot r 0).value
  | 0x0EC => hiW (mulSlot r 0).value
  | 0x0F0 => loW (mulSlot r 1).value
  | 0x0F4 => hiW (mulSlot r 1).value
  | 0x0F8 => w32 ((mulSlot r 0).delay % 4 + (mulSlot r 1).delay % 4 * 4)
  | 0x100 => r.lsu.sd
  | 0x104 => r.lsu.base
  | 0x108 => r.lsu.cmp
  | 0x10C => r.lsu.r.value
  | 0x110 => (lsuSlot r 0).res.value
  | 0x114 => (lsuSlot r 1).res.value
  | 0x118 => w32 ((lsuSlot r 0).delay % 4 + (lsuSlot r 1).delay % 4 * 4 + flag (lsuSlot r 0).res.ecc 4 +
      flag (lsuSlot r 1).res.ecc 5 + flag r.lsu.r.ecc 6)
  | 0x120 => r.evt.ien
  | 0x124 => r.evt.got
  | 0x128 => r.evt.sst.setWidth 32
  | 0x12C => w32 (waitCode r.wait.kind)
  | 0x130 => r.wait.mask
  | 0x134 => loW r.wait.target
  | 0x138 => hiW r.wait.target
  | 0x140 => r.tmr.thi
  | 0x144 => r.tmr.wmask
  | 0x148 => r.tmr.why.setWidth 32
  | 0x14C => r.tmr.aline.setWidth 32
  | 0x150 => r.tmr.target
  | 0x154 => w32 (flag r.tmr.armed 0)
  | 0x160 => r.rpt.n
  | 0x164 => r.rpt.cnt
  | 0x168 => r.rpt.beg
  | 0x16C => r.rpt.fin
  | 0x170 => r.str.src
  | 0x174 => r.str.dst
  | 0x178 => r.str.len
  | 0x17C => w32 (r.str.val.toNat + flag r.str.r 8 + r.str.op.toNat * 2 ^ 16)
  | 0x180 => r.sys.evec
  | 0x184 => r.sys.epend
  | 0x188 => w32 (flag r.sys.consent 0)
  | 0x18C => r.sys.moves
  | 0x190 => r.ctr.sel.setWidth 32
  | 0x194 => r.ctr.lo
  | 0x198 => r.ctr.hi
  | 0x19C => r.ctr.st.setWidth 32
  | 0x1A0 => w32 (flag r.rngSt 0)
  | 0x1C0 => w32 (r.fault.toNat + flag r.fbValid 8)
  | _ => 0

/-- The registers with the word at offset `off` (0x040-0x1FF) written. A set delay-slot bit continues at SYS.EPEND, where
R158 step 1 saves the target. [DEDUCED, log 94] -/
def blockSet (r : Regs) (off : Nat) (v : Word) : Regs :=
  if 0x050 ≤ off ∧ off < 0x0D0 then setG r ((off - 0x50) / 4) v
  else if 0x1B0 ≤ off ∧ off < 0x1C0 then { r with fallback := frameSet r.fallback ((off - 0x1B0) / 4) v }
  else match off with
  | 0x040 => { r with pc := v, window := [(v, winWord r 0), (v + 4, winWord r 1)] }
  | 0x044 => winSet r 0 v
  | 0x048 => winSet r 1 v
  | 0x04C => { r with winValid := delay2 (fld v 0 2), sys := { r.sys with handler := bit v 3 },
                      delay := if bit v 2 then some (r.delay.getD r.sys.epend) else none }
  | 0x0D0 => { r with alu := { r.alu with a := v } }
  | 0x0D4 => { r with alu := { r.alu with r := v } }
  | 0x0D8 => { r with alu := { r.alu with c := bit v 0 } }
  | 0x0DC => { r with mul := { r.mul with a := v } }
  | 0x0E0 => { r with mul := { r.mul with p := dword (hiW r.mul.p) v } }
  | 0x0E4 => { r with mul := { r.mul with p := dword v (loW r.mul.p) } }
  | 0x0E8 => setMulSlot r 0 fun x => { x with value := dword (hiW x.value) v }
  | 0x0EC => setMulSlot r 0 fun x => { x with value := dword v (loW x.value) }
  | 0x0F0 => setMulSlot r 1 fun x => { x with value := dword (hiW x.value) v }
  | 0x0F4 => setMulSlot r 1 fun x => { x with value := dword v (loW x.value) }
  | 0x0F8 => setMulSlot (setMulSlot r 0 fun x => { x with delay := delay2 (fld v 0 2) }) 1
      fun x => { x with delay := delay2 (fld v 2 2) }
  | 0x100 => { r with lsu := { r.lsu with sd := v } }
  | 0x104 => { r with lsu := { r.lsu with base := v } }
  | 0x108 => { r with lsu := { r.lsu with cmp := v } }
  | 0x10C => { r with lsu := { r.lsu with r := { r.lsu.r with value := v, addr := 0 } } }
  | 0x110 => setLsuSlot r 0 fun x => { x with res := { x.res with value := v, addr := 0 } }
  | 0x114 => setLsuSlot r 1 fun x => { x with res := { x.res with value := v, addr := 0 } }
  | 0x118 =>
    let r1 := setLsuSlot r 0 fun x => { x with delay := delay2 (fld v 0 2), res := { x.res with ecc := bit v 4 } }
    let r2 := setLsuSlot r1 1 fun x => { x with delay := delay2 (fld v 2 2), res := { x.res with ecc := bit v 5 } }
    { r2 with lsu := { r2.lsu with r := { r2.lsu.r with ecc := bit v 6 } } }
  | 0x120 => { r with evt := { r.evt with ien := v } }
  | 0x124 => { r with evt := { r.evt with got := v } }
  | 0x128 => { r with evt := { r.evt with sst := bv v 0 2 } }
  | 0x12C => { r with wait := { r.wait with kind := waitOf (fld v 0 3) } }
  | 0x130 => { r with wait := { r.wait with mask := v } }
  | 0x134 => { r with wait := { r.wait with target := dword (hiW r.wait.target) v } }
  | 0x138 => { r with wait := { r.wait with target := dword v (loW r.wait.target) } }
  | 0x140 => { r with tmr := { r.tmr with thi := v } }
  | 0x144 => { r with tmr := { r.tmr with wmask := v } }
  | 0x148 => { r with tmr := { r.tmr with why := bv v 0 2 } }
  | 0x14C => { r with tmr := { r.tmr with aline := bv v 0 9 &&& 0x11F } }
  | 0x150 => { r with tmr := { r.tmr with target := v } }
  | 0x154 => { r with tmr := { r.tmr with armed := bit v 0 } }
  | 0x160 => { r with rpt := { r.rpt with n := v } }
  | 0x164 => { r with rpt := { r.rpt with cnt := v } }
  | 0x168 => { r with rpt := { r.rpt with beg := v } }
  | 0x16C => { r with rpt := { r.rpt with fin := v } }
  | 0x170 => { r with str := { r.str with src := v } }
  | 0x174 => { r with str := { r.str with dst := v } }
  | 0x178 => { r with str := { r.str with len := v } }
  | 0x17C => { r with str := { r.str with val := bv v 0 8, r := bit v 8, op := bv v 16 3 } }
  | 0x180 => { r with sys := { r.sys with evec := v } }
  | 0x184 => { r with sys := { r.sys with epend := v } }
  | 0x188 => { r with sys := { r.sys with consent := bit v 0 } }
  | 0x18C => { r with sys := { r.sys with moves := v } }
  | 0x190 => { r with ctr := { r.ctr with sel := bv v 0 16 &&& 0x8FFF } }
  | 0x194 => { r with ctr := { r.ctr with lo := v } }
  | 0x198 => { r with ctr := { r.ctr with hi := v } }
  | 0x19C => { r with ctr := { r.ctr with st := bv v 0 3 } }
  | 0x1A0 => { r with rngSt := bit v 0 }
  | 0x1C0 => { r with fault := bv v 0 8, fbValid := bit v 8 }
  | _ => r

/-- A window read of cask `k` at offset `off`: the block as last saved, registers of a sealed cask reading 0 (R226, R231).
[DEDUCED, log 95] -/
def winRead (k : Cask) (off : Nat) : Word :=
  if off % 4 ≠ 0 then 0
  else if off < 0x040 then descWord k off
  else if off < 0x1B0 then
    if caskSealed k then 0 else blockWord (if k.slot.isSome then k.saved else k.regs) off
  else blockWord k.regs off

/-- Whether keystone code may write the block at offset `off` now (R227, R232). -/
def winWritable (k : Cask) (off : Nat) : Bool :=
  k.state == .disabled || (decide (0x040 ≤ off) && k.state == .faulted && !caskSealed k)

/-- The cask with the block word at `off` written. -/
def winWrite (k : Cask) (off : Nat) (v : Word) : Cask :=
  if off < 0x040 then descSet k off v
  else
    let r := blockSet k.regs off v
    { k with regs := r, saved := r }

end Sys2Proof.Machine
end

