-- ==== Sys2Proof/Machine/FrameBase.lean ====
section
/-! DEFINITION. Regions as other families see them: their tiles, their owner's line, the commit of pending plays (R482, R502-R507). -/

namespace Sys2Proof.Machine

open Sys2Proof

def State.region (s : State) (r : Nat) : Region := tget s.frame.regions r {}
def State.setRegion (s : State) (r : Nat) (x : Region) : State :=
  { s with frame := { s.frame with regions := tset s.frame.regions r x } }
def State.modRegion (s : State) (r : Nat) (f : Region → Region) : State := s.setRegion r (f (s.region r))

/-- VALID as it reads: a change that waits for the next boundary shows at once (R483, R484). [DEDUCED, log 145] -/
def validReads (x : Region) : Bool := x.validNext.getD x.valid

/-- Tiles that one extent names, as keys 64 × lane + address. -/
def extentTiles (e : Extent) : List Nat :=
  if e.used then (List.range (e.last.toNat + 1 - e.first.toNat)).map fun i => tileKey e.lane.toNat (e.first.toNat + i) else []
/-- The tiles of a region in extent order and ascending address (R482). -/
def regionTiles (x : Region) : List Nat := (List.range 4).flatMap fun i => extentTiles (tget x.extents i {})
/-- Bytes of a region's frame (R482). -/
def regionSize (x : Region) : Nat := (regionTiles x).length * x.tileBytes.toNat

/-- The owner is DISABLING or DISABLED (R489, R497). -/
def State.ownerOff (s : State) (x : Region) : Bool := decide (x.owner.toNat < 1024) && !s.caskLive x.owner.toNat

/-- The owner's line, when enabled (R507). -/
def State.ownerLine (s : State) (r : Nat) : State :=
  let x := s.region r
  if bit x.cur.line 5 then s.raiseLine (ctxOf x.owner.toNat) (fld x.cur.line 0 5) else s

def State.frmPage (s : State) (n : Nat) : FrmPage := tget s.frame.pages n {}
def State.setFrm (s : State) (n : Nat) (p : FrmPage) : State :=
  { s with frame := { s.frame with pages := tset s.frame.pages n p } }

/-- CTR_FAULT or TALLY_FAULT: FRM.ST of the owner, its line and keystone line 10 (R503). -/
def State.frmFault (s : State) (r : Nat) (code : BitVec 5) : State :=
  let n := (s.region r).owner.toNat
  ((s.setFrm n { s.frmPage n with st := code }).ownerLine r).ksLine lineFrame

/-- The counter that an index names for a region's owner: of its range, or a counter that keystone code may increment (R309, R310).
[DEDUCED, log 145] -/
def State.regionCtr (s : State) (owner i : Nat) : Option Nat :=
  if owner = 1024 then (if 128 ≤ i ∧ i ≤ 255 then some i else none) else s.caskCtr owner i

/-- The batch of a commit is done with: those plays are no longer pending (R502 step 3, R503). [DEDUCED, log 149] -/
def State.commitEnd (s : State) (r : Nat) : State :=
  s.modRegion r fun x => { x with commit := none, pendPlays := x.pendPlays - (x.commit.map (·.amount)).getD 0 }

/-- The counter step of a commit is over: the tally addition is next, if a tally is set (R502). -/
def State.commitCounted (s : State) (r : Nat) : State :=
  match (s.region r).commit with
  | none => s
  | some k =>
    let s1 := s.modRegion r fun x => { x with commit := some { k with counted := true } }
    if k.tally = 0 then s1.commitEnd r else s1

/-- PEND is to be committed: the counter step first, skipped without a counter (R502). [DEDUCED, log 149] -/
def State.commitStart (s : State) (r : Nat) : State :=
  let x := s.region r
  if x.commit.isSome ∨ x.pendPlays = 0 then s
  else
    let k : RCommit := { amount := x.pendPlays, tally := x.cur.tally, slot := x.cur.slot }
    if bit x.cur.ctr 12 then
      match s.regionCtr x.owner.toNat (fld x.cur.ctr 0 12) with
      | some c => s.setRegion r { x with commit := some { k with ctr := c } }
      | none => ((s.setRegion r { x with commit := some k }).commitEnd r).frmFault r 8
    else (s.setRegion r { x with commit := some k }).commitCounted r

/-- PEND is to be committed once the FACK window of the last frame shown has closed (R504). [DEDUCED, log 144] -/
def State.flushRegion (s : State) (r : Nat) : State :=
  if s.frame.running then s.modRegion r fun x => { x with flush := true } else s.commitStart r

end Sys2Proof.Machine
end

