-- ==== Sys2Proof/Machine/HostBase.lean ====
section
/-! DEFINITION. Mailbox pages as other families see them: interface registers, doorbells to the owner and to the host, MSI-X
vectors (R545-R550, R556). -/

namespace Sys2Proof.Machine

open Sys2Proof

/-- The number of the device page among the pages of BAR2 (R543). [DEDUCED, log 160] -/
def devPageNo : Nat := 1025

/-- The interface registers of page `n` (R547); the device page has its own. -/
def State.pageIf (s : State) (n : Nat) : PageIf := if n = devPageNo then s.host.devPage else tget s.host.pages n {}
def State.setPageIf (s : State) (n : Nat) (p : PageIf) : State :=
  if n = devPageNo then { s with host := { s.host with devPage := p } }
  else { s with host := { s.host with pages := tset s.host.pages n p } }

/-- The path a page is bound to: 0 none, 1 PCI Express, 2 SPI and I2C (R241, R564); the device page is served on BAR2.
[DEDUCED, log 160] -/
def State.pagePath (s : State) (n : Nat) : Nat :=
  if n = 1024 then s.host.ksPath.toNat
  else if n = devPageNo then 1
  else (s.cask n).hostPath.toNat

/-- The MSI-X vector of a page (R545). -/
def vectorOf (n : Nat) : Nat := min n 1024

/-- No condition of R545 holds a vector back. -/
def State.msixReady (s : State) (v : Nat) : Bool := s.host.up && s.host.bme && s.host.msixEn && s.host.unmasked.contains v

/-- A vector is requested: the message leaves, or the vector becomes owed; an owed vector coalesces (R545). [DEDUCED, log 163] -/
def State.requestVector (s : State) (v : Nat) : State :=
  if s.host.owed.contains v then s
  else if s.msixReady v then s.emit (.msix v)
  else { s with host := { s.host with owed := s.host.owed ++ [v] } }

/-- A write to C2H of page `n`: value and count, then the vector, or ATTN on a page bound to protocol v1 (R549).
[DEDUCED, log 169] -/
def State.c2hStore (s : State) (n : Nat) (v : Word) : State :=
  let p := s.pageIf n
  let s1 := s.setPageIf n { p with c2h := v, c2hCnt := p.c2hCnt + 1, attn := p.attn || s.pagePath n == 2 }
  if s.pagePath n = 1 then s1.requestVector (vectorOf n) else s1

/-- HOST_EVT bits set, with keystone line 12 (R564). -/
def State.hostEvent (s : State) (bits : BitVec 6) : State :=
  ({ s with host := { s.host with evt := s.host.evt ||| bits } }).ksLine lineHost

/-- A host write to H2C of page `n` (R548, R550). -/
def State.h2cStore (s : State) (n : Nat) (v : Word) : State :=
  if n < 1024 ∧ ¬ s.caskLive n then s
  else
    let p := s.pageIf n
    let s1 := s.setPageIf n { p with h2c := v, h2cCnt := p.h2cCnt + 1 }
    if n = 1024 then s1.hostEvent 0x08
    else if n < 1024 ∧ bit (s.cask n).hostCfg 5 then s1.raiseLine (ctxOf n) (fld (s.cask n).hostCfg 0 5)
    else s1

/-- Codes of the cask states (R215). -/
def cstateCode : CState → Nat
  | .disabled => 0
  | .ready => 1
  | .running => 2
  | .waiting => 3
  | .faulted => 4
  | .halted => 5
  | .disabling => 6

/-- Host ports serve: after boot step 7 in the states of R80, in OWNED after step 9, in no other power state than those of
R563; a claim that has made the device OWNED still has its response to give (R80, R541, R561). [DEDUCED, log 165, 167] -/
def State.hostServes (s : State) : Bool :=
  s.alive && s.pwr.state != .sleep && s.pwr.state != .off &&
  (match s.life.state with
   | .owned => decide (8 ≤ s.pwr.bootStep) || s.host.claim.isSome
   | .personal | .analysisPending | .analysis => decide (7 ≤ s.pwr.bootStep)
   | _ => false)

/-- PSTAT of page `n` (R547). [DEDUCED, log 169] -/
def State.pstat (s : State) (n : Nat) : Word :=
  let path := s.pagePath n
  let up := if path = 1 then s.host.linkUp else if path = 2 then s.hostServes else false
  let code := if n < 1024 then cstateCode (s.cask n).state else if n = 1024 then (if s.ksRunning then 2 else 0) else 0
  w32 (flag (path == 1 || path == 2) 0 + flag up 1 + code * 4 + (s.pageIf n).losses.toNat * 2 ^ 8)

/-- An interface register of page `n` at offset `off` (R547). -/
def State.ifaceRead (s : State) (n off : Nat) : Word :=
  match off with
  | 0xEE0 => (s.pageIf n).h2c
  | 0xEE4 => (s.pageIf n).c2h
  | 0xEE8 => s.pstat n
  | 0xEEC => (s.pageIf n).c2hCnt
  | 0xEF0 => (s.pageIf n).h2cCnt
  | _ => 0

/-! ## Loss of the PCI Express link (R546) -/

/-- A page bound to PCI Express counts a loss and sees its link down. -/
def State.pageLoss (s : State) (n : Nat) : State := s.setPageIf n { s.pageIf n with losses := (s.pageIf n).losses + 1 }

/-- A bound cask's LOSS_LINE is raised when LOSS_EN is 1 (R546). -/
def State.lossLine (s : State) (n : Nat) : State :=
  if bit (s.cask n).hostCfg 13 then s.raiseLine (ctxOf n) (fld (s.cask n).hostCfg 8 5) else s

/-- The casks bound to PCI Express. -/
def State.boundCasks (s : State) : List Nat := (List.range 1024).filter fun n => (s.cask n).hostPath == 1

/-- The endpoint's configuration and MSI-X table are reset; every bound page counts a loss (R546). `bits`: the event.
[PRESUMED, log 162] -/
def State.endpointReset (s : State) (bits : BitVec 6) : State :=
  let s1 := { s with host := { s.host with bme := false, msixEn := false, unmasked := [], linkUp := false } }
  let s2 := if s1.host.ksPath = 1 then s1.pageLoss 1024 else s1
  let s3 := s.boundCasks.foldl (fun t n => (t.pageLoss n).lossLine n) (s2.pageLoss devPageNo)
  s3.hostEvent bits

/-- The link goes down (R546). -/
def State.pcieDown (s : State) : State :=
  if s.host.up then
    ({ s with host := { s.host with up := false, rate := 0, width := 0 } } : State).endpointReset 0x02
  else s

end Sys2Proof.Machine
end

