-- ==== Sys2Proof/Machine/Casks.lean ====
section
/-! DEFINITION. CASK_CMD and the drains: ENABLE and its checks, DISABLE, RESUME, RESET, WIPE, what a drain stops in every engine
and what its end leaves (R215-R233, R242, R267-R272). -/

namespace Sys2Proof.Machine

open Sys2Proof

/-! ## ENABLE (R228, R233) -/

/-- A present segment obeys R220 and R228 check 4: alignment, flags, and wholly in SRAM, or in user flash without W and SEAL. -/
def segOk (isCode isWork isShared : Bool) (g : Seg) : Bool :=
  !segPresent g ||
  (g.base.toNat % 64 == 0 && g.size.toNat % 64 == 0 && (isCode || !g.x) && (isWork || !g.sealed) &&
    (isShared || g.group == 0) &&
    (inRange g.base.toNat g.size.toNat sramBase sramSize ||
      (inRange g.base.toNat g.size.toNat flashBase (flashEnd - flashBase) && !g.w && !g.sealed)))

/-- Two segments share a byte. -/
def segMeet (a b : Seg) : Bool :=
  segPresent a && segPresent b && decide (a.base.toNat < b.base.toNat + b.size.toNat) &&
    decide (b.base.toNat < a.base.toNat + a.size.toNat)

/-- Equal shared segments: BASE, SIZE and GROUP (R228). -/
def segShare (a b : Seg) : Bool := a.base == b.base && a.size == b.size && a.group == b.group

/-- A segment overlaps CASK_KSLO-CASK_KSHI (R228 check 5). [DESIGN CHOICE, log 30] -/
def State.inKsRange (s : State) (g : Seg) : Bool :=
  segPresent g && decide (s.caskBlk.kslo.toNat ≤ s.caskBlk.kshi.toNat) &&
    decide (g.base.toNat ≤ s.caskBlk.kshi.toNat) && decide (s.caskBlk.kslo.toNat < g.base.toNat + g.size.toNat)

/-- The user-flash sector an address lies in (R312). -/
def sectorOf (a : Nat) : Nat := (a - flashBase) / 0x4000

/-- Every sector of a flash segment is allocated to the cask (R228 check 6). -/
def State.segOwned (s : State) (n : Nat) (g : Seg) : Bool :=
  !segPresent g || !inRange g.base.toNat g.size.toNat flashBase (flashEnd - flashBase) ||
    (List.range (sectorOf (g.base.toNat + g.size.toNat - 1) + 1 - sectorOf g.base.toNat)).all fun i =>
      (tget s.nvm.sectOwn (sectorOf g.base.toNat + i) 0x7FF).toNat == n

/-- The segments of casks `a` and `b` overlap other than in equal shared segments (R228 check 7). -/
def casksMeet (a b : Cask) : Bool :=
  (caskSegs a).any (fun g => [b.code, b.data, b.stack].any (segMeet g)) ||
  [a.code, a.data, a.stack].any (fun g => segMeet g b.shared) ||
  (segMeet a.shared b.shared && !segShare a.shared b.shared)

/-- The four segments of a cask are disjoint (R228 check 7). -/
def ownDisjoint (k : Cask) : Bool :=
  !segMeet k.code k.data && !segMeet k.code k.stack && !segMeet k.code k.shared && !segMeet k.data k.stack &&
    !segMeet k.data k.shared && !segMeet k.stack k.shared

/-- The code of the first check of R228 that fails for a DISABLED cask `n`, 0 when all pass. [DESIGN CHOICE, log 92] -/
def State.enableCode (s : State) (n : Nat) : Nat :=
  let k := s.cask n
  if k.wipeErase then 7
  else if k.state != .disabled then 1
  else if !(segPresent k.code && inRange k.code.base.toNat k.code.size.toNat sramBase sramSize && k.code.x) then 2
  else if !(segOk true false false k.code && segOk false true false k.data && segOk false true false k.stack &&
      segOk false false true k.shared && (!segPresent k.stack || (k.stack.r && k.stack.w))) then 3
  else if (caskSegs k).any s.inKsRange then 5
  else if !(caskSegs k).all (s.segOwned n) then 6
  else if !(ownDisjoint k && s.casks.all fun e => e.1 == n || e.2.state == .disabled || !casksMeet k e.2) then 4
  else 0

/-- A cask starts at its PC with an empty prefetch window (R233). -/
def startCask (k : Cask) : Cask :=
  let r := { k.regs with window := [], winValid := 0, delay := none }
  { k with state := .ready, regs := r, saved := r }

/-- ENABLE: the checks, then READY (R228). The code of the outcome and the state. -/
def State.enableCask (s : State) (n : Nat) : Nat × State :=
  let code := s.enableCode n
  (code, if code = 0 then (s.setStale n []).modCask n startCask else s)

/-- The registers a RESET starts with: PC at the code BASE, g30 at the end of the stack (R268). -/
def resetRegs (k : Cask) : Regs :=
  setG { pc := k.code.base } 30 (if segPresent k.stack then k.stack.base + k.stack.size else 0)

/-- The re-enable of a RESET, with keystone line 6 (R268). -/
def State.reEnable (s : State) (n : Nat) : Nat × State :=
  let r := (s.modCask n fun k => { k with regs := resetRegs k, saved := resetRegs k }).enableCask n
  (r.1, r.2.ksLine lineCaskStart)

/-! ## Drains (R271, R272) -/

/-- Step 3: the page's press job ends; RESULT reads ABORTED after a drain that stopped one (R271, R319). [DEDUCED, log 101] -/
def State.drainPress (s : State) (n : Nat) : State :=
  let held := (tget s.press.pages n {}).job.isSome
  { s with press := { s.press with
      pages := tset s.press.pages n { result := if held then 10 else 0 }
      staging := s.press.staging.filter (fun e => e.2 ≠ n)
      pipes := s.press.pipes.map fun e => (e.1, if e.2.use = .page n then { e.2 with use := .idle } else e.2)
      deficit := tdel s.press.deficit n } }

/-- Step 5: a lattice job on a lane ends with its fused step; one that waits for a lane is dropped (R271, R377). -/
def State.drainLat (s : State) (n : Nat) : State :=
  let p := tget s.lat.pages n {}
  match p.job with
  | none => { s with lat := { s.lat with pages := tset s.lat.pages n {} } }
  | some j =>
    let page : LatPage := if j.lane.isSome then { job := some { j with discard := true } } else {}
    { s with lat := { s.lat with pages := tset s.lat.pages n page } }

/-- Requests in the service queues are dropped; the NVM write being served completes (R272). [DEDUCED, log 101] -/
def State.drainServices (s : State) (n : Nat) : State :=
  let keep (q : List Request) : List Request := q.filter fun r => r.ctx ≠ ctxOf n
  { s with vault := { s.vault with queue := keep s.vault.queue, pkeQueue := keep s.vault.pkeQueue }
           nvm := { s.nvm with queue := keep s.nvm.queue } }

/-- Link requests: unsent ones dropped, later responses find no request (R272). -/
def State.drainLinks (s : State) (n : Nat) : State :=
  { s with lnk := tset s.lnk n {}
           lanes := s.lanes.map fun e => (e.1, { e.2 with vc := e.2.vc.map fun v => (v.1, detachVc n v.2) }) }

/-- The tile loop stops; results of LIMITs sent are discarded (R272). -/
def State.drainTiles (s : State) (n : Nat) : State :=
  { s with tile := { s.tile with
      loops := tdel s.tile.loops n
      tiles := s.tile.tiles.map fun e => (e.1, match e.2.limitOf with
        | some (m, _, _) => if m.toNat = n then { e.2 with limitOf := none } else e.2
        | none => e.2) } }

/-- Span increments waiting for the leader are dropped; the FRM page is reset (R267, R272). -/
def State.drainWall (s : State) (n : Nat) : State :=
  let s1 := { s with span := { s.span with waiting := s.span.waiting.filter fun w => w.2 ≠ n }
                     frame := { s.frame with pages := tdel s.frame.pages n } }
  if (s1.cask n).regs.ctr.op.any (·.span) then
    s1.modCask n fun k => { k with regs := { k.regs with ctr := { k.regs.ctr with op := none } } }
  else s1

/-- Step 1 for the cask itself: no further move, lines, boost and alarm cleared (R267, R271). -/
def drainCask (cmd : DrainCmd) (k : Cask) : Cask :=
  { k with
    state := .disabling, drain := some cmd, pend := 0, boosted := false, leaving := k.slot.isSome
    regs := { k.regs with tmr := { k.regs.tmr with armed := false },
                          str := { k.regs.str with busy := false } } }

/-- Pending plays of the cask's regions are to be committed (R504). -/
def State.drainPlays (s : State) (n : Nat) : State :=
  (s.frame.regions.filter fun e => e.2.owner.toNat = n).foldl (fun t e => t.flushRegion e.1) s

/-- A drain begins: DISABLING, every engine rule of R272, and CASK_OFF in C2H (R271, R504, R550). [DEDUCED, log 102] -/
def State.startDrain (s : State) (n : Nat) (cmd : DrainCmd) : State :=
  let s1 := ((s.modCask n (drainCask cmd)).drainPress n).drainLat n
  let s2 := (((s1.drainServices n).drainLinks n).drainTiles n).drainWall n
  (s2.drainPlays n).c2hStore n 0xFFFFFFF1

/-- A region that the cask owns shows its fallback, or no boundary is to come (R271 step 7). -/
def State.regionsDark (s : State) (n : Nat) : Bool :=
  !s.frame.running || s.frame.regions.all fun e =>
    e.2.owner.toNat != n || !e.2.valid || e.2.shown == .fallback || e.2.shown == .idle

/-- Every step of the drain up to 7 is complete: slot free, engines done (R271). [DEDUCED, log 101, 102] -/
def State.drainReady (s : State) (n : Nat) : Bool :=
  let k := s.cask n
  k.slot.isNone && k.regs.ctr.op.isNone && (tget s.lat.pages n {}).job.isNone &&
    (match s.nvm.active with
     | some j => j.req.ctx != ctxOf n
     | none => true) && s.regionsDark n

/-- The cask has completed DISABLE, RESET or WIPE (R250, R269). -/
def State.drained (s : State) (n : Nat) : State :=
  let d := s.caskBlk.drained
  ({ s with caskBlk := { s.caskBlk with drained := if d.contains n then d else d ++ [n] } }).ksLine lineDrainDone

/-- Context block and sealed segments zeroized (R219). -/
def State.zeroContext (s : State) (n : Nat) : State :=
  let s1 := (caskSegs (s.cask n)).foldl (fun t g =>
    if segPresent g && g.sealed then t.clear g.base.toNat g.size.toNat else t) s
  s1.modCask n fun k => { k with regs := {}, saved := {} }

/-! ## WIPE (R267) -/

/-- No cask outside DISABLED but `n` has an equal shared segment (R267). -/
def State.soleShare (s : State) (n : Nat) (g : Seg) : Bool :=
  s.casks.all fun e => e.1 == n || e.2.state == .disabled || !segPresent e.2.shared || !segShare e.2.shared g

/-- A segment in SRAM zeroized. -/
def State.zeroSeg (s : State) (g : Seg) : State :=
  if segPresent g && inRange g.base.toNat g.size.toNat sramBase sramSize then s.clear g.base.toNat g.size.toNat else s

/-- The memory a WIPE zeroizes: segments in SRAM, the cask page with its interface registers, lattice objects, whose tallies are no longer
registered (R267, R353, R505). [DEDUCED, log 103] -/
def State.wipeMemory (s : State) (n : Nat) : State :=
  let k := s.cask n
  let s1 := ((s.zeroSeg k.code).zeroSeg k.data).zeroSeg k.stack
  let s2 := if s1.soleShare n k.shared then s1.zeroSeg k.shared else s1
  let s3 := (s2.clear (pageAddr (ctxOf n) 0) 0x1000).setPageIf n {}
  let mine := s3.lat.objs.filter fun e => e.2.owner = n
  let noTally (e : Nat × Region) : Nat × Region :=
    (e.1, if e.2.owner.toNat = n then
      { e.2 with cur := { e.2.cur with tally := 0 }, staged := e.2.staged.map fun x => { x with tally := 0 } } else e.2)
  let s4 := (mine.flatMap fun e => e.2.grans).foldl (fun t g => t.clear (vatBase + 0x1000 * g) 0x1000) s3
  { s4 with lat := { s4.lat with objs := s4.lat.objs.filter fun e => e.2.owner ≠ n }
            frame := { s4.frame with regions := s4.frame.regions.map noTally } }

/-- The wipe actions begin: memory zeroized, the sector erases and slot frees run (R267, R271 step 8). -/
def State.startWipe (s : State) (n : Nat) : State := (s.wipeMemory n).modCask n fun k => { k with wipeErase := true }

/-! ## CASK_CMD (R245, R267-R270) -/

/-- CASK_RESULT. -/
def State.caskResult (s : State) (code : Nat) : State :=
  { s with caskBlk := { s.caskBlk with result := BitVec.ofNat 4 code } }

/-- The command that a drain runs for, from any state but DISABLED and DISABLING (R216). -/
def State.caskDrain (s : State) (n : Nat) (cmd : DrainCmd) : State := (s.caskResult 0).startDrain n cmd

/-- CASK_CMD for the cask in CASK_SEL (R228, R233, R245, R267-R270). [DESIGN CHOICE, log 92] -/
def State.caskCommand (s0 : State) (cmd : BitVec 4) : State :=
  let s := { s0 with caskBlk := { s0.caskBlk with cmd := cmd } }
  let n := s.caskBlk.sel.toNat
  let k := s.cask n
  let off := k.state == .disabled
  let busy := k.state == .disabling
  match cmd.toNat with
  | 1 =>
    let r := s.enableCask n
    r.2.caskResult r.1
  | 2 => if off then s.caskResult 0 else if busy then s.caskResult 1 else s.caskDrain n .disable
  | 3 =>
    if k.state = .faulted then
      (s.modCask n fun j => { j with state := .ready, regs := { j.regs with fault := 0, fbValid := false } }).caskResult 0
    else s.caskResult 1
  | 4 =>
    if off then
      let r := s.reEnable n
      r.2.caskResult r.1
    else if busy then s.caskResult 1 else s.caskDrain n .reset
  | 5 =>
    if off then (if k.wipeErase then s.caskResult 0 else (s.startWipe n).caskResult 0)
    else if busy then
      (s.modCask n fun j => { j with drain := if j.wipeErase then j.drain else some .wipe }).caskResult 0
    else s.caskDrain n .wipe
  | _ => s.caskResult 1

/-- A CASK_CMD row: keystone code writes the code (R245). -/
def State.caskRow (s : State) (cmd : BitVec 4) : Host.Outcome State Fault Refusal :=
  .next (if s.ksWriter then s.caskCommand cmd else s)

/-- CASK_ENABLE (R228). -/
def execCaskEnable (s : State) : Host.Outcome State Fault Refusal := s.caskRow 1
/-- CASK_DISABLE (R267). -/
def execCaskDisable (s : State) : Host.Outcome State Fault Refusal := s.caskRow 2
/-- CASK_RESUME (R233). -/
def execCaskResume (s : State) : Host.Outcome State Fault Refusal := s.caskRow 3
/-- CASK_RESET (R268). -/
def execCaskReset (s : State) : Host.Outcome State Fault Refusal := s.caskRow 4
/-- CASK_WIPE (R267). -/
def execCaskWipe (s : State) : Host.Outcome State Fault Refusal := s.caskRow 5

/-- The end of a drain: the final action of its command (R267, R271 steps 7 and 8). -/
def State.endDrain (s : State) (n : Nat) (cmd : DrainCmd) : State :=
  let s1 := s.zeroContext n
  match cmd with
  | .disable => (s1.modCask n fun k => { k with state := .disabled, drain := none }).drained n
  | .reset =>
    let r := (s1.modCask n fun k => { k with state := .disabled, drain := none }).reEnable n
    (if r.1 = 0 then r.2 else r.2.caskResult r.1).drained n
  | .wipe => s1.startWipe n

/-- CASK_DRAIN_DONE: every engine and region of a DISABLING cask is drained (R271). [DEDUCED, log 102] -/
def execCaskDrainDone (n : BitVec 10) (s : State) : Host.Outcome State Fault Refusal :=
  .next (match (s.cask n.toNat).drain with
    | none => s
    | some cmd =>
      if s.alive ∧ (s.cask n.toNat).state = .disabling ∧ ¬ (s.cask n.toNat).wipeErase ∧ s.drainReady n.toNat then
        s.endDrain n.toNat cmd
      else s)

/-- CASK_WIPE_ERASE_DONE: the cask's sectors are erased and its vault slots freed; it is DISABLED (R267, R271 step 8).
[DEDUCED, log 103] -/
def execCaskWipeEraseDone (n : BitVec 10) (s : State) : Host.Outcome State Fault Refusal :=
  .next (if s.alive ∧ (s.cask n.toNat).wipeErase then
    let sects := s.sectorsOf n.toNat
    let s1 := sects.foldl (fun t j => t.clear (sectorAddr j) 0x4000) s
    let s2 := { s1 with
      vault := { s1.vault with slots := s1.vault.slots.filter fun e => e.2.owner.toNat ≠ n.toNat }
      nvm := { s1.nvm with journal := s1.nvm.journal.filter fun e => !sects.contains (sectorOf e.page) } }
    (s2.modCask n.toNat fun k => { k with state := .disabled, drain := none, wipeErase := false }).drained n.toNat
  else s)

/-! ## The window and CASK_CTL (R227, R232, R242) -/

/-- A write through CASK_WIN (R227, R232). -/
def State.caskWinWrite (s : State) (offset : Nat) (value : Word) : State :=
  let n := s.caskBlk.sel.toNat
  if offset % 4 ≠ 0 then s
  else if winWritable (s.cask n) offset then s.modCask n fun k => winWrite k offset value
  else s.caskResult 1

def execCaskWinWrite (offset : BitVec 9) (value : Word) (s : State) : Host.Outcome State Fault Refusal :=
  .next (if s.ksWriter then s.caskWinWrite offset.toNat value else s)

/-- A write of CASK_CTL: CLASS in every state, HOSTPATH only while the cask is DISABLED (R240-R242). [DESIGN CHOICE, log 31] -/
def State.caskCtlWrite (s : State) (n : Nat) (value : Word) : State :=
  let k := s.cask n
  let path := bv value 4 2
  if path = k.hostPath ∨ k.state = .disabled then s.setCask n { k with cls := bv value 0 3, hostPath := path }
  else (s.setCask n { k with cls := bv value 0 3 }).caskResult 1

def execCaskCtlWrite (n : BitVec 10) (value : Word) (s : State) : Host.Outcome State Fault Refusal :=
  .next (if s.ksWriter then s.caskCtlWrite n.toNat value else s)

end Sys2Proof.Machine
end

