-- ==== Sys2Proof/Machine/Flags.lean ====
section
/-! DEFINITION. Results and the carry of the ALU, products and their delay, load results and theirs (R142-R145, R166-R169). -/

namespace Sys2Proof.Machine

open Sys2Proof

/-! ## ALU (R166, R167) -/

/-- The ALU triggers in port order. -/
inductive AluOp where
  | add | sub | addc | subb | and | or | xor | andn | shl | shr | sar | ror | clz | popc | min | max
  | eq | ne | lt | ltu | ge | geu | bit
  deriving DecidableEq, Repr

/-- Sum with a carry in: the word and the carry out. -/
def addCarry (a b : Word) (c : Bool) : Word × Bool :=
  (w32 (a.toNat + b.toNat + flag c 0), decide (2 ^ 32 ≤ a.toNat + b.toNat + flag c 0))

/-- A − B − (1 − C): the word, and 1 when there is no borrow. -/
def subCarry (a b : Word) (c : Bool) : Word × Bool :=
  (w32 (a.toNat + 2 ^ 32 - b.toNat - flag (!c) 0), decide (b.toNat + flag (!c) 0 ≤ a.toNat))

/-- Leading zeros of a word, 0-32. -/
def clz (b : Word) : Nat := if b = 0 then 32 else 31 - Nat.log2 b.toNat
/-- Number of 1 bits. -/
def popc (b : Word) : Nat := ((List.range 32).filter fun i => bit b i).length
/-- 0 or 1 as a word. -/
def boolWord (b : Bool) : Word := w32 (flag b 0)

/-- The result of a trigger, and the carry where the trigger sets it (R166, R167). -/
def aluResult (op : AluOp) (a b : Word) (c : Bool) : Word × Option Bool :=
  let sh := fld b 0 5
  match op with
  | .add => let x := addCarry a b false; (x.1, some x.2)
  | .sub => let x := subCarry a b true; (x.1, some x.2)
  | .addc => let x := addCarry a b c; (x.1, some x.2)
  | .subb => let x := subCarry a b c; (x.1, some x.2)
  | .and => (a &&& b, none)
  | .or => (a ||| b, none)
  | .xor => (a ^^^ b, none)
  | .andn => (a &&& ~~~b, none)
  | .shl => (a <<< sh, none)
  | .shr => (a >>> sh, none)
  | .sar => (a.sshiftRight sh, none)
  | .ror => (a.rotateRight sh, none)
  | .clz => (w32 (clz b), none)
  | .popc => (w32 (popc b), none)
  | .min => (if a.slt b then a else b, none)
  | .max => (if a.slt b then b else a, none)
  | .eq => (boolWord (a == b), none)
  | .ne => (boolWord (a != b), none)
  | .lt => (boolWord (a.slt b), none)
  | .ltu => (boolWord (a.ult b), none)
  | .ge => (boolWord (!a.slt b), none)
  | .geu => (boolWord (!a.ult b), none)
  | .bit => (boolWord (Machine.bit a sh), none)

/-- An ALU trigger: R, and C for the four triggers that set it. -/
def aluRun (op : AluOp) (x : Alu) (b : Word) : Alu :=
  let r := aluResult op x.a b x.c
  { x with r := r.1, c := r.2.getD x.c }

/-! ## MUL (R144, R168, R169) -/

/-- The multiply triggers. -/
inductive MulOp where
  | s | u | macs
  deriving DecidableEq, Repr

/-- The product of the latest multiply trigger, whether or not it can be read yet (R169). -/
def mulLatest (m : Mul) : Dword := ((m.pend.filter (·.delay ≠ 0)).map (·.value)).getLastD m.p

/-- A 64-bit product modulo 2^64. -/
def mulValue (op : MulOp) (m : Mul) (b : Word) : Dword :=
  match op with
  | .s => m.a.signExtend 64 * b.signExtend 64
  | .u => m.a.zeroExtend 64 * b.zeroExtend 64
  | .macs => mulLatest m + m.a.signExtend 64 * b.signExtend 64

/-- A multiply trigger: the product is seen from the third move after it. -/
def mulRun (op : MulOp) (m : Mul) (b : Word) : Mul := { m with pend := m.pend ++ [{ value := mulValue op m b, delay := 3 }] }

/-- One move of the context: products come one move nearer, and one that is due is visible (R144). -/
def mulTick (m : Mul) : Mul :=
  let aged := (m.pend.filter (·.delay ≠ 0)).map fun x => { x with delay := x.delay - 1 }
  { m with p := ((aged.filter (·.delay = 0)).map (·.value)).getLastD m.p, pend := aged.filter (·.delay ≠ 0) }

/-! ## Load results (R142, R143) -/

/-- A load is triggered: its result is seen from the third move after it. -/
def lsuLoad (u : Lsu) (res : LoadRes) (arrived : Bool) : Lsu :=
  { u with pend := u.pend ++ [{ res := res, delay := 3, arrived := arrived }] }

/-- The youngest load that is due decides LSU.R: visible once it has arrived, waited for until then. -/
def lsuSettle (u : Lsu) : Lsu :=
  let due := u.pend.filter (·.delay = 0)
  let rest := u.pend.filter (·.delay ≠ 0)
  match due.getLast? with
  | none => u
  | some x => if x.arrived then { u with r := x.res, pend := rest } else { u with pend := x :: rest }

/-- One move of the context; an entry without delay that has arrived is none (R142, R230). -/
def lsuTick (u : Lsu) : Lsu :=
  let live := u.pend.filter fun x => decide (x.delay ≠ 0) || !x.arrived
  lsuSettle { u with pend := live.map fun x => { x with delay := x.delay - 1 } }

/-- A read of LSU.R stalls: the load that is due has not arrived (R143). -/
def lsuStalls (u : Lsu) : Bool := u.pend.any fun x => x.delay == 0 && !x.arrived

/-- The data of the oldest load on its way arrives (R143). -/
def lsuArrive (f : LoadRes → LoadRes) : List PendLoad → List PendLoad
  | [] => []
  | x :: xs => if x.arrived then x :: lsuArrive f xs else { x with arrived := true, res := f x.res } :: xs

end Sys2Proof.Machine
end

