-- ==== Sys2Proof/Machine/Operands.lean ====
section
/-! DEFINITION. The move word: its fields, guard, width conversion, the port space and who may name a port (R128-R141, R165, R239). -/

namespace Sys2Proof.Machine

open Sys2Proof

/-! ## Fields (R128, R131) -/

def mvGuard (w : Word) : Nat := fld w 28 4
def mvForm (w : Word) : Nat := fld w 26 2
def mvWidth (w : Word) : Nat := fld w 24 2
def mvSrc (w : Word) : Nat := fld w 12 12
def mvDst (w : Word) : Nat := fld w 0 12
/-- The macro index and destination register of form 11. -/
def mvMacro (w : Word) : Nat := fld w 6 6
def mvReg (w : Word) : Nat := fld w 0 6
/-- The immediate of form 01, sign-extended. -/
def mvImm (w : Word) : Word := (bv w 12 12 : BitVec 12).signExtend 32

/-- Conversion by WIDTH: word, half, byte signed, byte unsigned (R132). -/
def widen (w : Nat) (v : Word) : Word :=
  match w with
  | 0 => v
  | 1 => (bv v 0 16 : BitVec 16).zeroExtend 32
  | 2 => (bv v 0 8 : BitVec 8).signExtend 32
  | _ => (bv v 0 8 : BitVec 8).zeroExtend 32

/-- Bytes that a WIDTH accesses (R133). -/
def widthBytes (w : Nat) : Nat := if w = 0 then 4 else if w = 1 then 2 else 1

/-- The code of a width operand. -/
def widthCode : Width → Nat
  | .word => 0
  | .half => 1
  | .byteS => 2
  | .byteU => 3

/-- A guard passes: 0, or g1-g7 not 0, or g1-g7 equal to 0 (R128, R129). -/
def guardOk (reg : Nat → Word) (g : Nat) : Bool :=
  if g = 0 then true else if g < 8 then reg g != 0 else reg (g - 8) == 0

/-! ## Ports (R139, R140) -/

/-- `p` lies in `lo`-`hi`. -/
def within (p lo hi : Nat) : Bool := decide (lo ≤ p) && decide (p ≤ hi)

/-- Ports that a move may name as its source. -/
def portReads (p : Nat) : Bool :=
  within p 0 0x1F || within p 0x100 0x102 || within p 0x140 0x142 || within p 0x180 0x183 || p == 0x1C8 ||
  within p 0x200 0x203 || within p 0x240 0x245 || within p 0x280 0x283 || within p 0x2C0 0x2C5 || within p 0x302 0x309 ||
  within p 0x340 0x34D || within p 0x380 0x38A || within p 0x38C 0x38E || within p 0x3C0 0x3C7 || within p 0x400 0x40B ||
  within p 0x440 0x443 || within p 0x480 0x481 || within p 0x4C0 0x4C7

/-- Ports that a move may name as its destination. -/
def portWrites (p : Nat) : Bool :=
  within p 0 0x1F || p == 0x100 || within p 0x110 0x126 || p == 0x140 || within p 0x150 0x152 || p == 0x180 ||
  within p 0x182 0x183 || within p 0x190 0x195 || within p 0x1C0 0x1C4 || p == 0x201 || within p 0x210 0x213 ||
  p == 0x242 || p == 0x243 || p == 0x245 || within p 0x250 0x253 || within p 0x280 0x283 || p == 0x290 ||
  within p 0x2C0 0x2C3 || within p 0x2D0 0x2D5 || within p 0x300 0x303 || p == 0x308 || p == 0x30A ||
  within p 0x340 0x34B || within p 0x350 0x351 || within p 0x380 0x38A || within p 0x390 0x391 ||
  within p 0x3C0 0x3C5 || within p 0x3D0 0x3D1 || within p 0x400 0x407 || within p 0x410 0x412 || p == 0x440 ||
  within p 0x450 0x451

/-- Branch triggers (R147, R174). -/
def isBranch (p : Nat) : Bool := within p 0x1C0 0x1C4

/-- The grant that a port needs: CRY, LAT, LNK, FRM, CTR, RNG (R165, R239). -/
def portGrant (p : Nat) : Option Nat :=
  if within p 0x340 0x37F then some 0
  else if within p 0x380 0x3BF then some 1
  else if within p 0x3C0 0x3FF then some 2
  else if within p 0x400 0x43F then some 3
  else if within p 0x440 0x47F then some 4
  else if within p 0x480 0x4BF then some 5
  else none

end Sys2Proof.Machine
end

