-- ==== Sys2Proof/Machine/Dec.lean ====
section
/-! DEFINITION. Macros: micro-ops, descriptors, the DEC registers' writes, and what a macro computes (R204-R209). -/

namespace Sys2Proof.Machine

open Sys2Proof

def State.uop (s : State) (i : Nat) : Word := tget s.dec.ucode i 0
def State.mac (s : State) (n : Nat) : MacDesc := tget s.dec.macs n {}

/-! ## Micro-ops (R204) -/

/-- Guards of a micro-op. -/
def uopGuardOk (g : Nat) : Bool := g == 0 || within g 1 4 || within g 9 0xC
/-- Source ports of a micro-op. -/
def uopReads (p : Nat) : Bool := within p 0 0x25 || within p 0x100 0x102 || within p 0x140 0x142
/-- Destination ports of a micro-op. -/
def uopWrites (p : Nat) : Bool :=
  within p 0x20 0x23 || p == 0x25 || p == 0x100 || within p 0x110 0x126 || p == 0x140 || within p 0x150 0x152
/-- A word is a micro-op. -/
def uopOk (w : Word) : Bool :=
  uopGuardOk (mvGuard w) && decide (mvForm w < 2) && (mvForm w == 1 || uopReads (mvSrc w)) && uopWrites (mvDst w)

/-! ## Descriptors (R207-R209) -/

/-- A descriptor word. -/
def macWord (d : MacDesc) : Word :=
  w32 (d.start.toNat + d.len.toNat * 2 ^ 10 + flag d.valid 15 + d.classes.toNat * 2 ^ 16)
def macOf (w : Word) : MacDesc := { start := bv w 0 10, len := bv w 10 5, valid := bit w 15, classes := bv w 16 8 }

/-- Entries of a descriptor. -/
def macEntries (d : MacDesc) : List Nat := (List.range (d.len.toNat + 1)).map (d.start.toNat + ·)

/-- A write of DEC_MAC n; the first entry beyond the store or that is no micro-op refuses VALID (R208). [DEDUCED, log 90] -/
def State.decMac (s : State) (n : Nat) (w : Word) : State :=
  let d := macOf w
  let bad := if d.valid then (macEntries d).find? fun i => decide (1024 ≤ i) || !uopOk (s.uop i) else none
  match bad with
  | none => { s with dec := { s.dec with macs := tset s.dec.macs n d } }
  | some i => { s with dec := { s.dec with
      macs := tset s.dec.macs n { d with valid := false }
      err := true, badMacro := BitVec.ofNat 6 n, badEntry := BitVec.ofNat 10 i } }

/-- A valid macro whose range holds entry `i`. -/
def State.macHolding (s : State) (i : Nat) : Option Nat :=
  (s.dec.macs.find? fun e => e.2.valid && (macEntries e.2).contains i).map (·.1)

/-- A write of DEC_UCODE i: ignored with ERR inside a valid macro (R209). [DEDUCED, log 90] -/
def State.decUcode (s : State) (i : Nat) (w : Word) : State :=
  match s.macHolding i with
  | some n => { s with dec := { s.dec with err := true, badEntry := BitVec.ofNat 10 i, badMacro := BitVec.ofNat 6 n } }
  | none => { s with dec := { s.dec with ucode := tset s.dec.ucode i w } }

def execDecMacWrite (index : BitVec 6) (value : Word) (s : State) : Host.Outcome State Fault Refusal :=
  .next (if s.ksWriter then s.decMac index.toNat value else s)
def execDecUcodeWrite (entry : BitVec 10) (value : Word) (s : State) : Host.Outcome State Fault Refusal :=
  .next (if s.ksWriter then s.decUcode entry.toNat value else s)

/-! ## Running a macro (R205, R206) -/

/-- The private copies of a running macro. -/
structure MacRun where
  m   : Tab Word := []
  out : Word := 0
  alu : Alu := {}
  mul : Mul := {}
  deriving DecidableEq, Repr

/-- ALU triggers by port 0x110-0x126. -/
def aluOps : List AluOp := [.add, .sub, .addc, .subb, .and, .or, .xor, .andn, .shl, .shr, .sar, .ror, .clz, .popc, .min, .max,
  .eq, .ne, .lt, .ltu, .ge, .geu, .bit]
/-- Multiply triggers by port 0x150-0x152. -/
def mulOps : List MulOp := [.s, .u, .macs]

/-- A source port of a micro-op. -/
def uopRead (g : Nat → Word) (inp : Word) (x : MacRun) (p : Nat) : Word :=
  if p < 0x20 then g p
  else if p < 0x24 then tget x.m (p - 0x20) 0
  else match p with
  | 0x24 => inp
  | 0x25 => x.out
  | 0x100 => x.alu.a
  | 0x101 => x.alu.r
  | 0x102 => boolWord x.alu.c
  | 0x140 => x.mul.a
  | 0x141 => loW x.mul.p
  | 0x142 => hiW x.mul.p
  | _ => 0

/-- A destination port of a micro-op. -/
def uopWrite (x : MacRun) (p : Nat) (v : Word) : MacRun :=
  if within p 0x20 0x23 then { x with m := tset x.m (p - 0x20) v }
  else if within p 0x110 0x126 then { x with alu := aluRun (aluOps.getD (p - 0x110) .add) x.alu v }
  else if within p 0x150 0x152 then { x with mul := mulRun (mulOps.getD (p - 0x150) .s) x.mul v }
  else match p with
  | 0x25 => { x with out := v }
  | 0x100 => { x with alu := { x.alu with a := v } }
  | 0x140 => { x with mul := { x.mul with a := v } }
  | _ => x

/-- One micro-op: executed when its guard passes; delays count micro-ops (R206). -/
def uopStep (g : Nat → Word) (inp : Word) (x : MacRun) (w : Word) : MacRun :=
  let gd := mvGuard w
  let m (i : Nat) : Word := tget x.m i 0
  let runs : Bool := gd == 0 || (within gd 1 4 && m (gd - 1) != 0) || (within gd 9 0xC && m (gd - 9) == 0)
  let v := widen (mvWidth w) (if mvForm w = 1 then mvImm w else uopRead g inp x (mvSrc w))
  let y := if runs then uopWrite x (mvDst w) v else x
  { y with mul := mulTick y.mul }

/-- The result of a macro on an input, given the context's general registers (R205). -/
def macroOut (uops : List Word) (g : Nat → Word) (inp : Word) : Word := (uops.foldl (uopStep g inp) {}).out

/-- The micro-ops of macro `n`. -/
def State.macUops (s : State) (n : Nat) : List Word := (macEntries (s.mac n)).map s.uop

end Sys2Proof.Machine
end

