-- ==== Sys2Proof/Machine/Aes.lean ====
section
/-! DEFINITION. AES-128 and AES-256 and the modes the spec names by standard: CTR, GCM (SP 800-38D), XTS (SP 800-38E), CMAC
(SP 800-38B), KW and KWP (SP 800-38F) (R327), and the KDF of the key ladder (R275). Strings are bytes in the order of
the standards. A block is 16 bytes; a key is 16 or 32 bytes. -/

namespace Sys2Proof.Machine

open Sys2Proof

/-! ## GF(2^8) and the block cipher -/

/-- Multiplication by x in GF(2^8) modulo x^8 + x^4 + x^3 + x + 1. -/
def gfDouble (b : Byte) : Byte := (b <<< 1) ^^^ (if bit b 7 then 0x1B else 0)

/-- Product in GF(2^8). -/
def gfMul (a b : Byte) : Byte :=
  ((List.range 8).foldl (fun (acc : Byte × Byte) i =>
    ((if bit b i then acc.1 ^^^ acc.2 else acc.1), gfDouble acc.2)) (0, a)).1

/-- The inverse in GF(2^8), 0 for 0: the 254th power. -/
def gfInv (a : Byte) : Byte :=
  let a2 := gfMul a a
  let a3 := gfMul a2 a
  let a6 := gfMul a3 a3
  let a12 := gfMul a6 a6
  let a15 := gfMul a12 a3
  let a30 := gfMul a15 a15
  let a60 := gfMul a30 a30
  let a120 := gfMul a60 a60
  let a126 := gfMul a120 a6
  let a127 := gfMul a126 a
  gfMul a127 a127

/-- Rotation of a byte to the left. -/
def rotByte (b : Byte) (n : Nat) : Byte := (b <<< n) ||| (b >>> (8 - n))

/-- The AES S-box, and its inverse. -/
def aesSub (a : Byte) : Byte :=
  let i := gfInv a
  i ^^^ rotByte i 1 ^^^ rotByte i 2 ^^^ rotByte i 3 ^^^ rotByte i 4 ^^^ 0x63
def aesSubInv (a : Byte) : Byte :=
  gfInv (rotByte a 1 ^^^ rotByte a 3 ^^^ rotByte a 6 ^^^ 0x05)

/-- ShiftRows and its inverse on a block in column order. -/
def aesShiftRows (b : Bytes) : Bytes := (List.range 16).map fun i => b.getD ((i + 4 * (i % 4)) % 16) 0
def aesShiftRowsInv (b : Bytes) : Bytes := (List.range 16).map fun i => b.getD ((i + 12 * (i % 4)) % 16) 0

/-- One column of MixColumns with the coefficients `c0 .. c3` of its first row. -/
def aesMixColumn (c0 c1 c2 c3 : Byte) (col : Bytes) : Bytes :=
  (List.range 4).map fun r =>
    gfMul c0 (col.getD r 0) ^^^ gfMul c1 (col.getD ((r + 1) % 4) 0) ^^^
    gfMul c2 (col.getD ((r + 2) % 4) 0) ^^^ gfMul c3 (col.getD ((r + 3) % 4) 0)
def aesMixColumns (b : Bytes) : Bytes := (chunks 4 b).flatMap (aesMixColumn 2 3 1 1)
def aesMixColumnsInv (b : Bytes) : Bytes := (chunks 4 b).flatMap (aesMixColumn 14 11 13 9)

/-- One further word of the key schedule: `ws` holds the words so far, newest first. -/
def aesNextWord (nk : Nat) (ws : List Bytes) (rcon : Byte) : List Bytes × Byte :=
  let i := ws.length
  let prev := ws.headD []
  let back := ws.getD (nk - 1) []
  let sub := prev.map aesSub
  if i % nk = 0 then
    let t := (sub.drop 1 ++ sub.take 1)
    (xorBytes back (xorBytes t [rcon, 0, 0, 0]) :: ws, gfDouble rcon)
  else if nk = 8 ∧ i % nk = 4 then (xorBytes back sub :: ws, rcon)
  else (xorBytes back prev :: ws, rcon)

/-- The round keys of a key, first first. -/
def aesRoundKeys (key : Bytes) : List Bytes :=
  let nk := key.length / 4
  let start := (chunks 4 key).reverse
  let ws := ((List.range (4 * (nk + 7) - nk)).foldl (fun (acc : List Bytes × Byte) _ =>
    aesNextWord nk acc.1 acc.2) (start, 1)).1
  chunks 16 ws.reverse.flatten

/-- Encryption of one block. -/
def aesEncrypt (key block : Bytes) : Bytes :=
  match aesRoundKeys key with
  | [] => block
  | k0 :: ks =>
    let start := xorBytes block k0
    let mid := ks.dropLast.foldl (fun b k => xorBytes (aesMixColumns (aesShiftRows (b.map aesSub))) k) start
    xorBytes (aesShiftRows (mid.map aesSub)) (ks.getLastD [])

/-- Decryption of one block. -/
def aesDecrypt (key block : Bytes) : Bytes :=
  match (aesRoundKeys key).reverse with
  | [] => block
  | k0 :: ks =>
    let start := xorBytes block k0
    let mid := ks.dropLast.foldl
      (fun b k => aesMixColumnsInv (xorBytes ((aesShiftRowsInv b).map aesSubInv) k)) start
    xorBytes ((aesShiftRowsInv mid).map aesSubInv) (ks.getLastD [])

/-! ## CTR and GCM -/

/-- The key stream of `n` blocks: nonce of 12 bytes, then a 32-bit big-endian block counter from `ctr`. -/
def ctrStream (key nonce : Bytes) (ctr n : Nat) : Bytes :=
  (List.range n).flatMap fun i => aesEncrypt key (nonce ++ beBytes 4 (ctr + i))

/-- CTR on `data` with block counter from `ctr` (R327). -/
def ctrCrypt (key nonce : Bytes) (ctr : Nat) (data : Bytes) : Bytes :=
  xorBytes data (ctrStream key nonce ctr ((data.length + 15) / 16))

/-- Product in GF(2^128) in GCM's bit order: bit 127 of the number is the first bit of the block. -/
def ghashMul (x y : BitVec 128) : BitVec 128 :=
  ((List.range 128).foldl (fun (acc : BitVec 128 × BitVec 128) i =>
    ((if bit x (127 - i) then acc.1 ^^^ acc.2 else acc.1),
     (acc.2 >>> 1) ^^^ (if bit acc.2 0 then BitVec.ofNat 128 (0xE1 * 2 ^ 120) else 0))) (0, y)).1

/-- A string padded with zeros to a multiple of `n` bytes. -/
def padTo (n : Nat) (bs : Bytes) : Bytes := bs ++ zeros ((n - bs.length % n) % n)

/-- GHASH over whole blocks. -/
def ghash (h : Bytes) (data : Bytes) : BitVec 128 :=
  (chunks 16 data).foldl (fun y b => ghashMul (y ^^^ BitVec.ofNat 128 (beNat b)) (BitVec.ofNat 128 (beNat h))) 0

/-- The full 16-byte GCM tag of ciphertext `ct` with additional data `aad` under a 96-bit IV. -/
def gcmTag (key iv aad ct : Bytes) : Bytes :=
  let h := aesEncrypt key (zeros 16)
  let s := ghash h (padTo 16 aad ++ padTo 16 ct ++ beBytes 8 (8 * aad.length) ++ beBytes 8 (8 * ct.length))
  xorBytes (beBytes 16 s.toNat) (aesEncrypt key (iv ++ beBytes 4 1))

/-- GCM encryption: ciphertext and 16-byte tag. -/
def gcmEncrypt (key iv aad pt : Bytes) : Bytes × Bytes :=
  let ct := ctrCrypt key iv 2 pt
  (ct, gcmTag key iv aad ct)

/-- GCM decryption with a tag of 12 to 16 bytes: `none` when the tag fails. -/
def gcmDecrypt (key iv aad ct tag : Bytes) : Option Bytes :=
  if (gcmTag key iv aad ct).take tag.length = tag then some (ctrCrypt key iv 2 ct) else none

/-! ## XTS -/

/-- The next tweak: multiplication by x in GF(2^128), little-endian. -/
def xtsDouble (t : Bytes) : Bytes :=
  let n := leNat t
  leBytes 16 ((if n / 2 ^ 127 % 2 = 1 then (2 * n % 2 ^ 128) ^^^ 0x87 else 2 * n))

def xtsBlock (f : Bytes → Bytes) (t b : Bytes) : Bytes := xorBytes (f (xorBytes b t)) t

/-- The blocks of one data unit but for ciphertext stealing: outputs, and the tweak after them. -/
def xtsBlocks (f : Bytes → Bytes) (t : Bytes) : List Bytes → List Bytes × Bytes
  | [] => ([], t)
  | b :: bs =>
    let r := xtsBlocks f (xtsDouble t) bs
    (xtsBlock f t b :: r.1, r.2)

/-- XTS over one data unit of at least 16 bytes, with ciphertext stealing. -/
def xtsCrypt (decrypt : Bool) (key1 key2 tweak data : Bytes) : Bytes :=
  let f := if decrypt then aesDecrypt key1 else aesEncrypt key1
  let t0 := aesEncrypt key2 tweak
  let r := data.length % 16
  if r = 0 then ((xtsBlocks f t0 (chunks 16 data)).1).flatten
  else
    let full := data.length / 16 - 1
    let body := xtsBlocks f t0 (chunks 16 (data.take (16 * full)))
    let ta := body.2
    let tb := xtsDouble ta
    let last := (data.drop (16 * full)).take 16
    let part := data.drop (16 * full + 16)
    let cc := xtsBlock f (if decrypt then tb else ta) last
    let pp := xtsBlock f (if decrypt then ta else tb) (part ++ cc.drop r)
    body.1.flatten ++ pp ++ cc.take r

/-! ## CMAC and the KDF -/

/-- Doubling of a block for the CMAC subkeys, big-endian. -/
def cmacDouble (b : Bytes) : Bytes :=
  let n := beNat b
  beBytes 16 (if n / 2 ^ 127 % 2 = 1 then (2 * n % 2 ^ 128) ^^^ 0x87 else 2 * n)

/-- The 16-byte AES-CMAC of a message. -/
def cmac (key msg : Bytes) : Bytes :=
  let k1 := cmacDouble (aesEncrypt key (zeros 16))
  let bs := chunks 16 msg
  let last := bs.getLastD []
  let fin := if last.length = 16 then xorBytes last k1
    else xorBytes (padTo 16 (last ++ [0x80])) (cmacDouble k1)
  let x := bs.dropLast.foldl (fun x b => aesEncrypt key (xorBytes x b)) (zeros 16)
  aesEncrypt key (xorBytes x fin)

/-- ASCII bytes of a label. -/
def ascii (t : String) : Bytes := t.toList.map fun c => byte c.toNat

/-- KDF(K, label, ctx): 32 bytes by AES-256 CMAC under K (ch. 09, before R275). -/
def kdf (key : Bytes) (label : String) (ctx : Bytes) : Bytes :=
  cmac key ([1] ++ ascii label ++ ctx ++ [1, 0]) ++ cmac key ([2] ++ ascii label ++ ctx ++ [1, 0])

/-! ## KW and KWP -/

/-- One pass of the wrapping function over the semiblocks, from step `t` up. -/
def kwPass (key : Bytes) : Nat → Bytes → List Bytes → Bytes × List Bytes
  | _, a, [] => (a, [])
  | t, a, r :: rs =>
    let b := aesEncrypt key (a ++ r)
    let x := kwPass key (t + 1) (xorBytes (b.take 8) (beBytes 8 t)) rs
    (x.1, b.drop 8 :: x.2)

/-- The wrapping function W of SP 800-38F on an 8-byte A and the semiblocks. -/
def kwWrapCore (key a : Bytes) (rs : List Bytes) : Bytes :=
  let x := (List.range 6).foldl (fun (st : Bytes × List Bytes) j =>
    kwPass key (rs.length * j + 1) st.1 st.2) (a, rs)
  x.1 ++ x.2.flatten

/-- One inverse pass; the semiblocks stand last first, and `t` counts down. -/
def kwPassInv (key : Bytes) : Nat → Bytes → List Bytes → Bytes × List Bytes
  | _, a, [] => (a, [])
  | t, a, r :: rs =>
    let b := aesDecrypt key (xorBytes a (beBytes 8 t) ++ r)
    let x := kwPassInv key (t - 1) (b.take 8) rs
    (x.1, b.drop 8 :: x.2)

/-- The inverse of the wrapping function: A and the plain semiblocks. -/
def kwUnwrapCore (key ct : Bytes) : Bytes × Bytes :=
  let rs := chunks 8 (ct.drop 8)
  let x := (List.range 6).foldl (fun (st : Bytes × List Bytes) j =>
    kwPassInv key (rs.length * (6 - j)) st.1 st.2) (ct.take 8, rs.reverse)
  (x.1, x.2.reverse.flatten)

/-- KW wrap of a multiple of 8 bytes, at least 16. -/
def kwWrap (key pt : Bytes) : Bytes := kwWrapCore key (List.replicate 8 0xA6) (chunks 8 pt)

/-- KW unwrap: `none` when the integrity value fails. -/
def kwUnwrap (key ct : Bytes) : Option Bytes :=
  let x := kwUnwrapCore key ct
  if x.1 = List.replicate 8 (0xA6 : Byte) then some x.2 else none

/-- KWP wrap of at least one byte. -/
def kwpWrap (key pt : Bytes) : Bytes :=
  let a : Bytes := [0xA6, 0x59, 0x59, 0xA6] ++ beBytes 4 pt.length
  let p := padTo 8 pt
  if p.length = 8 then aesEncrypt key (a ++ p) else kwWrapCore key a (chunks 8 p)

/-- KWP unwrap: `none` when the integrity value, the length or the padding fails. -/
def kwpUnwrap (key ct : Bytes) : Option Bytes :=
  let x := if ct.length = 16 then (let b := aesDecrypt key ct; (b.take 8, b.drop 8)) else kwUnwrapCore key ct
  let len := beNat (x.1.drop 4)
  if x.1.take 4 = ([0xA6, 0x59, 0x59, 0xA6] : Bytes) ∧ len ≤ x.2.length ∧ x.2.length < len + 8 ∧
      (x.2.drop len).all (· = 0) then some (x.2.take len)
  else none

end Sys2Proof.Machine
end

