-- ==== Sys2Proof/Machine/Sched.lean ====
section
/-! DEFINITION. The scheduler: budgets, candidates, slices, preemption and the context mover (R234-R238, R255-R263). -/

namespace Sys2Proof.Machine

open Sys2Proof

/-! ## Candidates (R259) -/

/-- A candidate for a slot: READY, not resident (R259). -/
def isCandidate (k : Cask) : Bool := k.state == .ready && k.slot.isNone

/-- A cask with CAP = 1 in this window that has used its budget is not chosen (R259, R263). -/
def capped (k : Cask) : Bool := k.winCap && decide (k.budget ≤ k.used)

/-- The order of a cask among the candidates: 1 boosted, 2 within its budget, 3 beyond it (R259). -/
def orderOf (k : Cask) : Nat := if k.boosted then 1 else if k.used < k.budget then 2 else 3

/-- The time that ranks casks of one order and priority: the boost, or the end of the last slice (R259). -/
def rankTime (k : Cask) : Nat := if k.boosted then k.boostAt.toNat else k.lastEnd.toNat

/-- `a` (cask number, cask) ranks before `b` (R259); of equal ranks `first` says which. [DESIGN CHOICE, log 32] -/
def ranksBefore (first : Nat → Nat → Bool) (a b : Nat × Cask) : Bool :=
  decide (orderOf a.2 < orderOf b.2) ||
  (orderOf a.2 == orderOf b.2 &&
    (decide (b.2.winPrio.toNat < a.2.winPrio.toNat) ||
      (a.2.winPrio == b.2.winPrio &&
        (decide (rankTime a.2 < rankTime b.2) || (rankTime a.2 == rankTime b.2 && first a.1 b.1)))))

/-- The better of a current best and another. [DESIGN CHOICE, log 32] -/
def better (first : Nat → Nat → Bool) (best : Option (Nat × Cask)) (x : Nat × Cask) : Option (Nat × Cask) :=
  match best with
  | none => some x
  | some y => if ranksBefore first x y then some x else some y

/-- The candidate the scheduler chooses; `none` when no cask qualifies (R259). No cask is chosen while frozen.
[DESIGN CHOICE, log 32] -/
def State.bestCandidate (s : State) : Option (Nat × Cask) :=
  if s.frozen then none
  else (s.casks.filter fun e => isCandidate e.2 && !capped e.2).foldl (better (Config.tieFirst s.draw)) none

/-- Scheduling runs in ACTIVE only (R88). -/
def State.schedules (s : State) : Bool := s.alive && s.pwr.state == .active && s.clk.pllLock

/-! ## Issuing (R216, R217, R251) -/

/-- The context may issue a move now: keystone code that runs and is not halted; a cask in a slot of a clocked core, READY or
RUNNING, not frozen, not being moved. -/
def State.canIssue (s : State) : Ctx → Bool
  | .keystone => s.ksRunning && !s.dbg.keystoneHalted
  | .cask n =>
    let k := s.cask n.toNat
    s.schedules && !s.frozen && !k.leaving && (k.state == .ready || k.state == .running) &&
      (match k.slot with
       | some j => s.coreOn (slotCore j)
       | none => false)

/-- The context's next move issues at once: no wait, stall or string operation holds it. -/
def State.canTrigger (s : State) (c : Ctx) : Bool :=
  s.canIssue c && (s.regs c).wait.kind == .none && !(s.regs c).str.busy

/-! ## Slots -/

/-- The cask in a slot. -/
def State.occupant (s : State) (slot : Nat) : Option (Nat × Cask) := s.casks.find? fun e => e.2.slot == some slot

/-- The cask slots on clocked cores: slot 0 is the keystone's (R211). -/
def State.slotUsable (s : State) (slot : Nat) : Bool := decide (slot ≠ 0) && decide (slot < 64) && s.coreOn (slotCore slot)

/-- Some usable slot is empty. -/
def State.slotEmpty (s : State) : Bool :=
  (List.range 64).any fun j => s.slotUsable j && (s.occupant j).isNone

/-- The cask begins to leave its slot (R235). -/
def State.beginLeave (s : State) (n : Nat) : State := s.modCask n fun k => { k with leaving := true }

/-- A resident cask that gives a reason to need its slot leaves it when a candidate exists (R260). [DEDUCED, log 99] -/
def State.leaveIfWanted (s : State) (n : Nat) : State :=
  if s.bestCandidate.isSome then s.beginLeave n else s

/-- The end of a slice, or SYS.YIELD: the cask is ranked with the candidates and keeps the slot if it ranks first; a cask that has
used its budget with CAP = 1 does not keep it (R259, R260). [DEDUCED, log 99] -/
def State.endSlice (s : State) (n : Nat) : State :=
  let s1 := s.modCask n fun k => { k with lastEnd := s.clk.time }
  let k := s1.cask n
  if capped k then s1.beginLeave n
  else match s1.bestCandidate with
    | none => s1
    | some c => if k.state = .waiting ∨ ranksBefore (Config.tieFirst s.draw) c (n, k) then s1.beginLeave n else s1

/-- The slot a waiting boosted cask takes: of the casks in order 3, the lowest PRIO, then the longest held (R261).
[DEDUCED, log 99] -/
def State.victim (s : State) : Option (Nat × Cask) :=
  match s.bestCandidate with
  | none => none
  | some c =>
    if !c.2.boosted || s.slotEmpty then none
    else (s.casks.filter fun e => e.2.slot.isSome && !e.2.leaving && orderOf e.2 == 3).foldl (fun best x =>
      match best with
      | none => some x
      | some y =>
        if x.2.winPrio.toNat < y.2.winPrio.toNat ∨ (x.2.winPrio = y.2.winPrio ∧ x.2.holdSince.toNat < y.2.holdSince.toNat) then some x
        else some y) none

/-- SLICE_END: 10 µs of a slot's cask are over (R260). -/
def execSliceEnd (slot : Fin 64) (s : State) : Host.Outcome State Fault Refusal :=
  .next (match s.occupant slot.val with
    | none => s
    | some e => if s.schedules ∧ ¬ e.2.leaving then s.endSlice e.1 else s)

/-- Every outstanding load of a context has arrived (R235). -/
def loadsIn (r : Regs) : Bool := r.lsu.pend.all (·.arrived)

/-- The block is saved and the slot freed; a string operation yields, keeping OP; a drain sees the slot free (R192, R235). -/
def State.swapOut (s : State) (n : Nat) : State :=
  s.modCask n fun k =>
    leaveSlot { k with regs := { k.regs with str := { k.regs.str with busy := false } } } s.clk.time

/-- CONTEXT_SWAP_OUT_DONE: a cask that was leaving, or that a boosted cask displaces (R261), has left its slot (R235, R236). -/
def execContextSwapOutDone (slot : Fin 64) (s : State) : Host.Outcome State Fault Refusal :=
  .next (match s.occupant slot.val with
    | none => s
    | some e =>
      let displaced : Bool := match s.victim with
        | some v => v.1 == e.1
        | none => false
      if s.alive ∧ (e.2.leaving ∨ displaced) ∧ loadsIn e.2.regs then (s.swapOut e.1).ungate 218 2 else s)

/-- A chosen cask takes a slot: a boost ends and is used up (R255). -/
def enterSlot (slot : Nat) (now : Time) (k : Cask) : Cask :=
  { k with slot := some slot, leaving := false, holdSince := now, boosted := false, boostUsed := k.boostUsed || k.boosted }

/-- CONTEXT_SWAP_IN_DONE: the mover has placed the cask the scheduler chose (R216, R236, R259). [DESIGN CHOICE, log 32] -/
def execContextSwapInDone (slot : Fin 64) (s : State) : Host.Outcome State Fault Refusal :=
  .next (if s.schedules ∧ s.slotUsable slot.val ∧ (s.occupant slot.val).isNone then
    match s.bestCandidate with
    | none => s
    | some c => ((s.drawNat.2.modCask c.1 (enterSlot slot.val s.clk.time)).ungate 218 2).ungate (slotCore slot.val) 1
  else s)

/-! ## Budget windows (R257) -/

/-- A cask that shares in a window: READY, RUNNING or WAITING (R257). -/
def shares (k : Cask) : Bool := k.state == .ready || k.state == .running || k.state == .waiting

/-- Slots on clocked cores (R257). -/
def State.slotCount (s : State) : Nat :=
  3 + 4 * ((List.range 15).filter fun i => s.coreOn (i + 1)).length

/-- The budget of a cask: min(100,000, ⌊C × w / W⌋) (R257). -/
def budgetOf (slots total weight : Nat) : Nat := min 100000 (slots * 100000 * weight / total)

/-- SCHED_WINDOW_START: budgets for the new window, SCHED_USED and BOOSTED at 0 (R256, R257). [DEDUCED, log 100] -/
def execSchedWindowStart (now : Time) (s : State) : Host.Outcome State Fault Refusal :=
  .next (if now.toNat % 100000 = 0 ∧ s.timeCounts then
    let s1 := s.atTime now
    let total := ((s1.casks.filter fun e => shares e.2).map fun e => e.2.weight.toNat).sum
    let slots := s1.slotCount
    { s1 with
      sched := { s1.sched with slots := BitVec.ofNat 7 slots, w := BitVec.ofNat 18 total }
      casks := s1.casks.map fun e => (e.1, { e.2 with
        used := 0, boostUsed := false, winPrio := e.2.prio, winCap := e.2.cap
        budget := if shares e.2 then budgetOf slots total e.2.weight.toNat else 0 }) }
  else s)

end Sys2Proof.Machine
end

