-- ==== Sys2Proof/Machine/Keys.lean ====
section
/-! DEFINITION. Key handles, key types, policies and class grants (R239, R278-R281). -/

namespace Sys2Proof.Machine

open Sys2Proof

/-! ## Handles and keys (R278-R281) -/

/-- Bytes of material of a key type (R280); `none` for a code that names no type. -/
def materialLen (typ : Nat) : Option Nat :=
  match typ with
  | 0x01 => some 16
  | 0x11 => some 48
  | 0x02 | 0x10 | 0x12 | 0x13 | 0x20 | 0x21 | 0x22 | 0x23 | 0x30 => some 32
  | _ => none

/-- The filled slot a handle names for a requester (R279). -/
def State.slotOf (s : State) (c : Ctx) (h : Word) : Option (Nat × VSlot) :=
  match s.vault.slots.find? fun e => e.1 == fld h 0 13 with
  | none => none
  | some e =>
    if fld h 13 3 = 0 ∧ e.2.owner.toNat = ctxNum c ∧ e.2.incarn = bv h 16 16 then some e else none

/-- The same with its material: a record that does not unwrap under the root in force has none (R276). [DEDUCED, log 106] -/
def State.keyOf (s : State) (c : Ctx) (h : Word) : Option VSlot :=
  match s.slotOf c h with
  | some e => if e.2.key.isEmpty then none else some e.2
  | none => none

/-- Policy bits (R280). -/
def polEncrypt : Nat := 0
def polDecrypt : Nat := 1
def polSign : Nat := 2
def polVerify : Nat := 3
def polDerive : Nat := 4
def polWrap : Nat := 5
def polExport : Nat := 6
def polFrame : Nat := 7

/-- POLICY grants the bit, and the key is no FRAME key (R280, R281). [DEDUCED, log 107] -/
def polOk (p : Byte) (b : Nat) : Bool := bit p b && !bit p polFrame

/-- A key type of AES (R280). -/
def isAes (typ : Nat) : Bool := typ == 0x01 || typ == 0x02

/-- The grants of a cask's class; the keystone has every grant (R165, R239). -/
def State.granted (s : State) (c : Ctx) (g : Nat) : Bool :=
  match c with
  | .keystone => true
  | .cask n => bit (tget s.caskBlk.classes (s.cask n.toNat).cls.toNat 0) g

/-- The grant a key type needs: the public-key services, or LAT for a lattice secret key (R239, R288). [DEDUCED, log 107] -/
def State.typeGranted (s : State) (c : Ctx) (typ : Nat) : Bool :=
  if isAes typ then true else if typ = 0x30 then s.granted c 1 else s.granted c 9

end Sys2Proof.Machine
end

