-- ==== Sys2Proof/Machine/Press.lean ====
section
/-! DEFINITION. The press: jobs of the CRY pages, their checks, nonces, staging slots and pipelines, suspension, release after
verification (R315-R343, R346). Parity errors stand with the frame path, in Parity.lean. -/

namespace Sys2Proof.Machine

open Sys2Proof

/-! ## Pages and pipelines -/

def State.cry (s : State) (n : Nat) : PressPage := tget s.press.pages n {}
def State.setCry (s : State) (n : Nat) (p : PressPage) : State :=
  { s with press := { s.press with pages := tset s.press.pages n p } }
def State.setCryJob (s : State) (n : Nat) (j : PressJob) : State := s.setCry n { s.cry n with job := some j }
def State.pipeAt (s : State) (p : Nat) : Pipe := tget s.press.pipes p {}
def State.setPipe (s : State) (p : Nat) (x : Pipe) : State :=
  { s with press := { s.press with pipes := tset s.press.pipes p x } }

/-- A pipeline is out of service: under test, or after 3 errors (R346). -/
def pipeOut (x : Pipe) : Bool := x.test || decide (3 ≤ x.faults)

/-- A clocked pipeline in service (R348). -/
def State.pipeServes (s : State) (p : Nat) : Bool := !s.clk.off.contains (16 + p) && !pipeOut (s.pipeAt p)

/-- No pipeline is in service (R346). [DEDUCED, log 113] -/
def State.pressOut (s : State) : Bool := (List.range 16).all fun p => pipeOut (s.pipeAt p)
/-- No pipeline is in service until the next reset (R346). [DEDUCED, log 113] -/
def State.pressDead (s : State) : Bool := (List.range 16).all fun p => decide (3 ≤ (s.pipeAt p).faults)

/-- The pipeline that a job takes of those free for one, of which the spec names none: a free choice. [DESIGN CHOICE, log 38] -/
def State.freePipe (s : State) : Option (Fin 16) :=
  choose (Config.freeNat s.draw) ((List.finRange 16).filter fun p => s.pipeServes p.val && (s.pipeAt p.val).use == .idle)

/-! ## CRY.MODE (R321) -/

def mMode (m : Word) : Nat := fld m 0 3
def mDec (m : Word) : Bool := bit m 3
def mGen (m : Word) : Bool := bit m 4
def mTlen (m : Word) : Nat := fld m 8 5
def mLine (m : Word) : Nat := fld m 16 5
def mEvent (m : Word) : Bool := bit m 21

/-- A job that produces a nonce: CTR and GCM encryption (R327). [DESIGN CHOICE, log 116] -/
def mNonce (m : Word) : Bool := (mMode m == 1 || mMode m == 2) && !mDec m

/-- A job that releases only after verification: GCM decryption and the unwraps (R328). -/
def mStaged (m : Word) : Bool := mDec m && (mMode m == 2 || mMode m == 5 || mMode m == 6)

/-- TLEN is in range for the mode (R321). -/
def tlenOk (m : Word) : Bool :=
  match mMode m with
  | 2 => decide (12 ≤ mTlen m) && decide (mTlen m ≤ 16)
  | 4 => decide (8 ≤ mTlen m) && decide (mTlen m ≤ 16)
  | _ => mTlen m == 0

/-- LEN and ALEN are within the limits of R327. [DESIGN CHOICE, log 116] -/
def lenOk (m : Word) (len alen : Nat) : Bool :=
  match mMode m, mDec m with
  | 1, _ => decide (1 ≤ len) && decide (len ≤ 0x100000)
  | 2, false => decide (len ≤ 0x100000) && decide (alen ≤ 0x10000)
  | 2, true => decide (len ≤ 0x4000) && decide (alen ≤ 0x10000)
  | 3, _ => decide (16 ≤ len) && decide (len ≤ 0x100000)
  | 4, _ => decide (len ≤ 0x100000)
  | 5, false => decide (16 ≤ len) && decide (len ≤ 4096) && len % 8 == 0
  | 5, true => decide (24 ≤ len) && decide (len ≤ 4104) && len % 8 == 0
  | 6, false => decide (1 ≤ len) && decide (len ≤ 4096)
  | 6, true => decide (16 ≤ len) && decide (len ≤ 4104) && len % 8 == 0
  | _, _ => false

/-- The most bytes a job writes to DST (R327). -/
def outMax (m : Word) (len : Nat) : Nat :=
  match mMode m, mDec m with
  | 4, _ => 0
  | 5, false => len + 8
  | 6, false => (len + 7) / 8 * 8 + 8
  | 5, true | 6, true => len - 8
  | _, _ => len

/-- Two ranges share no byte. -/
def apart (a n b m : Nat) : Bool := n == 0 || m == 0 || decide (a + n ≤ b) || decide (b + m ≤ a)

/-- The address rules of R326. [DESIGN CHOICE, log 116] -/
def State.cryAddrOk (s : State) (c : Ctx) (j : PressJob) : Bool :=
  let m := j.mode
  let gcm := mMode m == 2
  let out := outMax m j.len.toNat
  let ivLen := if mMode m = 1 ∨ mMode m = 2 then 12 else if mMode m = 3 then 16 else 0
  let ivWrite := mNonce m
  let tagLen := if mMode m = 2 ∨ mMode m = 4 then mTlen m else 0
  let alen := if gcm then j.alen.toNat else 0
  s.engineRange c j.src.toNat j.len.toNat false && s.engineRange c j.dst.toNat out true &&
  s.engineRange c j.aad.toNat alen false && s.engineRange c j.iv.toNat ivLen ivWrite &&
  s.engineRange c j.tag.toNat tagLen (!mDec m) &&
  (j.dst == j.src || apart j.dst.toNat out j.src.toNat j.len.toNat) &&
  apart j.dst.toNat out j.aad.toNat alen && apart j.dst.toNat out j.iv.toNat ivLen &&
  apart j.dst.toNat out j.tag.toNat tagLen

/-- The policy bit an operation needs (R327). -/
def mPolicy (m : Word) : Nat :=
  if mMode m = 4 then (if mDec m then polVerify else polSign) else if mDec m then polDecrypt else polEncrypt

/-- Checks 5 to 9 of R325 on the keys: the code, or the job with its keys resolved (R343). [DEDUCED, log 115] -/
def State.cryKeys (s : State) (c : Ctx) (j : PressJob) : Except Nat PressJob :=
  let xts := mMode j.mode == 3
  match s.keyOf c j.key, (if xts then s.keyOf c j.key2 else s.keyOf c j.key) with
  | some k, some k2 =>
    if !(isAes k.typ.toNat && isAes k2.typ.toNat) || k.typ != k2.typ then .error 4
    else if !(polOk k.policy (mPolicy j.mode) && polOk k2.policy (mPolicy j.mode)) then .error 3
    else if xts && k.key == k2.key then .error 6
    else if mNonce j.mode && mGen j.mode && s.vault.rngFail then .error 8
    else .ok { j with mat := k.key, mat2 := if xts then k2.key else [] }
  | _, _ => .error 1

/-- The checks of R325 in table order but for the nonce: the code, or the job. -/
def State.cryCheck (s : State) (c : Ctx) (j : PressJob) : Except Nat PressJob :=
  let m := j.mode
  if s.pressOut then .error 11
  else if mMode m = 0 ∨ mMode m = 7 ∨ fld m 5 3 ≠ 0 ∨ fld m 13 3 ≠ 0 ∨ fld m 22 10 ≠ 0 ∨ !tlenOk m ∨
      (mNonce m && !mGen m && (s.nctrOf (ctxNum c) j.nctr.toNat).isNone) then .error 2
  else if !lenOk m j.len.toNat j.alen.toNat then .error 5
  else if !s.cryAddrOk c j then .error 12
  else if !s.vault.rootOk then .error 7
  else s.cryKeys c j

/-! ## Arbitration (R264, R265) -/

/-- AES blocks of a job, at most one burst (R264, R339). -/
def jobCost (j : PressJob) : Nat := min 4096 ((j.len.toNat + (if mMode j.mode = 2 then j.alen.toNat else 0) + 31) / 16)

/-- The jobs that wait for a pipeline, with their pages. -/
def State.pressWaiting (s : State) : List (Nat × PressJob) :=
  s.press.pages.filterMap fun e => match e.2.job with
    | some j => if j.phase = .waitPipe then some (e.1, j) else none
    | none => none

/-- Deficit round robin over the waiting jobs, 64 AES blocks per unit of weight (R264). [DESIGN CHOICE, log 38] -/
def State.pressPick (s : State) : Option (Nat × State) :=
  let d := s.drawNat
  (d.2.drrPick d.1 s.press.deficit 64 (s.pressWaiting.map fun w => (w.1, jobCost w.2))).map fun r =>
    (r.1, { d.2 with press := { s.press with deficit := tdel r.2 r.1 } })

/-! ## Running a job -/

/-- The inputs a job reads when its first block enters a pipeline (R328); the nonce used is then written to IV (R338).
[DEDUCED, log 112] -/
def State.cryBegin (s : State) (n : Nat) (j : PressJob) : State :=
  if j.begun then s.setCryJob n j
  else
    let m := j.mode
    let ivLen := if mMode m = 3 then 16 else if mMode m ≤ 2 ∧ mDec m then 12 else 0
    let j1 := { j with
      begun := true
      input := s.rdBytes j.src.toNat j.len.toNat
      aadIn := if mMode m = 2 then s.rdBytes j.aad.toNat j.alen.toNat else []
      ivIn := if mNonce m then j.nonce else s.rdBytes j.iv.toNat ivLen
      tagIn := if mDec m then s.rdBytes j.tag.toNat (mTlen m) else [] }
    let s1 := if mNonce m then s.engineWrite (ctxOf n) j.iv.toNat j.nonce else s
    s1.setCryJob n j1

/-- What a job produces: the bytes for DST and for TAG, or TAG_FAIL (R327, R328). -/
def cryOutput (j : PressJob) : Except Nat (Bytes × Bytes) :=
  let m := j.mode
  let release (x : Option Bytes) : Except Nat (Bytes × Bytes) := match x with
    | some o => .ok (o, [])
    | none => .error 9
  match mMode m, mDec m with
  | 1, _ => .ok (ctrCrypt j.mat j.ivIn 0 j.input, [])
  | 2, false =>
    let x := gcmEncrypt j.mat j.ivIn j.aadIn j.input
    .ok (x.1, x.2.take (mTlen m))
  | 2, true => release (gcmDecrypt j.mat j.ivIn j.aadIn j.input j.tagIn)
  | 3, d => .ok (xtsCrypt d j.mat j.mat2 j.ivIn j.input, [])
  | 4, false => .ok ([], (cmac j.mat j.input).take (mTlen m))
  | 4, true => if (cmac j.mat j.input).take (mTlen m) = j.tagIn then .ok ([], []) else .error 9
  | 5, false => .ok (kwWrap j.mat j.input, [])
  | 5, true => release (kwUnwrap j.mat j.input)
  | 6, false => .ok (kwpWrap j.mat j.input, [])
  | _, _ => release (kwpUnwrap j.mat j.input)

/-- A running job is suspended with the first `blocks` of its burst done; its output so far stands (R339, R341). -/
def State.crySuspend (s : State) (n blocks : Nat) : State :=
  match (s.cry n).job with
  | none => s
  | some j => match j.phase with
    | .running p =>
      let out := match cryOutput j with
        | .ok (o, _) => if mStaged j.mode then [] else o
        | .error _ => []
      let k := min out.length (j.written + 16 * blocks)
      let s1 := s.engineWrite (ctxOf n) j.dst.toNat (out.take k)
      (s1.setPipe p.val { s1.pipeAt p.val with use := .idle }).setCryJob n
        { j with phase := .waitPipe, suspended := true, burst := 0, written := k }
    | _ => s

/-- A segment that waits for a pipeline (R316, R490). -/
def segWaits (g : Segm) : Bool := g.phase == .decrypting && g.pipe.isNone

/-- Pipelines that run frame-path jobs, and the limit on them (R316). -/
def State.framePipes (s : State) : Nat := (s.press.pipes.filter fun e => e.2.use == .frame).length
def State.frameLimit (s : State) : Nat := min 10 ((List.range 16).filter fun p => !s.clk.off.contains (16 + p)).length

/-- A segment takes a pipeline. -/
def State.segTakes (s : State) (i : Nat) (p : Fin 16) : State :=
  let s1 := s.setPipe p.val { s.pipeAt p.val with use := .frame }
  { s1 with frame := { s1.frame with segs := s1.frame.segs.modify i fun g => { g with pipe := some p.val } } }

/-- Pages whose jobs run. -/
def State.pressRunning (s : State) : List Nat :=
  s.press.pages.filterMap fun e => match e.2.job with
    | some j => match j.phase with
      | .running _ => some e.1
      | _ => none
    | none => none

/-- A running job makes room for a frame-path job: which one has the most blocks in its burst, and how many it has done, is free
(R340). [DESIGN CHOICE, log 38] -/
def State.framePreempt (s : State) : State :=
  let d := s.drawNat
  let e := d.2.drawNat
  match s.pressRunning[d.1 % max 1 s.pressRunning.length]? with
  | none => s
  | some n => e.2.crySuspend n (e.1 % 4097)

/-- Waiting segments take pipelines ahead of every other job (R266, R316, R340). -/
def State.framePump : Nat → State → State
  | 0, s => s
  | k + 1, s =>
    match s.frame.segs.findIdx? segWaits with
    | none => s
    | some i =>
      if s.frameLimit ≤ s.framePipes then s
      else
        let s1 := if s.freePipe.isSome then s else s.framePreempt
        match s1.freePipe with
        | none => s
        | some p => State.framePump k (s1.drawNat.2.segTakes i p)

/-- Waiting jobs take free pipelines, one by one (R264, R317, R341); with none left until the next reset they
end with PARITY (R346). [DEDUCED, log 113] -/
def State.pressPump : Nat → State → State
  | 0, s => s
  | k + 1, s =>
    match s.pressPick with
    | none => s
    | some (n, s1) =>
      match (s.cry n).job, s1.freePipe with
      | some j, some p =>
        State.pressPump k (((s1.drawNat.2.setPipe p.val { s1.pipeAt p.val with use := .page n }).cryBegin n
          { j with phase := .running p, burst := 0, suspended := false }))
      | some j, none => if s.pressDead then State.pressPump k (s.setCryJob n { j with phase := .failed 11 }) else s
      | none, _ => s

/-- Every waiting job that can goes on. -/
def State.pressGo (s : State) : State :=
  let s1 := State.framePump s.frame.segs.length s
  State.pressPump s1.pressWaiting.length s1

/-- The lowest free staging slot of the 32 (R329). -/
def State.freeStage (s : State) : Option Nat := (List.range 32).find? fun i => !(s.press.staging.any fun e => e.1 == i)

/-- A staged job takes a slot, or waits for one; every other job waits for a pipeline (R329). -/
def State.cryStage (s : State) (n : Nat) (j : PressJob) : State :=
  if mStaged j.mode then
    match s.freeStage with
    | some i =>
      let s1 := { s with press := { s.press with staging := tset s.press.staging i n } }
      (s1.setCryJob n { j with slot := some i, phase := .waitPipe }).pressGo
    | none => s.setCryJob n { j with phase := .waitSlot }
  else (s.setCryJob n { j with phase := .waitPipe }).pressGo

/-! ## Nonces (R332-R337) -/

/-- The INC nonce FIXED, C, L, each big-endian (ch. 10, before R332). -/
def incNonce (fixed : Word) (c : Dword) (l : BitVec 16) : Bytes :=
  beBytes 4 fixed.toNat ++ beBytes 6 c.toNat ++ beBytes 2 l.toNat

/-- After use L grows by 1; the reservation ends after 0xFFFF, or when NCTR no longer names its counter (R333, R335).
[DEDUCED, log 114] -/
def nextResv (c : Dword) (l : BitVec 16) (same : Bool) : Option (Dword × BitVec 16) :=
  if l = 0xFFFF ∨ ¬ same then none else some (c, l + 1)

/-- The job takes the nonce (C, L) (R333). [DEDUCED, log 114] -/
def State.cryUseInc (s : State) (n : Nat) (j : PressJob) (c : Dword) (l : BitVec 16) : State :=
  let p := s.cry n
  (s.setCry n { p with resv := nextResv c l (p.nctr == j.nctr) }).cryStage n { j with nonce := incNonce j.nfix c l }

/-- Check 10: a job that needs a nonce produces one or waits for the reservation (R332-R337). [DEDUCED, log 114] -/
def State.cryNonce (s : State) (n : Nat) (j : PressJob) : State :=
  let p := s.cry n
  if !mNonce j.mode then s.cryStage n j
  else if mGen j.mode then
    if 2 ^ 32 ≤ p.gen then s.setCryJob n { j with phase := .failed 13 }
    else
      let d := s.drbg 12
      (d.2.setCry n { p with gen := p.gen + 1 }).cryStage n { j with nonce := d.1 }
  else match p.resv with
    | some (c, l) => s.cryUseInc n j c l
    | none => (s.setCryJob n { j with phase := .waitNonce }).ungate 198 8

/-- PRESS_NONCE_RESERVED: the increment of the job's counter has ended: C and L = 0, or NONCE_EXHAUSTED or NVM_FAULT (R332-R334).
[DEDUCED, log 114] -/
def execPressNonceReserved (c : Ctx) (s : State) : Host.Outcome State Fault Refusal :=
  let n := ctxNum c
  .next (match (s.cry n).job with
    | none => s
    | some j =>
      if j.phase = .waitNonce ∧ s.alive then
        let fail (code : BitVec 5) (t : State) : State := t.setCryJob n { j with phase := .failed code }
        match s.nctrOf n j.nctr.toNat with
        | none => fail 14 s
        | some i =>
          if 2 ^ 48 - 1 ≤ s.ctrNat i then fail 13 s
          else match s.ctrAdd i 1 false with
            | (.ok v, s1) => s1.cryUseInc n j (BitVec.ofNat 64 v) 0
            | (.atMax, s1) => fail 13 s1
            | (.nvmFault, s1) => fail 14 s1
      else s)

/-! ## GO and CANCEL (R323, R324, R331) -/

/-- The ports as a job latches them (R324). -/
def latchJob (p : PressPage) : PressJob :=
  { mode := p.mode, key := p.key, key2 := p.key2, src := p.src, dst := p.dst, len := p.len, aad := p.aad, alen := p.alen,
    iv := p.iv, tag := p.tag, nfix := p.nfix, nctr := p.nctr }

/-- CRY.GO (R323-R325). [DEDUCED, log 112] -/
def State.cryGo (s : State) (c : Ctx) : State :=
  let n := ctxNum c
  let p := s.cry n
  if p.job.isSome then s.setCry n { p with refused := true }
  else
    let s1 := (s.setCry n { p with refused := false }).ungate 16 16
    match s1.cryCheck c (latchJob p) with
    | .error e => s1.setCryJob n { latchJob p with phase := .failed (BitVec.ofNat 5 e) }
    | .ok j => s1.cryNonce n j

/-- A page's job leaves its pipeline and its staging slot (R329, R341). -/
def State.cryRelease (s : State) (n : Nat) : State :=
  { s with press := { s.press with
      staging := s.press.staging.filter fun e => e.2 ≠ n
      pipes := s.press.pipes.map fun e => (e.1, if e.2.use = .page n then { e.2 with use := .idle } else e.2) } }

/-- A job stops at a block boundary with a code: how many blocks stand in DST by then is free, and a staged job has written
nothing (R331, R343). A job that has already failed keeps its own code. [DEDUCED, log 112] -/
def State.cryStop (s : State) (n : Nat) (code : BitVec 5) : State :=
  match (s.cry n).job with
  | none => s
  | some j => match j.phase with
    | .failed _ => s
    | _ =>
      let out := match cryOutput j with
        | .ok (o, _) => if j.begun ∧ ¬ mStaged j.mode then o else []
        | .error _ => []
      let d := s.drawNat
      let left := (out.length - j.written) / 16
      let k := j.written + 16 * (d.1 % (left + 1))
      let s1 := (d.2.engineWrite (ctxOf n) j.dst.toNat (out.take k)).cryRelease n
      (s1.setCryJob n { j with phase := .failed code, written := k, slot := none }).pressGo

/-- The jobs of page `n` whose key stood in `slot` (R343). [DEDUCED, log 115] -/
def State.pressKeyGone (s : State) (n slot : Nat) : State :=
  match (s.cry n).job with
  | none => s
  | some j =>
    if fld j.key 0 13 = slot ∨ (mMode j.mode = 3 ∧ fld j.key2 0 13 = slot) then s.cryStop n 1 else s

/-- CRY.CANCEL: ABORTED at the next block boundary; no effect without a job (R331). -/
def State.cryCancel (s : State) (c : Ctx) : State := s.cryStop (ctxNum c) 10

/-- The row of a mode and direction: the context sets MODE with the row's fields, then GO. -/
def State.cryRow (s : State) (c : Ctx) (mode : Word) (code : Word) : Host.Outcome State Fault Refusal :=
  .next (if s.canTrigger c ∧ s.granted c 0 then
    (s.setCry (ctxNum c) { s.cry (ctxNum c) with mode := (mode &&& 0xFFFFFFF0) ||| code }).cryGo c
  else s)

/-- The low four bits of MODE that a row sets: MODE, and DIR in bit 3; NMODE is the operand's bit 4. -/
def execCryCtrEncrypt (c : Ctx) (mode : Word) (s : State) : Host.Outcome State Fault Refusal := s.cryRow c mode 1
def execCryCtrDecrypt (c : Ctx) (mode : Word) (s : State) : Host.Outcome State Fault Refusal := s.cryRow c mode 9
def execCryGcmEncrypt (c : Ctx) (mode : Word) (s : State) : Host.Outcome State Fault Refusal := s.cryRow c mode 2
def execCryGcmDecrypt (c : Ctx) (mode : Word) (s : State) : Host.Outcome State Fault Refusal := s.cryRow c mode 10
def execCryXtsEncrypt (c : Ctx) (mode : Word) (s : State) : Host.Outcome State Fault Refusal := s.cryRow c mode 3
def execCryXtsDecrypt (c : Ctx) (mode : Word) (s : State) : Host.Outcome State Fault Refusal := s.cryRow c mode 11
def execCryCmacGenerate (c : Ctx) (mode : Word) (s : State) : Host.Outcome State Fault Refusal := s.cryRow c mode 4
def execCryCmacVerify (c : Ctx) (mode : Word) (s : State) : Host.Outcome State Fault Refusal := s.cryRow c mode 12
def execCryKwWrap (c : Ctx) (mode : Word) (s : State) : Host.Outcome State Fault Refusal := s.cryRow c mode 5
def execCryKwUnwrap (c : Ctx) (mode : Word) (s : State) : Host.Outcome State Fault Refusal := s.cryRow c mode 13
def execCryKwpWrap (c : Ctx) (mode : Word) (s : State) : Host.Outcome State Fault Refusal := s.cryRow c mode 6
def execCryKwpUnwrap (c : Ctx) (mode : Word) (s : State) : Host.Outcome State Fault Refusal := s.cryRow c mode 14

/-- CRY_CANCEL (R331). -/
def execCryCancel (c : Ctx) (s : State) : Host.Outcome State Fault Refusal :=
  .next (if s.canTrigger c ∧ s.granted c 0 then s.cryCancel c else s)

/-! ## Slots, bursts and completion (R328-R330, R339) -/

/-- The first page whose job waits for a staging slot. -/
def State.slotWaiter (s : State) : Option (Nat × PressJob) :=
  (s.press.pages.filterMap fun e => match e.2.job with
    | some j => if j.phase = .waitSlot then some (e.1, j) else none
    | none => none).head?

/-- PRESS_STAGING_SLOT_FREE: a free slot goes to a waiting job (R329). -/
def execPressStagingSlotFree (s : State) : Host.Outcome State Fault Refusal :=
  .next (match s.slotWaiter with
    | some (n, j) => if s.alive ∧ s.freeStage.isSome then s.cryStage n j else s
    | none => s)

/-- PRESS_BURST_LIMIT: 4,096 blocks into its burst a job makes room when another requester waits and no pipeline is free (R339).
[DESIGN CHOICE, log 38] -/
def execPressBurstLimit (c : Ctx) (s : State) : Host.Outcome State Fault Refusal :=
  let n := ctxNum c
  .next (if s.alive ∧ s.freePipe.isNone ∧ s.pressWaiting ≠ [] then (s.crySuspend n 4096).pressGo else s)

/-- The completion of a job: OLEN and RESULT, ACTIVE cleared, LINE when EVENT is 1 (R330). -/
def State.cryComplete (s : State) (n : Nat) (j : PressJob) (code : BitVec 5) (olen : Nat) : State :=
  let s1 := s.cryRelease n
  let s2 := s1.setCry n { s1.cry n with job := none, result := code, olen := w32 olen }
  let s3 := if mEvent j.mode then s2.raiseLine (ctxOf n) (mLine j.mode) else s2
  s3.pressGo

/-- A job that has run: its output released, or TAG_FAIL (R327, R328). [DEDUCED, log 112] -/
def State.cryFinish (s : State) (n : Nat) (j : PressJob) : State :=
  match cryOutput j with
  | .error e => s.cryComplete n j (BitVec.ofNat 5 e) 0
  | .ok (o, t) =>
    let s1 := (s.engineWrite (ctxOf n) j.dst.toNat o).engineWrite (ctxOf n) j.tag.toNat t
    s1.cryComplete n j 0 o.length

/-- PRESS_JOB_DONE (R330). -/
def execPressJobDone (c : Ctx) (s : State) : Host.Outcome State Fault Refusal :=
  let n := ctxNum c
  .next (match (s.cry n).job with
    | none => s
    | some j =>
      if s.alive then
        match j.phase with
        | .failed code => s.cryComplete n j code j.written
        | .running _ => s.cryFinish n j
        | _ => s
      else s)

/-- A pipeline fails once more: it is tested, or stays out after the third time (R346). -/
def State.pipeFault (s : State) (p : Nat) : State :=
  let x := s.pipeAt p
  s.setPipe p { use := .idle, faults := x.faults + 1, test := decide (x.faults + 1 < 3) }

/-- PRESS_PIPE_TEST_DONE (R346). -/
def execPressPipeTestDone (pipe : Fin 16) (pass : Bool) (s : State) : Host.Outcome State Fault Refusal :=
  .next (if s.alive ∧ (s.pipeAt pipe.val).test then
    if pass then (s.setPipe pipe.val { s.pipeAt pipe.val with test := false }).pressGo
    else (s.pipeFault pipe.val).pressGo
  else s)

end Sys2Proof.Machine
end

