-- ==== Sys2Proof/Machine/SpanBase.lean ====
section
/-! DEFINITION. The span as other families see it: its configuration record, who is ACTIVE, messages sent on span lanes, and the end of
a counter operation of a context (R197, R511-R519, R530, R535). -/

namespace Sys2Proof.Machine

open Sys2Proof

/-! ## The end of a counter operation (R196, R197, R216) -/

/-- A cask whose CTR stall ends: READY, or RUNNING if still resident and not frozen (R216, R217). -/
def wakeCtr (frozen : Bool) (k : Cask) : Cask :=
  if k.regs.wait.kind = .ctr then
    let k1 := { k with regs := { k.regs with wait := {} } }
    match k.state with
    | .waiting => { k1 with state := if k.slot.isSome && !k.leaving && !frozen then .running else .ready }
    | .halted => if k.before = .waiting then { k1 with before := .ready } else k1
    | _ => k1
  else k

/-- A context's counter operation completes with a status, and with a value where there is one; a move stalled on it may issue. -/
def State.ctrFinish (s : State) (c : Ctx) (st : BitVec 3) (value : Option Nat) : State :=
  let s1 := s.modRegs c fun r =>
    let v := value.map (BitVec.ofNat 64)
    { r with ctr := { r.ctr with op := none, st := st, lo := (v.map loW).getD r.ctr.lo, hi := (v.map hiW).getD r.ctr.hi } }
  match c with
  | .keystone => s1.modRegs .keystone fun r => if r.wait.kind = .ctr then { r with wait := {} } else r
  | .cask n => s1.modCask n.toNat (wakeCtr s1.frozen)

/-! ## The configuration record (R511) -/

/-- `n` bytes of the record from `off`. -/
def State.spanCfg (s : State) (off n : Nat) : Bytes := (List.range n).map fun i => tget s.span.config (off + i) 0
def State.spanM (s : State) : Nat := leNat (s.spanCfg 0x08 1)
def State.spanMinLevel (s : State) : Nat := leNat (s.spanCfg 0x09 1)
def State.spanPeriod (s : State) : Nat := leNat (s.spanCfg 0x0C 4)
/-- Device ID of member `m`. -/
def State.spanDevice (s : State) (m : Nat) : Nat := leNat (s.spanCfg (0x20 + 8 * m) 8)
/-- The listed slots. -/
def State.keyset (s : State) : List Nat :=
  ((List.range 256).map fun i => leNat (s.spanCfg (0x220 + 2 * i) 2)).filter (· ≠ 0)
/-- FIRST and COUNT of a cask's range of span counters. -/
def State.spanRange (s : State) (n : Nat) : Nat × Nat :=
  let w := leNat (s.spanCfg (0x420 + 4 * n) 4)
  (w % 512, w / 512 % 512)

/-- The quorum (R513). -/
def State.spanQ (s : State) : Nat := s.spanM / 2 + 1

/-! ## Members (R513, R517, R519) -/

def State.peer (s : State) (m : Nat) : Peer := tget s.span.peers m {}
def State.setPeer (s : State) (m : Nat) (p : Peer) : State := { s with span := { s.span with peers := tset s.span.peers m p } }
def State.modPeer (s : State) (m : Nat) (f : Peer → Peer) : State := s.setPeer m (f (s.peer m))
/-- This device's member ID. -/
def State.ownId (s : State) : Nat := s.span.member.toNat

/-- The ACTIVE members this one can reach, itself included. -/
def State.spanActive (s : State) : List Nat :=
  (List.range 64).filter fun m =>
    if m = s.ownId then s.span.state == .active else (s.peer m).state == .active

/-- At least Q members are ACTIVE (R539 QUORUM). -/
def State.spanQuorum (s : State) : Bool := s.span.state == .active && decide (s.spanQ ≤ s.spanActive.length)

/-- The record of span counter `i`, 4096 + i; SEPOCH is span counter 0, and its value is the EPOCH. -/
def spanCtr (i : Nat) : Nat := 4096 + i
def State.epochNow (s : State) : Word := w32 (s.ctrNat (spanCtr 0))

/-! ## Messages (R514, R515) -/

/-- The span root key; none when its handle no longer names one. -/
def State.spanRootKey (s : State) : Option Bytes := (s.keyOf .keystone s.span.root).map (·.key)
/-- K_msg (R514). -/
def State.spanMsgKey (s : State) : Option Bytes := s.spanRootKey.map fun k => kdf k "SMSG" (s.spanCfg 0 8 ++ zeros 8)

/-- A message's bytes without its MAC. -/
def spanHead (mtype : Byte) (m : SpanMsg) : Bytes :=
  [mtype, m.src, m.dst, m.ttl] ++ leBytes 4 m.epoch.toNat ++ leBytes 4 m.mseq.toNat ++ m.body
/-- The first 8 bytes of the CMAC. -/
def spanMac (key head : Bytes) : Bytes := (cmac key head).take 8

/-- Span lanes with an authenticated link (R515, R516). -/
def State.spanLanes (s : State) : List Nat := (s.span.links.filter fun e => e.2.hello && e.2.ack).map (·.1)

/-- A message as one SPAN packet on each of some lanes; without a root key none can be made. -/
def State.spanPut (s : State) (lanes : List Nat) (mtype : Byte) (m : SpanMsg) : State :=
  match s.spanMsgKey with
  | none => s
  | some k =>
    let h := spanHead mtype m
    lanes.foldl (fun t l => t.enqueue l 0 { typ := .span, body := h ++ spanMac k h }) s

/-- A new message of this member on some lanes: the next MSEQ, TTL 63 (R514). -/
def State.spanEmit (s : State) (lanes : List Nat) (mtype : Byte) (dst : Nat) (body : Bytes) : State :=
  let q := s.span.mseq + 1
  ({ s with span := { s.span with mseq := q } } : State).spanPut lanes mtype
    { src := byte s.ownId, dst := byte dst, ttl := 63, epoch := s.epochNow, mseq := q, body := body }

/-- A broadcast on every authenticated span lane. -/
def State.spanCast (s : State) (mtype : Byte) (body : Bytes) : State := s.spanEmit s.spanLanes mtype 0xFF body

/-- The lane towards a member: where the first copy of its latest broadcast arrived, else its own link (R515). -/
def State.laneTowards (s : State) (m : Nat) : Option Nat :=
  match s.span.via.find? fun e => e.1 == m with
  | some e => some e.2
  | none => (s.span.links.find? fun e => e.2.hello && e.2.ack && e.2.peer == m).map (·.1)

/-- A message to one other member. -/
def State.spanSend (s : State) (m : Nat) (mtype : Byte) (body : Bytes) : State :=
  match s.laneTowards m with
  | none => s
  | some l => s.spanEmit [l] mtype m body

/-- SPAN_EVT bits, with keystone line 11 (R539). -/
def State.spanEvent (s : State) (bits : BitVec 6) : State :=
  ({ s with span := { s.span with evt := s.span.evt ||| bits } } : State).ksLine lineSpan
def evtState : BitVec 6 := 0x01
def evtEpoch : BitVec 6 := 0x02
def evtLockLost : BitVec 6 := 0x04
def evtPeer : BitVec 6 := 0x08
def evtDiverged : BitVec 6 := 0x10
def evtCfg : BitVec 6 := 0x20

end Sys2Proof.Machine
end

