-- ==== Sys2Proof/Machine/Vault.lean ====
section
/-! DEFINITION. The vault services and quotas, and the random number generator (R275-R291). -/

namespace Sys2Proof.Machine

open Sys2Proof

/-! ## Slots (R278, R282, R288) -/

/-- Slots that context `n` holds (R313). -/
def State.slotsUsed (s : State) (n : Nat) : Nat := (s.vault.slots.filter fun e => e.2.owner.toNat == n).length

/-- Free slots: slots 0-63 belong to the device (R278, R313). [DEDUCED, log 105] -/
def State.slotsFree (s : State) : Nat := 8128 - s.vault.slots.length

/-- The slot that a new key takes of the free ones that the span key set does not list, of which the spec names none (R278, ch. 16): a
free choice. [DEDUCED, log 105] -/
def State.freeSlot (s : State) : Option Nat :=
  choose (Config.freeNat s.draw) ((List.range' 64 8128).filter fun i =>
    !(s.vault.slots.any fun e => e.1 == i) && !s.keyset.contains i)

/-- Why context `c` may not fill one more slot: QUOTA for a cask, FULL for the slots or the 256 VOLATILE keys (R282, R288). -/
def State.slotRefusal (s : State) (c : Ctx) (volatile : Bool) : Option Nat :=
  let quotaMet := match c with
    | .keystone => false
    | .cask n => decide ((s.cask n.toNat).quota ≤ s.slotsUsed n.toNat)
  if quotaMet then some 5
  else if s.freeSlot.isNone || (volatile && decide (256 ≤ (s.vault.slots.filter fun e => e.2.volatile).length)) then some 6
  else none

/-- A slot filled for `c`: a free one, with a fresh INCARN (R278). The handle and the state; 0 when no slot is free.
[DEDUCED, log 105] -/
def State.fillSlot (s : State) (c : Ctx) (typ : Byte) (policy : Byte) (key : Bytes) : Word × State :=
  match s.freeSlot with
  | none => (0, s)
  | some i =>
    let d := s.drbg 2
    let inc := leNat d.1 % 65535 + 1
    let x : VSlot := { owner := BitVec.ofNat 11 (ctxNum c), typ := bv typ 0 7, volatile := bit typ 7, policy := policy,
                       incarn := BitVec.ofNat 16 inc, key := key }
    (w32 (i + inc * 2 ^ 16), { d.2 with vault := { d.2.vault with slots := tset d.2.vault.slots i x } })

/-! ## Operations (R286-R289): RESULT, STATUS and the state -/

/-- What a service answers. -/
structure SvcRes where
  result : Option Word := none
  status : Nat := 0
  after  : State

/-- A refusal changes nothing; the spec states no RESULT for it. [DESIGN CHOICE, log 34] -/
def State.svcFail (s : State) (code : Nat) : SvcRes := { status := code, after := s }

/-- A new key of the block's TYPE and POLICY, once every check has passed. -/
def State.svcFill (s : State) (c : Ctx) (r : Req) (key : Bytes) : SvcRes :=
  let f := s.fillSlot c r.typ r.policy key
  { result := some f.1, after := f.2 }

/-- GENERATE (R286, R291). [DESIGN CHOICE, log 34] -/
def State.vaultGen (s : State) (c : Ctx) (r : Req) : SvcRes :=
  match materialLen (fld r.typ 0 7) with
  | none => s.svcFail 4
  | some n =>
    if !s.typeGranted c (fld r.typ 0 7) then s.svcFail 11
    else match s.slotRefusal c (bit r.typ 7) with
      | some e => s.svcFail e
      | none =>
        if s.vault.rngFail then s.svcFail 8
        else
          let d := s.drbg n
          d.2.svcFill c r d.1

/-- The wrapping key of IMPORT and EXPORT, or the code that refuses it (R280, R281, R286). [DEDUCED, log 107] -/
def State.wrapKey (s : State) (c : Ctx) (h : Word) : Except Nat VSlot :=
  match s.keyOf c h with
  | none => .error 1
  | some k =>
    if !isAes k.typ.toNat then .error 4
    else if !polOk k.policy polWrap then .error 3
    else .ok k

/-- IMPORT: a KW blob is unwrapped into a new slot (R286). [DEDUCED, log 107; DESIGN CHOICE, log 34] -/
def State.vaultImport (s : State) (c : Ctx) (r : Req) : SvcRes :=
  match s.wrapKey c r.arg0, materialLen (fld r.typ 0 7) with
  | .error e, _ => s.svcFail e
  | _, none => s.svcFail 4
  | .ok k, some n =>
    if !s.typeGranted c (fld r.typ 0 7) then s.svcFail 11
    else if !s.engineRange c r.arg1.toNat r.arg2.toNat false then s.svcFail 12
    else match s.slotRefusal c (bit r.typ 7) with
      | some e => s.svcFail e
      | none =>
        if s.vault.rngFail then s.svcFail 8
        else if r.arg2.toNat ≠ n + 8 then s.svcFail 9
        else match kwUnwrap k.key (s.rdBytes r.arg1.toNat (n + 8)) with
          | none => s.svcFail 9
          | some m => s.svcFill c r m

/-- EXPORT: an exportable key is wrapped to memory (R286). [DESIGN CHOICE, log 34] -/
def State.vaultExport (s : State) (c : Ctx) (r : Req) : SvcRes :=
  match s.wrapKey c r.arg0, s.keyOf c r.arg2 with
  | .error e, _ => s.svcFail e
  | _, none => s.svcFail 1
  | .ok k, some x =>
    if !s.typeGranted c x.typ.toNat then s.svcFail 11
    else if !polOk x.policy polExport then s.svcFail 3
    else if !s.engineRange c r.arg1.toNat (x.key.length + 8) true then s.svcFail 12
    else { result := some <| w32 (x.key.length + 8), after := s.engineWrite c r.arg1.toNat (kwWrap k.key x.key) }

/-- DERIVE: a child key under a subset of the parent's policy (R275, R286, R287). [DEDUCED, log 107; DESIGN CHOICE, log 34] -/
def State.vaultDerive (s : State) (c : Ctx) (r : Req) : SvcRes :=
  match s.keyOf c r.arg0, materialLen (fld r.typ 0 7) with
  | none, _ => s.svcFail 1
  | _, none => s.svcFail 4
  | some k, some n =>
    if k.typ.toNat ≠ 0x02 ∨ 32 < n then s.svcFail 4
    else if !s.typeGranted c (fld r.typ 0 7) then s.svcFail 11
    else if !polOk k.policy polDerive || (r.policy &&& ~~~ k.policy) != 0 then s.svcFail 3
    else if !s.engineRange c r.arg1.toNat 16 false then s.svcFail 12
    else match s.slotRefusal c (bit r.typ 7) with
      | some e => s.svcFail e
      | none =>
        if s.vault.rngFail then s.svcFail 8
        else s.svcFill c r ((kdf k.key "DRIV" (s.rdBytes r.arg1.toNat 16)).take n)

/-- A slot zeroized and freed, with the press jobs that use its key (R289, R343). -/
def State.dropKey (s : State) (slot owner : Nat) : State :=
  ({ s with vault := { s.vault with slots := tdel s.vault.slots slot } } : State).pressKeyGone owner slot

/-- DESTROY frees the slot; of a span key an ACTIVE member tells every other one (R289, R535). [DEDUCED, log 158] -/
def State.freeKey (s : State) (h : Word) (owner : Nat) : State :=
  let slot := fld h 0 13
  let s1 := s.dropKey slot owner
  if s.span.state = .active ∧ s.keyset.contains slot then s1.spanCast 0x41 (leBytes 2 slot ++ [0, 0]) else s1

/-- DESTROY (R289). -/
def State.vaultDestroy (s : State) (c : Ctx) (r : Req) : SvcRes :=
  match s.slotOf c r.arg0 with
  | none => s.svcFail 1
  | some _ => { result := some 0, after := s.freeKey r.arg0 (ctxNum c) }

/-- INFO (R286). -/
def State.vaultInfo (s : State) (c : Ctx) (r : Req) : SvcRes :=
  match s.slotOf c r.arg0 with
  | none => s.svcFail 1
  | some e => { result := some <| w32 (e.2.typ.toNat + flag e.2.volatile 7 + e.2.policy.toNat * 2 ^ 8), after := s }

/-- The service an OP names; NO_ROOT without a root (R277, R286); an OP that the table does not list is BAD_TYPE.
[DESIGN CHOICE, log 34] -/
def State.vaultServe (s : State) (c : Ctx) (op : Nat) (r : Req) : SvcRes :=
  if !s.vault.rootOk then s.svcFail 7
  else match op with
    | 1 => s.vaultGen c r
    | 2 => s.vaultImport c r
    | 3 => s.vaultExport c r
    | 4 => s.vaultDerive c r
    | 5 => s.vaultDestroy c r
    | 6 => s.vaultInfo c r
    | _ => s.svcFail 4

/-! ## Submission and completion (R283, R284) -/

/-- A request of context `c` waits in the queue. -/
def pendingReq (q : List Request) (c : Ctx) : Bool := q.any fun r => r.ctx == c

/-- GO of the vault block: DONE cleared, the request taken; ignored while one is pending (R284). -/
def State.vaultGo (s : State) (c : Ctx) : State :=
  if pendingReq s.vault.queue c then s
  else
    let b := s.readBlock c blkVault
    let s1 := s.clearDone c blkVault
    { s1 with vault := { s1.vault with
        queue := s1.vault.queue ++ [{ svc := .vault, ctx := c, op := byte b.1, req := b.2 }] } }

/-- A vault row: the owner writes the block and GO. -/
def State.vaultRow (s : State) (c : Ctx) (op : Nat) (r : Req) : Host.Outcome State Fault Refusal :=
  .next (if s.canTrigger c then (s.loadBlock c blkVault op r).vaultGo c else s)

/-- VAULT_GENERATE (R286). -/
def execVaultGenerate (c : Ctx) (r : Req) (s : State) : Host.Outcome State Fault Refusal := s.vaultRow c 1 r
/-- VAULT_IMPORT (R286). -/
def execVaultImport (c : Ctx) (r : Req) (s : State) : Host.Outcome State Fault Refusal := s.vaultRow c 2 r
/-- VAULT_EXPORT (R286). -/
def execVaultExport (c : Ctx) (r : Req) (s : State) : Host.Outcome State Fault Refusal := s.vaultRow c 3 r
/-- VAULT_DERIVE (R287). -/
def execVaultDerive (c : Ctx) (r : Req) (s : State) : Host.Outcome State Fault Refusal := s.vaultRow c 4 r
/-- VAULT_DESTROY (R289). -/
def execVaultDestroy (c : Ctx) (r : Req) (s : State) : Host.Outcome State Fault Refusal := s.vaultRow c 5 r
/-- VAULT_INFO (R286). -/
def execVaultInfo (c : Ctx) (r : Req) (s : State) : Host.Outcome State Fault Refusal := s.vaultRow c 6 r

/-- VAULT_REQUEST_DONE: the oldest request is served and completes (R284). -/
def execVaultRequestDone (s : State) : Host.Outcome State Fault Refusal :=
  .next (match s.vault.queue with
    | [] => s
    | q :: qs =>
      if s.alive then
        let x := ({ s with vault := { s.vault with queue := qs } } : State).vaultServe q.ctx q.op.toNat q.req
        x.after.completeBlock q.ctx blkVault x.result x.status q.req.line.toNat
      else s)

/-! ## Random numbers (R290, R291) -/

/-- RNG_HEALTH_FAIL: output stops, the buffers are dropped, keystone line 7 (R201, R291). [DEDUCED, log 108] -/
def execRngHealthFail (s : State) : Host.Outcome State Fault Refusal :=
  .next (if s.alive ∧ ¬ s.vault.rngFail then
    ({ s with vault := { s.vault with rngFail := true }
              rng := { s.rng with instantiated := false, retests := 0, stopped := false, buffers := [] } } : State).ksLine lineNvm
  else s)

/-- RNG_RETEST_TIMER: the start-up tests are repeated 1 ms later, up to 3 times (R291). [DEDUCED, log 108] -/
def execRngRetestTimer (pass : Bool) (s : State) : Host.Outcome State Fault Refusal :=
  .next (if s.alive ∧ s.vault.rngFail ∧ ¬ s.rng.stopped then
    if pass then
      { s with vault := { s.vault with rngFail := false }
               rng := { s.rng with instantiated := true, requests := 0, retests := 0 } }
    else { s with rng := { s.rng with retests := s.rng.retests + 1, stopped := decide (3 ≤ s.rng.retests + 1) } }
  else s)

/-- VAULT_CTRL.RETEST: the start-up tests run again, also after the third failure (R291, R313). [DEDUCED, log 108] -/
def State.vaultRetest (s : State) : State := { s with rng := { s.rng with retests := 0, stopped := false } }
/-- VAULT_RETEST (R291). -/
def execVaultRetest (s : State) : Host.Outcome State Fault Refusal :=
  .next (if s.ksWriter then s.vaultRetest else s)

/-- DRBG_RESEED: after 65,536 generate requests or 1 s the DRBG is reseeded (ch. 09, before R290). -/
def execDrbgReseed (s : State) : Host.Outcome State Fault Refusal :=
  .next (if s.rng.instantiated then { s with rng := { s.rng with requests := 0 } } else s)

end Sys2Proof.Machine
end

