-- ==== Sys2Proof/Machine/Nvm.lean ====
section
/-! DEFINITION. The page service and its journal, the NVM commands: allocation of sectors and counters, COMPLETE, raw reads,
counter generations (R292-R301, R309-R313). -/

namespace Sys2Proof.Machine

open Sys2Proof

/-! ## Page writes (R294-R296) -/

/-- The owner of a sector: 0x7FF when free (R312). -/
def State.sectOwner (s : State) (j : Nat) : Nat := (tget s.nvm.sectOwn j 0x7FF).toNat

/-- The code of the first check of R295 that fails, 0 when all pass. [DESIGN CHOICE, log 36] -/
def State.pageCheck (s : State) (q : Request) : Nat :=
  let a := q.req.arg0.toNat
  let src := q.req.arg1.toNat
  let readable := match q.ctx with
    | .keystone => s.openSram src 2048
    | .cask n => caskRange (s.cask n.toNat) n.toNat src 2048 false
  let own := s.sectOwner (sectorOf a)
  let mine := match q.ctx with
    | .keystone => own == 0x400 || own == 0x7FF
    | .cask n => own == n.toNat
  if q.op ≠ 1 then 6
  else if !s.granted q.ctx 12 then 8
  else if !(a % 2048 == 0 && inRange a 2048 flashBase (flashEnd - flashBase) && readable) then 3
  else if !mine then 2
  else if s.nvm.eraseQueue.contains (sectorOf a) then 7
  else if 32 ≤ (s.nvm.journal.filter (·.deferred)).length then 7
  else 0

/-- A page request completes with a code (R284, R295). -/
def State.pageDone (s : State) (q : Request) (code : Nat) : State := s.completeBlock q.ctx blkNvm none code q.req.line.toNat

/-- The page writes at the heads of the requesters' queues, each of 258 program units (R264, R296). -/
def nvmHeads (q : List Request) : List (Nat × Nat) := q.map fun r => (ctxNum r.ctx, 258)

/-- The service takes the next request that the shares of R264 choose, 16 program units per unit of weight; one that fails a check
completes with its code and leaves the service free (R295, R296). [DEDUCED, log 109] -/
def State.pageServe : Nat → State → State
  | 0, s => s
  | k + 1, s =>
    let d := s.drawNat
    match d.2.drrPick d.1 s.nvm.deficit 16 (nvmHeads s.nvm.queue) with
    | none => s
    | some (n, df) =>
      match s.nvm.queue.find? fun r => ctxNum r.ctx == n with
      | none => s
      | some q =>
        let qs := s.nvm.queue.filter fun r => ctxNum r.ctx != n
        let s1 : State := { d.2 with nvm := { s.nvm with queue := qs, deficit := tdel df n } }
        let code := s1.pageCheck q
        if code = 0 then
          { s1 with nvm := { s1.nvm with
              active := some { req := q, page := q.req.arg0.toNat, data := s1.rdBytes q.req.arg1.toNat 2048 } } }
        else State.pageServe k (s1.pageDone q code)

/-- The service goes on with its queue when it is idle. -/
def State.pageNext (s : State) : State := if s.nvm.active.isNone then State.pageServe s.nvm.queue.length s else s

/-- GO of the NVM block; ignored while a request of the block is pending (R284). -/
def State.nvmGo (s : State) (c : Ctx) : State :=
  let busy := pendingReq s.nvm.queue c || (match s.nvm.active with
    | some j => j.req.ctx == c
    | none => false)
  if busy then s
  else
    let b := s.readBlock c blkNvm
    let s1 := s.clearDone c blkNvm
    ({ s1 with nvm := { s1.nvm with
        queue := s1.nvm.queue ++ [{ svc := .nvm, ctx := c, op := byte b.1, req := b.2 }] } } : State).pageNext

/-- PAGE_WRITE (R295). -/
def execPageWrite (c : Ctx) (r : Req) (s : State) : Host.Outcome State Fault Refusal :=
  .next (if s.canTrigger c then ((s.loadBlock c blkNvm 1 r).nvmGo c).ungate 198 8 else s)

/-- A write stopped by NVM_ABORT_AT after UNITS units leaves its entry deferred (R301). [DEDUCED, log 109] -/
def State.pageAbort (s : State) (j : NvmJob) : State :=
  let e : JEntry := { page := j.page, data := j.data, units := s.nvm.abortUnits.toNat, deferred := true }
  { s with nvm := { s.nvm with
      journal := s.nvm.journal.filter (fun x => x.page ≠ j.page) ++ [e], deferred := true, abortArm := false } }

/-- PAGE_WRITE_DONE: the page holds the new data and the request completes; one that fails to verify is NVM_FAULT and leaves
the page open (R295, R296). [DEDUCED, log 109] -/
def execPageWriteDone (ok : Bool) (s : State) : Host.Outcome State Fault Refusal :=
  .next (match s.nvm.active with
    | none => s
    | some j =>
      if s.alive then
        let s0 := { s with nvm := { s.nvm with active := none } }
        let s1 :=
          if ok then
            let s2 := s0.wrBytes j.page j.data
            (if s2.nvm.abortArm ∧ s2.life.state = .testOpen then s2.pageAbort j
             else { s2 with nvm := { s2.nvm with journal := s2.nvm.journal.filter fun x => x.page ≠ j.page } }).pageDone j.req 0
          else
            let d := s0.drawBytes 2048
            (d.2.wrBytes j.page d.1).pageDone j.req 5
        s1.pageNext
      else s)

/-- BACKGROUND_ERASE_DONE: the sectors of an interrupted WIPE are erased; keystone line 7 (R297). -/
def execBackgroundEraseDone (s : State) : Host.Outcome State Fault Refusal :=
  .next (if s.alive ∧ ¬ s.pwr.booting ∧ s.nvm.eraseQueue ≠ [] then
    let s1 := s.nvm.eraseQueue.foldl (fun t j => t.clear (sectorAddr j) 0x4000) s
    ({ s1 with nvm := { s1.nvm with eraseQueue := [] } } : State).ksLine lineNvm
  else s)

/-! ## NVM_CMD (R298, R301, R311-R313) -/

/-- NVM_STATUS.RESULT. -/
def State.nvmResult (s : State) (code : Nat) : State := { s with nvm := { s.nvm with result := BitVec.ofNat 4 code } }

/-- A cask number that names a cask which is not DISABLED. -/
def State.liveOwner (s : State) (o : Nat) : Bool := decide (o < 1024) && (s.cask o).state != .disabled

/-- ALLOC_SECT: the code that refuses it, 0 when accepted (R312). [DEDUCED, log 110] -/
def State.allocSectCode (s : State) (sect owner : Nat) : Nat :=
  if 960 ≤ sect ∨ ¬ (owner ≤ 0x400 ∨ owner = 0x7FF) then 3
  else if s.liveOwner (s.sectOwner sect) || s.liveOwner owner then 1
  else 0

/-- Two counter ranges meet. -/
def rangesMeet (f c g d : Nat) : Bool := decide (f < g + d) && decide (g < f + c)

/-- ALLOC_CTR: the code that refuses it, 0 when accepted (R311). [DEDUCED, log 110] -/
def State.allocCtrCode (s : State) (n : Nat) (arg1 : Word) : Nat :=
  let f := fld arg1 0 12
  let c := fld arg1 12 12
  if 1024 ≤ n ∨ (0 < c ∧ (f < 256 ∨ 4096 < f + c)) then 3
  else if (s.cask n).state ≠ .disabled then 1
  else if s.nvm.ctrMap.any fun e => e.1 != n && rangesMeet f c (fld e.2 0 12) (fld e.2 12 12) then 4
  else 0

/-- RAW_READ: the code that refuses it (R301). [DEDUCED, log 110] -/
def State.rawReadCode (s : State) (a : Nat) : Nat :=
  if s.life.state ≠ .testOpen ∧ s.life.state ≠ .analysis then 6
  else if a % 2048 = 0 ∧ inRange a 2048 flashBase (flashEnd - flashBase) then 0
  else 3

/-- CTR_GEN: the code that refuses it (R313). [DEDUCED, log 110] -/
def State.ctrGenCode (s : State) (c : Nat) : Nat :=
  if 4608 ≤ c then 3 else if (ctrBase (s.ctr c)).isNone then 5 else 0

/-- The code with which NVM_CMD is refused, 0 when it is accepted. -/
def State.nvmCode (s : State) (cmd : Nat) : Nat :=
  match cmd with
  | 1 => s.allocSectCode s.nvm.arg0.toNat s.nvm.arg1.toNat
  | 2 => s.allocCtrCode s.nvm.arg0.toNat s.nvm.arg1
  | 3 => 0
  | 4 => s.rawReadCode s.nvm.arg0.toNat
  | 5 => s.ctrGenCode s.nvm.arg0.toNat
  | _ => 6

/-- A write of NVM_CMD: refused with BUSY while a command runs; code 0 does nothing (R313). [DEDUCED, log 110] -/
def State.nvmCommand (s0 : State) (cmd : BitVec 4) : State :=
  let s := { s0 with nvm := { s0.nvm with cmd := cmd } }
  if cmd = 0 then s
  else if s.nvm.busy then s.nvmResult 7
  else
    let code := s.nvmCode cmd.toNat
    if code = 0 then
      ({ s with nvm := { s.nvm with busy := true, running := some (cmd, s.nvm.arg0, s.nvm.arg1) } } : State).ungate 198 8
    else s.nvmResult code

/-- The arguments are written, then the command. -/
def State.nvmRow (s : State) (cmd : BitVec 4) (arg0 arg1 : Word) : Host.Outcome State Fault Refusal :=
  .next (if s.ksWriter then
    ({ s with nvm := { s.nvm with arg0 := arg0, arg1 := arg1 } } : State).nvmCommand cmd
  else s)

/-- NVM_ALLOC_SECT (R312). -/
def execNvmAllocSect (arg0 arg1 : Word) (s : State) : Host.Outcome State Fault Refusal := s.nvmRow 1 arg0 arg1
/-- NVM_ALLOC_CTR (R311). -/
def execNvmAllocCtr (arg0 arg1 : Word) (s : State) : Host.Outcome State Fault Refusal := s.nvmRow 2 arg0 arg1
/-- NVM_COMPLETE (R298). -/
def execNvmComplete (s : State) : Host.Outcome State Fault Refusal := s.nvmRow 3 s.nvm.arg0 s.nvm.arg1
/-- NVM_RAW_READ (R301). -/
def execNvmRawRead (arg0 : Word) (s : State) : Host.Outcome State Fault Refusal := s.nvmRow 4 arg0 s.nvm.arg1
/-- NVM_CTR_GEN (R313). -/
def execNvmCtrGen (arg0 : Word) (s : State) : Host.Outcome State Fault Refusal := s.nvmRow 5 arg0 s.nvm.arg1

/-- A sector takes an owner, erased first when the owner changes (R312). -/
def State.allocSect (s : State) (sect owner : Nat) : State :=
  if s.sectOwner sect = owner then s
  else
    let s1 := s.clear (sectorAddr sect) 0x4000
    { s1 with nvm := { s1.nvm with
        sectOwn := tset s1.nvm.sectOwn sect (BitVec.ofNat 11 owner)
        journal := s1.nvm.journal.filter fun e => sectorOf e.page ≠ sect } }

/-- Unit `i` of a raw read of page `a`: status and bytes (R300). [DEDUCED, log 110] -/
def State.rawUnit (s : State) (a : Nat) (free : Bytes) (i : Nat) : BitVec 2 × Bytes :=
  let ff : Bytes := List.replicate 16 0xFF
  match s.nvm.journal.find? fun e => e.deferred && e.page == a with
  | some e =>
    if i < e.units then (0, slice e.data (16 * i) 16)
    else if i = e.units ∧ e.mid then (2, slice free (16 * i) 16)
    else (1, ff)
  | none =>
    let d := s.rdBytes (a + 16 * i) 16
    (if d = ff then 1 else 0, d)

/-- A raw read into NVM_RAW_DATA and NVM_RAW_STAT (R301). -/
def State.rawRead (s : State) (a : Nat) : State :=
  let d := s.drawBytes 2048
  let us := (List.range 128).map (s.rawUnit a d.1)
  { d.2 with nvm := { d.2.nvm with rawStat := us.map (·.1), rawData := us.flatMap (·.2) } }

/-- The effect of an accepted command (R298, R301, R311-R313). -/
def State.nvmEffect (s : State) (cmd : Nat) (arg0 arg1 : Word) : State :=
  match cmd with
  | 1 => s.allocSect arg0.toNat arg1.toNat
  | 2 => { s with nvm := { s.nvm with ctrMap := tset s.nvm.ctrMap arg0.toNat (bv arg1 0 24) } }
  | 3 => { s with nvm := { s.nvm with journal := [], deferred := false } }
  | 4 => s.rawRead arg0.toNat
  | 5 => { s with nvm := { s.nvm with ctrGen := ((ctrBase (s.ctr arg0.toNat)).map (·.gen)).getD 0 } }
  | _ => s

/-- NVM_CMD_DONE: the running command ends with OK (R313). -/
def execNvmCmdDone (s : State) : Host.Outcome State Fault Refusal :=
  .next (match s.nvm.running with
    | none => s
    | some (cmd, a0, a1) =>
      if s.alive then
        (({ s with nvm := { s.nvm with busy := false, running := none } } : State).nvmEffect cmd.toNat a0 a1).nvmResult 0
      else s)

end Sys2Proof.Machine
end

