-- ==== Sys2Proof/Machine/LatBase.lean ====
section
/-! DEFINITION. Pages, objects, granules and lanes of the lattice engine (R350-R353, R371, R379, R384, R388). -/

namespace Sys2Proof.Machine

open Sys2Proof

/-! ## Pages and objects -/

def State.latPage (s : State) (n : Nat) : LatPage := tget s.lat.pages n {}
def State.setLat (s : State) (n : Nat) (p : LatPage) : State :=
  { s with lat := { s.lat with pages := tset s.lat.pages n p } }
def State.setLatJob (s : State) (n : Nat) (j : LatJob) : State := s.setLat n { s.latPage n with job := some j }

/-- The object a handle names for page `n`, with its table entry (R351). -/
def State.objOf (s : State) (n : Nat) (h : Word) : Option (Nat × LObj) :=
  match s.lat.objs.find? fun e => e.1 == fld h 0 12 with
  | none => none
  | some e => if fld h 12 4 = 0 ∧ e.2.owner = n ∧ e.2.incarn = bv h 16 16 then some e else none

/-- The address of a granule (R350, R586). -/
def granAddr (g : Nat) : Nat := vatBase + 0x1000 * g

/-- The body of an object, from its granules (R350). -/
def State.objBody (s : State) (o : LObj) : Bytes := (o.grans.flatMap fun g => s.rdBytes (granAddr g) 0x1000).take o.bodyLen

/-- Granules of `len` bytes (R350). -/
def granules (len : Nat) : Nat := (len + 0xFFF) / 0x1000

/-- Granules reserved by the running jobs of a page. -/
def jobNeed (p : LatPage) : Nat := match p.job with
  | some j => j.need
  | none => 0

/-- Granules held by page `n`, a running job's included (R379 USED). -/
def State.vatUsed (s : State) (n : Nat) : Nat :=
  ((s.lat.objs.filter fun e => e.2.owner = n).map fun e => e.2.grans.length).sum + jobNeed (s.latPage n)

/-- Free granules (R379 FREE). -/
def State.vatFree (s : State) : Nat :=
  2048 - (s.lat.objs.map fun e => e.2.grans.length).sum - (s.lat.pages.map fun e => jobNeed e.2).sum

/-- LAT_QUOTA of a page: a value above 2,048 acts as 2,048 (R379). -/
def State.latQuota (s : State) (n : Nat) : Nat := min 2048 (tget s.lat.quota n 0)

/-- Room for `g` granules: free, and within the page's quota (R350, R373 check 8). -/
def State.vatRoom (s : State) (n g : Nat) : Bool :=
  g == 0 || (decide (g ≤ s.vatFree) && decide (s.vatUsed n + g ≤ s.latQuota n))

/-- The lowest free granules. [DEDUCED, log 120] -/
def State.takeGrans (s : State) (g : Nat) : List Nat :=
  let held := s.lat.objs.flatMap fun e => e.2.grans
  ((List.range 2048).filter fun i => !held.contains i).take g

/-- The table entry that a new object takes of the free ones, of which the spec names none (R350): a free choice.
[DEDUCED, log 120] -/
def State.freeEntry (s : State) : Option Nat :=
  choose (Config.freeNat s.draw) ((List.range 4096).filter fun i => !(s.lat.objs.any fun e => e.1 == i))

/-- An object's granules are zeroized and freed with its entry (R362 FREE, R374). -/
def State.freeObj (s : State) (e : Nat) : State :=
  match s.lat.objs.find? fun x => x.1 == e with
  | none => s
  | some x =>
    let s1 := x.2.grans.foldl (fun t g => t.clear (granAddr g) 0x1000) s
    { s1 with lat := { s1.lat with objs := tdel s1.lat.objs e } }

/-- A body is stored in free granules: the granules and the state. -/
def State.storeBody (s : State) (body : Bytes) : List Nat × State :=
  let gs := s.takeGrans (granules body.length)
  (gs, (gs.zip (chunks 0x1000 body)).foldl (fun t e => t.wrBytes (granAddr e.1) e.2) s)

/-! ## Lanes (R350, R384, R388) -/

def State.laneRec (s : State) (l : Nat) : LatLane := tget s.lat.lanes l {}
def State.setLaneRec (s : State) (l : Nat) (x : LatLane) : State :=
  { s with lat := { s.lat with lanes := tset s.lat.lanes l x } }

/-- A lane is in service: no test runs, fewer than 3 faults (R388). -/
def State.laneIn (s : State) (l : Nat) : Bool := !(s.laneRec l).test && decide ((s.laneRec l).faults < 3)
/-- A lane is clocked and in service (R379). -/
def State.laneServes (s : State) (l : Nat) : Bool := s.laneIn l && !s.clk.off.contains (32 + l)
/-- No lane is in service (R388). [DEDUCED, log 113] -/
def State.lanesOut (s : State) : Bool := (List.range 8).all fun l => !s.laneIn l
/-- No lane is in service until the next reset (R388). [DEDUCED, log 113] -/
def State.lanesDead (s : State) : Bool := (List.range 8).all fun l => decide (3 ≤ (s.laneRec l).faults)

/-- The page whose job runs on a lane. -/
def State.laneJob (s : State) (l : Nat) : Option (Nat × LatJob) :=
  (s.lat.pages.filterMap fun e => match e.2.job with
    | some j => match j.lane with
      | some x => if x.val = l then some (e.1, j) else none
      | none => none
    | none => none).head?

/-- The lane that a job takes of those free for one, of which the spec names none: a free choice. [DEDUCED, log 120] -/
def State.freeLane (s : State) : Option (Fin 8) :=
  choose (Config.freeNat s.draw) ((List.finRange 8).filter fun l => s.laneServes l.val && (s.laneJob l.val).isNone)

/-- The jobs that wait for a lane. -/
def State.latWaiting (s : State) : List Nat :=
  s.lat.pages.filterMap fun e => match e.2.job with
    | some j => if j.lane.isNone ∧ j.code.isNone then some e.1 else none
    | none => none

/-- Microseconds of lane time that a fused step costs: its maximum (R384). -/
def stepCost : Nat := 40

/-- The job of a page gets the lane. -/
def State.takeLane (s : State) (n : Nat) (l : Fin 8) (df : Tab Nat) : State :=
  match (s.latPage n).job with
  | none => s
  | some j =>
    ({ s with lat := { s.lat with deficit := df } } : State).setLatJob n { j with lane := some l }

/-- Waiting jobs take free lanes, one by one, by the shares of R264; with none left until the next reset they end with
LANE_FAULT (R388). [DEDUCED, log 113] -/
def State.latPump : Nat → State → State
  | 0, s => s
  | k + 1, s =>
    let d := s.drawNat
    match d.2.drrPick d.1 s.lat.deficit 20 (s.latWaiting.map fun n => (n, stepCost)) with
    | none => s
    | some (n, df) =>
      match (s.latPage n).job, d.2.freeLane with
      | some _, some l => State.latPump k (d.2.drawNat.2.takeLane n l df)
      | some j, none => if s.lanesDead then State.latPump k (s.setLatJob n { j with code := some 14 }) else s
      | none, _ => s

/-- Every waiting job that can goes on. -/
def State.latGoOn (s : State) : State := State.latPump s.latWaiting.length s

end Sys2Proof.Machine
end

