-- ==== Sys2Proof/Machine/Hash.lean ====
section
/-! DEFINITION. SHA-256 and SHA-384 (FIPS 180-4), SHAKE128 (FIPS 202) and CRC-32, which the spec names by standard.
The round constants are computed from their definition. -/

namespace Sys2Proof.Machine

open Sys2Proof

/-! ## SHA-2 -/

/-- The first 80 primes. -/
def primes80 : List Nat :=
  (List.range 410).filter fun n => decide (2 ≤ n) && (List.range n).all fun d => decide (d < 2) || n % d != 0

/-- The largest `r` with `r ^ e ≤ n` among numbers of `k` bits. -/
def intRoot (e n k : Nat) : Nat :=
  ((List.range k).reverse).foldl (fun r i => if (r + 2 ^ i) ^ e ≤ n then r + 2 ^ i else r) 0

/-- The first `b` bits of the fractional part of the `e`-th root of `p`. -/
def rootBits (e b p : Nat) : Nat := intRoot e (p * 2 ^ (e * b)) (b + 5) % 2 ^ b

def sha256K : List Nat := (primes80.take 64).map (rootBits 3 32)
def sha256H : List Nat := (primes80.take 8).map (rootBits 2 32)
def sha384K : List Nat := primes80.map (rootBits 3 64)
def sha384H : List Nat := ((primes80.drop 8).take 8).map (rootBits 2 64)

/-- What distinguishes SHA-256 from SHA-512: word bits, rotations of the four functions. -/
structure Sha2 where
  bits : Nat
  s0 : Nat × Nat × Nat
  s1 : Nat × Nat × Nat
  m0 : Nat × Nat × Nat
  m1 : Nat × Nat × Nat
  deriving DecidableEq, Repr

def sha256P : Sha2 := ⟨32, (2, 13, 22), (6, 11, 25), (7, 18, 3), (17, 19, 10)⟩
def sha512P : Sha2 := ⟨64, (28, 34, 39), (14, 18, 41), (1, 8, 7), (19, 61, 6)⟩

def rotr (b x n : Nat) : Nat := (x >>> n) ||| ((x <<< (b - n)) % 2 ^ b)
def shaBig (b : Nat) (r : Nat × Nat × Nat) (x : Nat) : Nat := rotr b x r.1 ^^^ rotr b x r.2.1 ^^^ rotr b x r.2.2
def shaSmall (b : Nat) (r : Nat × Nat × Nat) (x : Nat) : Nat := rotr b x r.1 ^^^ rotr b x r.2.1 ^^^ (x >>> r.2.2)

/-- The message schedule, newest word first, from the block's 16 words. -/
def shaSchedule (p : Sha2) (n : Nat) (ws : List Nat) : List Nat :=
  (List.range n).foldl (fun w _ =>
    ((shaSmall p.bits p.m1 (w.getD 1 0) + w.getD 6 0 + shaSmall p.bits p.m0 (w.getD 14 0) + w.getD 15 0)
      % 2 ^ p.bits) :: w) ws.reverse

/-- One round on the eight working variables. -/
def shaRound (p : Sha2) (v : List Nat) (kw : Nat) : List Nat :=
  match v with
  | [a, b, c, d, e, f, g, h] =>
    let m := 2 ^ p.bits
    let ch := (e &&& f) ^^^ ((m - 1 - e) &&& g)
    let maj := (a &&& b) ^^^ (a &&& c) ^^^ (b &&& c)
    let t1 := h + shaBig p.bits p.s1 e + ch + kw
    [(t1 + shaBig p.bits p.s0 a + maj) % m, a, b, c, (d + t1) % m, e, f, g]
  | _ => v

def shaBlock (p : Sha2) (ks hs : List Nat) (blk : Bytes) : List Nat :=
  let ws := (chunks (p.bits / 8) blk).map beNat
  let w := (shaSchedule p (ks.length - 16) ws).reverse
  let v := (List.zipWith (· + ·) ks w).foldl (shaRound p) hs
  List.zipWith (fun a b => (a + b) % 2 ^ p.bits) hs v

def sha2 (p : Sha2) (ks hs : List Nat) (msg : Bytes) : Bytes :=
  let blk := 2 * p.bits
  let lenB := p.bits / 4
  let padded := msg ++ [0x80] ++ zeros ((2 * blk - (msg.length + 1 + lenB) % blk) % blk) ++ beBytes lenB (8 * msg.length)
  ((chunks blk padded).foldl (shaBlock p ks) hs).flatMap (beBytes (p.bits / 8))

/-- SHA-256, 32 bytes. -/
def sha256 (msg : Bytes) : Bytes := sha2 sha256P sha256K sha256H msg
/-- SHA-384, 48 bytes. -/
def sha384 (msg : Bytes) : Bytes := (sha2 sha512P sha384K sha384H msg).take 48

/-! ## SHAKE128 -/

def rotl64 (x : Dword) (n : Nat) : Dword := (x <<< (n % 64)) ||| (x >>> ((64 - n % 64) % 64)) &&& (if n % 64 = 0 then 0 else BitVec.allOnes 64)

/-- The rotation of lane (x, y): triangular numbers along the pi orbit from (1, 0). -/
def keccakRot (x y : Nat) : Nat :=
  ((List.range 24).foldl (fun (acc : Nat × Nat × Nat) t =>
    let r := if acc.1 = x ∧ acc.2.1 = y then (t + 1) * (t + 2) / 2 % 64 else acc.2.2
    (acc.2.1, (2 * acc.1 + 3 * acc.2.1) % 5, r)) (1, 0, 0)).2.2

/-- Bit `t` of the LFSR x^8 + x^6 + x^5 + x^4 + 1 of the round constants. -/
def keccakRc (t : Nat) : Bool :=
  bit ((List.range (t % 255)).foldl (fun (r : BitVec 9) _ =>
    let r2 := r <<< 1
    if bit r2 8 then r2 ^^^ 0x171 else r2) 1) 0

def keccakRoundConst (ir : Nat) : Dword :=
  BitVec.ofNat 64 ((List.range 7).foldl (fun c j => c + flag (keccakRc (j + 7 * ir)) (2 ^ j - 1)) 0)

def lane (a : List Dword) (x y : Nat) : Dword := a.getD (x % 5 + 5 * (y % 5)) 0

def keccakRound (a : List Dword) (ir : Nat) : List Dword :=
  let c := (List.range 5).map fun x => lane a x 0 ^^^ lane a x 1 ^^^ lane a x 2 ^^^ lane a x 3 ^^^ lane a x 4
  let d := (List.range 5).map fun x => c.getD ((x + 4) % 5) 0 ^^^ rotl64 (c.getD ((x + 1) % 5) 0) 1
  let th := (List.range 25).map fun i => a.getD i 0 ^^^ d.getD (i % 5) 0
  let b := (List.range 25).map fun i =>
    let x := i % 5
    let y := i / 5
    let sx := (x + 3 * y) % 5
    rotl64 (lane th sx x) (keccakRot sx x)
  (List.range 25).map fun i =>
    let x := i % 5
    let y := i / 5
    let v := lane b x y ^^^ (~~~ lane b (x + 1) y &&& lane b (x + 2) y)
    if i = 0 then v ^^^ keccakRoundConst ir else v

def keccakF (a : List Dword) : List Dword := (List.range 24).foldl keccakRound a

/-- SHAKE128 of a message, `n` bytes. -/
def shake128 (msg : Bytes) (n : Nat) : Bytes :=
  let padLen := 168 - (msg.length % 168)
  let pad : Bytes := if padLen = 1 then [0x9F] else 0x1F :: (zeros (padLen - 2) ++ [0x80])
  let absorb (a : List Dword) (blk : Bytes) : List Dword :=
    keccakF ((List.range 25).map fun i =>
      a.getD i 0 ^^^ (if i < 21 then BitVec.ofNat 64 (leNat (slice blk (8 * i) 8)) else 0))
  let st := (chunks 168 (msg ++ pad)).foldl absorb (List.replicate 25 0)
  let out := (List.range (n / 168 + 1)).foldl (fun (acc : Bytes × List Dword) _ =>
    (acc.1 ++ (acc.2.take 21).flatMap (fun l => leBytes 8 l.toNat), keccakF acc.2)) ([], st)
  out.1.take n

/-! ## CRC-32 -/

/-- One byte through a reflected CRC with polynomial `poly`. -/
def crcReflByte (poly crc : Nat) (b : Byte) : Nat :=
  (List.range 8).foldl (fun c _ => if c % 2 = 1 then (c / 2) ^^^ poly else c / 2) (crc ^^^ b.toNat)

/-- CRC-32 (IEEE 802.3). -/
def crc32 (msg : Bytes) : Word := w32 (msg.foldl (crcReflByte 0xEDB88320) 0xFFFFFFFF ^^^ 0xFFFFFFFF)

end Sys2Proof.Machine
end

