-- ==== Sys2Proof/Machine/LatMath.lean ====
section
/-! DEFINITION. The arithmetic of the lattice engine on numbers: moduli, polynomials over limbs, sampling and expansion,
modulus drop, key switching, encodings (R354-R368, R381-R384, R390). A polynomial is a list of limbs, a limb a list of N numbers. -/

namespace Sys2Proof.Machine

open Sys2Proof

/-- One limb: N coefficients below its modulus. -/
abbrev Limb := List Nat
/-- A polynomial over several limbs (R357). -/
abbrev Rns := List Limb

/-! ## Numbers -/

/-- b^e mod m, for e below 2^64. -/
def powMod (b e m : Nat) : Nat :=
  ((List.range 64).reverse.map e.testBit).foldl (fun a x => (if x then a * a % m * b else a * a) % m) (1 % m)

/-- The inverse modulo a prime. -/
def invMod (a q : Nat) : Nat := powMod (a % q) (q - 2) q

/-- [x]_m: the representative in (-m/2, m/2] (ch. 11, before R362). -/
def centered (x m : Nat) : Int := if m < 2 * (x % m) then (x % m : Int) - m else (x % m : Int)

/-- An integer modulo q. -/
def ofInt (z : Int) (q : Nat) : Nat := (z % (q : Int)).toNat

/-- One Miller-Rabin round for the base `a`: n - 1 = d * 2^s (R355). -/
def mrRound (n d s a : Nat) : Bool :=
  let x := powMod a d n
  x == 1 || ((List.range s).foldl (fun (acc : Nat × Bool) _ => (acc.1 * acc.1 % n, acc.2 || acc.1 == n - 1)) (x, false)).2

/-- The deterministic Miller-Rabin test over the first 12 prime bases (R355). -/
def isPrime (n : Nat) : Bool :=
  let bases := [2, 3, 5, 7, 11, 13, 17, 19, 23, 29, 31, 37]
  let s := ((List.range 64).find? fun i => (n - 1).testBit i).getD 0
  decide (2 ≤ n) && bases.all fun a => n == a || (n % a != 0 && mrRound n ((n - 1) / 2 ^ s) s a)

/-! ## Parameter sets (R354, R355) -/

/-- A parameter set as its body gives it (R354). -/
structure LatParams where
  logN : Nat := 0
  l    : Nat := 0
  k    : Nat := 0
  dnum : Nat := 0
  t    : Nat := 0
  q    : List Nat := []
  p    : List Nat := []
  deriving DecidableEq, Repr

/-- 64-bit little-endian words of a string. -/
def words64 (bs : Bytes) : List Nat := (chunks 8 bs).map leNat

/-- The fields of a PARAMS body (R354). -/
def parseParams (b : Bytes) : LatParams :=
  let at1 (i : Nat) : Nat := (b.getD i 0).toNat
  let ms := words64 (slice b 16 (8 * (at1 1 + at1 2)))
  { logN := at1 0, l := at1 1, k := at1 2, dnum := at1 3, t := leNat (slice b 4 4), q := ms.take (at1 1), p := ms.drop (at1 1) }

def LatParams.n (p : LatParams) : Nat := 2 ^ p.logN
/-- α of R382. -/
def LatParams.alpha (p : LatParams) : Nat := (p.l + p.dnum - 1) / p.dnum
/-- The moduli of limbs 0 to ℓ and of the special limbs. -/
def LatParams.lower (p : LatParams) (lev : Nat) : List Nat := p.q.take (lev + 1)

/-- The modulus conditions of R355: prime, 2^20 < q < 2^60, ≡ 1 modulo 2N and T. -/
def modulusOk (n t q : Nat) : Bool :=
  decide (2 ^ 20 < q) && decide (q < 2 ^ 60) && q % (2 * n) == 1 && q % t == 1 % t && isPrime q

/-- A PARAMS body passes R354 and R355. -/
def paramsOk (b : Bytes) : Bool :=
  let p := parseParams b
  decide (8 ≤ p.logN) && decide (p.logN ≤ 15) && decide (1 ≤ p.l) && decide (p.l ≤ 64) && decide (1 ≤ p.k) &&
  decide (p.k ≤ 16) && decide (1 ≤ p.dnum) && decide (p.dnum ≤ 16) && decide (p.dnum ≤ p.l) && decide (2 ≤ p.t) &&
  decide (p.t ≤ 2 ^ 20) && leNat (slice b 8 8) == 0 && b.length == 16 + 8 * (p.l + p.k) &&
  (p.q ++ p.p).all (modulusOk p.n p.t) && decide ((p.q ++ p.p).Nodup) && decide (p.n * p.l ≤ 262144) &&
  decide (p.n * (p.l + p.k) ≤ 524288) && decide (p.alpha ≤ p.k)

/-- PARAM_DIGEST (R355). -/
def paramDigest (b : Bytes) : Bytes := shake128 b 16

/-- BATCH is available (R355). -/
def batchOk (p : LatParams) : Bool := isPrime p.t && p.t % (2 * p.n) == 1

/-! ## Limbs -/

def limbAdd (q : Nat) (a b : Limb) : Limb := List.zipWith (fun x y => (x + y) % q) a b
def limbSub (q : Nat) (a b : Limb) : Limb := List.zipWith (fun x y => (x + (q - y % q)) % q) a b
def limbNeg (q : Nat) (a : Limb) : Limb := a.map fun x => (q - x % q) % q
def limbScale (q c : Nat) (a : Limb) : Limb := a.map fun x => x * c % q

/-- Multiplication by X modulo X^N + 1. -/
def limbMulX (q : Nat) (a : Limb) : Limb :=
  match a.getLast? with
  | none => []
  | some z => (q - z % q) % q :: a.dropLast

/-- The product modulo X^N + 1 (R357). -/
def limbMul (q : Nat) (a b : Limb) : Limb :=
  (a.foldl (fun (acc : Limb × Limb) x => (limbAdd q acc.1 (limbScale q x acc.2), limbMulX q acc.2))
    (a.map fun _ => 0, b)).1

/-- c(X^g) modulo X^N + 1, for odd g (R365). -/
def limbAuto (q g : Nat) (a : Limb) : Limb :=
  let n := a.length
  let inv := powMod g (n - 1) (2 * n)
  (List.range n).map fun k =>
    let i := k * inv % (2 * n)
    if i < n then a.getD i 0 else (q - a.getD (i - n) 0 % q) % q

/-- A limb-wise operation over the moduli `qs`. -/
def rns2 (f : Nat → Limb → Limb → Limb) (qs : List Nat) (a b : Rns) : Rns :=
  List.zipWith (fun q ab => f q ab.1 ab.2) qs (a.zip b)
def rns1 (f : Nat → Limb → Limb) (qs : List Nat) (a : Rns) : Rns := List.zipWith f qs a
def rnsAdd := rns2 limbAdd
def rnsSub := rns2 limbSub
def rnsMul := rns2 limbMul
def rnsNeg := rns1 limbNeg
def rnsAuto (qs : List Nat) (g : Nat) (a : Rns) : Rns := rns1 (fun q => limbAuto q g) qs a
/-- A polynomial with integer coefficients, in each limb. -/
def rnsOfInts (qs : List Nat) (zs : List Int) : Rns := qs.map fun q => zs.map fun z => ofInt z q
/-- The product with an integer. -/
def rnsScale (qs : List Nat) (c : Int) (a : Rns) : Rns := rns1 (fun q => limbScale q (ofInt c q)) qs a

/-! ## Bytes of polynomials (R357) -/

/-- A polynomial of `m` limbs of `n` words from a body. -/
def readRns (n m : Nat) (b : Bytes) : Rns := (List.range m).map fun i => words64 (slice b (8 * n * i) (8 * n))
def writeLimb (a : Limb) : Bytes := a.flatMap (leBytes 8)
def writeRns (a : Rns) : Bytes := a.flatMap writeLimb
/-- Every coefficient is below its modulus (R375). -/
def rnsInRange (qs : List Nat) (a : Rns) : Bool := (qs.zip a).all fun e => e.2.all fun x => decide (x < e.1)

/-! ## Expansion and sampling (R360, R361, R366, R381) -/

/-- Limb `j` of the seeded polynomial with index `i` of an object of kind `k` (R360). Of the stream 4N + 256 words are read.
[DEDUCED, log 122] -/
def expandLimb (n q : Nat) (seed : Bytes) (k i j : Nat) : Limb :=
  let bits := q.log2 + 1
  let ws := words64 (shake128 (seed ++ [byte k] ++ leBytes 2 i ++ [byte j]) (8 * (4 * n + 256)))
  let ok := (ws.map (· % 2 ^ bits)).filter (· < q)
  ok.take n ++ List.replicate (n - ok.length) 0

/-- The same over limbs numbered `js` with moduli `qs`. -/
def expandRns (n : Nat) (qs js : List Nat) (seed : Bytes) (k i : Nat) : Rns :=
  List.zipWith (fun q j => expandLimb n q seed k i j) qs js

/-- The coefficient of two bits: 0 and 3 give 0, 1 gives 1, 2 gives -1 (R381). -/
def ternary (v : Nat) : Int := if v = 1 then 1 else if v = 2 then -1 else 0
/-- N coefficients from a byte stream, two bits each (R381). -/
def ternaryPoly (n : Nat) (bs : Bytes) : List Int :=
  (List.range n).map fun i => ternary (fld (bs.getD (i / 4) 0) (2 * (i % 4)) 2)
/-- The secret key of a seed (R381). -/
def secretKey (n : Nat) (seed : Bytes) : List Int := ternaryPoly n (shake128 ([0x4C] ++ seed) ((n + 3) / 4))
/-- KEY_TAG of a seed (R361). -/
def keyTagOf (seed : Bytes) : Bytes := shake128 ([0x53] ++ seed) 8

/-- Bits set among the `n` from `lo` up. -/
def onesIn (v lo n : Nat) : Nat := ((List.range n).filter fun i => v.testBit (lo + i)).length
/-- N samples of the centered binomial distribution with parameter 21, six random bytes each (R366). -/
def cbdPoly (n : Nat) (bs : Bytes) : List Int :=
  (List.range n).map fun i =>
    let v := leNat (slice bs (6 * i) 6)
    (onesIn v 0 21 : Int) - onesIn v 21 21

/-! ## Modulus drop (R363) -/

/-- One drop: the last limb is folded into the others (R363). -/
def dropOne (t : Nat) (qs : List Nat) (a : Rns) : Rns :=
  match qs.getLast?, a.getLast? with
  | some qh, some top =>
    List.zipWith (fun (q : Nat) (lo : Limb) => List.zipWith (fun (c x : Nat) =>
      let r := centered x qh
      let u := centered (ofInt (-r) t) t
      ofInt ((c : Int) - (r + qh * u)) q * invMod qh q % q) lo top) qs.dropLast a.dropLast
  | _, _ => a

/-- `d` drops from the level of `a` (R363). -/
def dropBy (t : Nat) : Nat → List Nat → Rns → Rns
  | 0, _, a => a
  | d + 1, qs, a => dropBy t d qs.dropLast (dropOne t qs a)

/-! ## Key switching (R382, R383) -/

/-- The product of a list of moduli. -/
def prodOf (qs : List Nat) : Nat := qs.foldl (· * ·) 1

/-- Fast base conversion of one coefficient with residues `xs` on the limbs `bs` to the modulus `c` (R382). -/
def fastConv (bs xs : List Nat) (c : Nat) : Nat :=
  let b := prodOf bs
  (List.zipWith (fun bj x => x * invMod (b / bj) bj % bj * (b / bj)) bs xs).sum % c

/-- The residues of coefficient `i` over the limbs of `a`. -/
def coeffOf (a : Rns) (i : Nat) : List Nat := a.map fun l => l.getD i 0

/-- Fast base conversion of a polynomial on the limbs `bs` to the modulus `c`. -/
def convLimb (bs : List Nat) (a : Rns) (c : Nat) : Limb :=
  (List.range ((a.headD []).length)).map fun i => fastConv bs (coeffOf a i) c

/-- A switching key as the sequence uses it: its moduli and special moduli, group size, plaintext modulus, and for each digit b
and a over all limbs. -/
structure SwKey where
  q     : List Nat
  p     : List Nat
  alpha : Nat
  t     : Nat
  digits : List (Rns × Rns)

/-- Steps 1 and 2: digit `i` of `d`, extended to limbs 0 to ℓ and the special limbs (R383). -/
def modUp (k : SwKey) (lev i : Nat) (d : Rns) : Rns :=
  let lo := i * k.alpha
  let hi := min (lo + k.alpha) (lev + 1)
  let bs := (k.q.take hi).drop lo
  let part := (d.take hi).drop lo
  (List.range (lev + 1)).map (fun j => if lo ≤ j ∧ j < hi then d.getD j [] else convLimb bs part (k.q.getD j 1)) ++
    k.p.map (convLimb bs part)

/-- Limbs 0 to ℓ and the special limbs of a key polynomial (R383). -/
def keyLimbs (k : SwKey) (lev : Nat) (a : Rns) : Rns := a.take (lev + 1) ++ a.drop k.q.length

/-- Step 4: division by P that keeps the value modulo T (R383). -/
def modDown (k : SwKey) (lev : Nat) (a : Rns) : Rns :=
  let sp := a.drop (lev + 1)
  let pp := prodOf k.p
  let rt := convLimb k.p sp k.t
  List.zipWith (fun (q : Nat) (u : Limb) =>
    let rq := convLimb k.p sp q
    List.zipWith (fun (x : Nat) (rr : Nat × Nat) =>
      let t := centered ((k.t - rr.2 % k.t) % k.t) k.t
      ofInt ((x : Int) - (rr.1 + pp * t)) q * invMod pp q % q) u (rq.zip rt)) (k.q.take (lev + 1)) (a.take (lev + 1))

/-- The fused key-switching sequence: the pair (u′, v′) to add to the target (R383). -/
def keySwitch (k : SwKey) (lev : Nat) (d : Rns) : Rns × Rns :=
  let qs := k.q.take (lev + 1) ++ k.p
  let beta := (lev + k.alpha) / k.alpha
  let zero : Rns := qs.map fun _ => (d.headD []).map fun _ => 0
  let uv := ((List.range beta).zip k.digits).foldl (fun (acc : Rns × Rns) e =>
    let di := modUp k lev e.1 d
    (rnsAdd qs acc.1 (rnsMul qs di (keyLimbs k lev e.2.1)), rnsAdd qs acc.2 (rnsMul qs di (keyLimbs k lev e.2.2))))
    (zero, zero)
  (modDown k lev uv.1, modDown k lev uv.2)

/-- P · Q̃_i of R382 as an integer, for digit group `i`. -/
def gadget (k : SwKey) (i : Nat) : Nat :=
  let lo := i * k.alpha
  let g := (k.q.take (lo + k.alpha)).drop lo
  let qi := prodOf g
  let rest := prodOf k.q / qi
  let inv := (g.map fun m => rest % m)
  -- (Q/Q_i)^-1 modulo Q_i, by its residues on the limbs of the group
  let x := fastConv g (List.zipWith invMod inv g) qi
  prodOf k.p * (rest * x)

/-! ## Encodings (R359, R362, R367) -/

/-- ζ: the smallest integer in [2, T) of order 2N modulo T (R359). -/
def zeta (p : LatParams) : Nat := ((List.range p.t).find? fun x => decide (2 ≤ x) && powMod x p.n p.t == p.t - 1).getD 0

/-- e_i of R359. -/
def slotExp (n i : Nat) : Nat :=
  if i < n / 2 then powMod 5 i (2 * n) else (2 * n - powMod 5 (i - n / 2) (2 * n)) % (2 * n)

/-- The slot values of a plaintext polynomial (R359). -/
def toSlots (p : LatParams) (m : List Nat) : List Nat :=
  let z := zeta p
  (List.range p.n).map fun i =>
    let x := powMod z (slotExp p.n i) p.t
    m.foldr (fun c acc => (c + x * acc) % p.t) 0

/-- The plaintext polynomial with given slot values (R359): the inverse transform over the odd powers of ζ. -/
def ofSlots (p : LatParams) (v : List Nat) : List Nat :=
  let z := zeta p
  let ninv := invMod p.n p.t
  (List.range p.n).map fun k =>
    (((List.range p.n).zip v).map fun e => e.2 * powMod z ((2 * p.n - slotExp p.n e.1) * k % (2 * p.n)) p.t).sum % p.t * ninv % p.t

/-- The coefficient polynomial of a plaintext body's values, under its ENC. -/
def ptPoly (p : LatParams) (batch : Bool) (vals : List Nat) : List Nat := if batch then ofSlots p vals else vals
/-- The values of a plaintext polynomial, under an ENC. -/
def ptVals (p : LatParams) (batch : Bool) (m : List Nat) : List Nat := if batch then toSlots p m else m
/-- lift(m): coefficients replaced by [c]_T (ch. 11, before R362). -/
def liftPoly (t : Nat) (m : List Nat) : List Int := m.map fun c => centered c t

/-- The number modulo the product of `qs` with residues `xs`. -/
def crt (qs xs : List Nat) : Nat := fastConv qs xs (prodOf qs)

/-- Decryption: [[c0 + c1·s]_Q]_T as numbers below T (R367). -/
def decryptPoly (t : Nat) (qs : List Nat) (c0 c1 : Rns) (s : List Int) : List Nat :=
  let x := rnsAdd qs c0 (rnsMul qs c1 (rnsOfInts qs s))
  (List.range s.length).map fun i => ofInt (centered (crt qs (coeffOf x i)) (prodOf qs)) t

end Sys2Proof.Machine
end

