-- ==== Sys2Proof/Machine/LatObj.lean ====
section
/-! DEFINITION. Object headers, the lengths and contents of bodies, switching and refresh keys read from memory (R354-R361, R375,
R382, R383, R390-R392). -/

namespace Sys2Proof.Machine

open Sys2Proof

/-! ## Headers (R356) -/

def hdKind (h : Bytes) : Nat := (h.getD 5 0).toNat
def hdLevel (h : Bytes) : Nat := (h.getD 6 0).toNat
def hdEnc (h : Bytes) : Nat := (h.getD 7 0).toNat
def hdSeeded (h : Bytes) : Bool := bit (h.getD 9 0) 0
def hdLen (h : Bytes) : Nat := leNat (slice h 0x0C 4)
def hdDigest (h : Bytes) : Bytes := slice h 0x10 16
def hdTag (h : Bytes) : Bytes := slice h 0x20 8
def hdGalois (h : Bytes) : Word := wordAt h 0x28

/-- Kinds that carry a KEY_TAG: ciphertexts and keys (R356). -/
def kindTagged (k : Nat) : Bool := k == 2 || (decide (4 ≤ k) && decide (k ≤ 7))

/-- What R356 and R358 fix of a header without its parameter set. -/
def hdrStatic (h : Bytes) : Bool :=
  let k := hdKind h
  slice h 0 4 == ([0x4E, 0x4C, 0x4F, 0x42] : Bytes) && h.getD 4 0 == 1 && decide (1 ≤ k) && decide (k ≤ 8) &&
  (k == 2 || hdLevel h == 0) && decide (hdEnc h ≤ 1) && (k == 2 || k == 3 || hdEnc h == 0) &&
  fld (h.getD 9 0) 1 7 == 0 && leNat (slice h 0x0A 2) == 0 && (slice h 0x2C 20).all (· == 0) &&
  (kindTagged k || leNat (hdTag h) == 0) && (k == 6 || hdGalois h == 0) &&
  (if 4 ≤ k ∧ k ≤ 7 then hdSeeded h else k == 2 || !hdSeeded h)

/-- Bytes of one limb. -/
def LatParams.limb (p : LatParams) : Nat := 8 * p.n

/-- Bytes of a ciphertext body at level ℓ (R358). -/
def ctLen (p : LatParams) (lev : Nat) (seeded : Bool) : Nat :=
  if seeded then 32 + (lev + 1) * p.limb else 2 * (lev + 1) * p.limb

/-- Body bytes of a kind but REFRESH_KEY (R354, R358, R392). -/
def kindLen (p : LatParams) (kind lev : Nat) (seeded : Bool) : Nat :=
  match kind with
  | 1 => 16 + 8 * (p.l + p.k)
  | 2 => ctLen p lev seeded
  | 3 => 4 * p.n
  | 4 => 32 + p.l * p.limb
  | 8 => 2 * p.t
  | _ => 32 + p.dnum * (p.l + p.k) * p.limb

/-! ## Refresh keys (R390, R391) -/

/-- The leading fields of a REFRESH_KEY body (R390). -/
structure RefKey where
  m    : Nat
  kr   : Nat
  dnum : Nat
  e    : Nat
  r    : List Nat
  p    : List Nat

def parseRef (b : Bytes) : RefKey :=
  let at1 (i : Nat) : Nat := (b.getD i 0).toNat
  let ms := words64 (slice b 8 (8 * (at1 0 + at1 1)))
  { m := at1 0, kr := at1 1, dnum := at1 2, e := at1 3, r := ms.take (at1 0), p := ms.drop (at1 0) }

/-- Bytes up to and including the moduli, the template of KEYGEN (R391). -/
def refHead (k : RefKey) : Nat := 8 + 8 * (k.m + k.kr)
/-- The bound the heads fit in: M ≤ 64, K_R ≤ 16 as bytes. -/
def refHeadMax : Nat := 8 + 8 * (255 + 255)
/-- Offset of BK (R390). -/
def refBk (p : LatParams) (k : RefKey) : Nat := refHead k + 32 + 4 * p.logN
/-- Limbs of a digit, and the whole body (R390). -/
def refLimbs (p : LatParams) (k : RefKey) : Nat := p.l + k.m + k.kr
def refLen (p : LatParams) (k : RefKey) : Nat :=
  refBk p k + (p.l + k.m) * p.limb + refLimbs p k * p.limb * k.dnum * (1 + p.logN)

/-- Galois elements of the rotation digits (R390). -/
def refGalois (p : LatParams) : List Nat :=
  (List.range (p.logN - 1)).map (fun k => powMod 5 (2 ^ k) (2 * p.n)) ++ [2 * p.n - 1]

/-- ⌈log2 T⌉. -/
def log2Up (t : Nat) : Nat := if 2 ^ t.log2 = t then t.log2 else t.log2 + 1

/-- The conditions of R390 and R391 on the leading fields `b` of a body. -/
def refOk (p : LatParams) (b : Bytes) : Bool :=
  let k := parseRef b
  let ms := k.r ++ k.p
  decide (1 ≤ k.m) && decide (k.m ≤ 64) && decide (1 ≤ k.kr) && decide (k.kr ≤ 16) && decide (1 ≤ k.dnum) &&
  decide (k.dnum ≤ 16) && decide (1 ≤ k.e) && decide (k.e ≤ 3) && (b.getD 4 0).toNat == p.logN && leNat (slice b 5 3) == 0 &&
  ms.all (fun q => modulusOk p.n p.t q && q % p.t ^ k.e == 1) && decide ((p.q ++ p.p ++ ms).Nodup) &&
  decide ((p.l + k.m + k.dnum - 1) / k.dnum ≤ k.kr) && decide (p.n * refLimbs p k ≤ 524288) &&
  decide (2 + log2Up p.t + k.e ≤ k.m)

/-- The Galois elements a body lists are those of R390. -/
def refGaloisOk (p : LatParams) (b : Bytes) : Bool :=
  let k := parseRef b
  (List.range p.logN).map (fun i => (wordAt b (refHead k + 32 + 4 * i)).toNat) == refGalois p

/-- What R356 and R358 fix of a header under its parameter set; `b` is at least the head of the body. -/
def hdrSized (p : LatParams) (h b : Bytes) : Bool :=
  let k := hdKind h
  (h.getD 8 0).toNat == p.logN && decide (hdLevel h < p.l) && (!(k == 2 && hdSeeded h) || hdLevel h + 1 == p.l) &&
  (hdEnc h == 0 || batchOk p) &&
  (if k = 7 then refOk p b && refGaloisOk p b && hdLen h == refLen p (parseRef b)
   else hdLen h == kindLen p k (hdLevel h) (hdSeeded h)) &&
  (k != 8 || decide (p.t ≤ 4096))

/-! ## Headers and entries -/

/-- The header of an object (R356). -/
def objHeader (o : LObj) : Bytes :=
  [0x4E, 0x4C, 0x4F, 0x42, 1, o.kind, o.level, o.enc, o.logN, o.flags, 0, 0] ++ leBytes 4 o.bodyLen ++
  paramDigest o.params ++ slice o.keyTag 0 8 ++ leBytes 4 o.galois.toNat ++ zeros 20

/-- The entry an imported header describes, under the parameter set `params`. -/
def objOfHdr (h params : Bytes) : LObj :=
  { kind := h.getD 5 0, level := h.getD 6 0, enc := h.getD 7 0, logN := h.getD 8 0, flags := h.getD 9 0, bodyLen := hdLen h,
    params := params, keyTag := hdTag h, galois := hdGalois h }

/-- The parameter set of an object. -/
def LObj.par (o : LObj) : LatParams := parseParams o.params
/-- SEEDED of an object. -/
def LObj.seeded (o : LObj) : Bool := bit o.flags 0

/-! ## Bodies -/

/-- The components of a ciphertext (R358, R360). -/
def ctPolys (o : LObj) (body : Bytes) : Rns × Rns :=
  let p := o.par
  let m := o.level.toNat + 1
  if o.seeded then
    (readRns p.n m (body.drop 32), expandRns p.n (p.lower o.level.toNat) (List.range m) (body.take 32) 2 0)
  else (readRns p.n m body, readRns p.n m (body.drop (m * p.limb)))

/-- The values of a plaintext or a LUT body, `w` bytes each. -/
def valuesOf (w : Nat) (body : Bytes) : List Nat := (chunks w body).map leNat

/-- Limbs of a body from offset `off`, against their moduli. -/
def limbsInRange (p : LatParams) (qs : List Nat) (body : Bytes) (off : Nat) : Bool :=
  rnsInRange qs (readRns p.n qs.length (body.drop off))

/-- Every coefficient of an imported body is below its modulus (R375, R392). -/
def bodyInRange (p : LatParams) (h body : Bytes) : Bool :=
  let qs := p.lower (hdLevel h)
  match hdKind h with
  | 1 => true
  | 2 => if hdSeeded h then limbsInRange p qs body 32 else limbsInRange p (qs ++ qs) body 0
  | 3 => (valuesOf 4 body).all (decide <| · < p.t)
  | 4 => limbsInRange p p.q body 32
  | 7 =>
    let k := parseRef body
    let lm := p.q ++ k.r
    limbsInRange p (lm ++ (List.replicate (k.dnum * (1 + p.logN)) (lm ++ k.p)).flatten) body (refBk p k)
  | 8 => (valuesOf 2 body).all (decide <| · < p.t)
  | _ => limbsInRange p ((List.replicate p.dnum (p.q ++ p.p)).flatten) body 32

/-! ## Keys in memory (R375, R386) -/

/-- The header, and the body bytes `off` to `off + len`, of a key object at `a`. -/
def State.keyHdr (s : State) (a : Word) : Bytes := s.rdBytes a.toNat 64
def State.keyPart (s : State) (a : Word) (off len : Nat) : Bytes := s.rdBytes (a.toNat + 64 + off) len

/-- Checks 6 on a key object for an operation that needs kind `kind` under the parameter set and tag of an object: 0, MISMATCH or
BAD_FORMAT (R373, R375, R391). [DEDUCED, log 117] -/
def State.keyCheck (s : State) (a : Word) (kind : Nat) (params : Bytes) (tag : Option Bytes) (g : Word) : Nat :=
  let h := s.keyHdr a
  if !hdrStatic h then 11
  else if hdKind h ≠ kind ∨ hdDigest h ≠ paramDigest params then 6
  else if !hdrSized (parseParams params) h (s.keyPart a 0 refHeadMax) then 11
  else if (match tag with
      | some t => hdTag h != t
      | none => false) || (kind == 6 && hdGalois h != g) then 6
  else 0

/-- A RELIN_KEY or ROTATION_KEY as a sequence uses it (R358, R382). -/
def State.swKeyAt (s : State) (a : Word) (p : LatParams) : SwKey :=
  let w := (p.l + p.k) * p.limb
  let seed := s.keyPart a 0 32
  { q := p.q, p := p.p, alpha := p.alpha, t := p.t
    digits := (List.range p.dnum).map fun i =>
      (readRns p.n (p.l + p.k) (s.keyPart a (32 + i * w) w),
       expandRns p.n (p.q ++ p.p) (List.range (p.l + p.k)) seed (hdKind (s.keyHdr a)) i) }

/-- The key limbs a sequence at level ℓ uses are in range (R375, R383). -/
def swKeyOk (k : SwKey) (lev : Nat) : Bool :=
  (k.digits.take ((lev + k.alpha) / k.alpha)).all fun d => rnsInRange (k.q.take (lev + 1) ++ k.p) (keyLimbs k lev d.1)

end Sys2Proof.Machine
end

