-- ==== Sys2Proof/Machine/LatRun.lean ====
section
/-! DEFINITION. What each lattice operation computes (R362-R370, R381-R384, R390-R395). -/

namespace Sys2Proof.Machine

open Sys2Proof

/-- What a job leaves: a status; the result object and its body; bytes for memory at ADDR; R and LVL where the spec states them;
the state with the values drawn. -/
structure LatRes where
  code   : Nat := 0
  obj    : Option (LObj × Bytes) := none
  bytes  : Bytes := []
  r      : Option Word := none
  lvl    : Option Nat := none
  refreshed : Bool := false
  after  : State

/-- A job that ends with a status. -/
def State.latFail (s : State) (code : Nat) : LatRes := { code := code, after := s }

/-- A ciphertext as a result: over the limbs of level `lev`, with the ENC and KEY_TAG of `o`. -/
def State.ctRes (s : State) (o : LObj) (lev : Nat) (c : Rns × Rns) : LatRes :=
  let body := writeRns c.1 ++ writeRns c.2
  { obj := some ({ kind := 2, level := byte lev, enc := o.enc, logN := o.logN, bodyLen := body.length, params := o.params,
                   keyTag := o.keyTag }, body)
    lvl := some lev, after := s }

/-- The components of an object that is a ciphertext. -/
def State.ctOf (s : State) (o : LObj) : Rns × Rns := ctPolys o (s.objBody o)

/-- The same brought down to level `lev` (R363). -/
def State.ctAt (s : State) (o : LObj) (lev : Nat) : Rns × Rns :=
  let p := o.par
  let c := s.ctOf o
  let d := o.level.toNat - lev
  (dropBy p.t d (p.lower o.level.toNat) c.1, dropBy p.t d (p.lower o.level.toNat) c.2)

/-- lift(B) of a plaintext over some limbs (R362). -/
def State.liftOf (s : State) (o : LObj) (qs : List Nat) : Rns :=
  rnsOfInts qs (liftPoly o.par.t (ptPoly o.par (o.enc == 1) (valuesOf 4 (s.objBody o))))

/-! ## Element-wise operations (R362, R363) -/

/-- ADD and SUB: both components at ℓ. -/
def State.latBinary (s : State) (f : List Nat → Rns → Rns → Rns) (a b : LObj) : LatRes :=
  let lev := min a.level.toNat b.level.toNat
  let qs := a.par.lower lev
  let x := s.ctAt a lev
  let y := s.ctAt b lev
  s.ctRes a lev (f qs x.1 y.1, f qs x.2 y.2)

/-- PADD and PSUB: c0 ± lift(B). -/
def State.latPlain (s : State) (f : List Nat → Rns → Rns → Rns) (a b : LObj) : LatRes :=
  let qs := a.par.lower a.level.toNat
  let x := s.ctOf a
  s.ctRes a a.level.toNat (f qs x.1 (s.liftOf b qs), x.2)

/-- PMUL: both components times lift(B). -/
def State.latPmul (s : State) (a b : LObj) : LatRes :=
  let qs := a.par.lower a.level.toNat
  let x := s.ctOf a
  let m := s.liftOf b qs
  s.ctRes a a.level.toNat (rnsMul qs x.1 m, rnsMul qs x.2 m)

/-- NEG and CMUL: both components changed limb by limb. -/
def State.latUnary (s : State) (f : List Nat → Rns → Rns) (a : LObj) : LatRes :=
  let qs := a.par.lower a.level.toNat
  let x := s.ctOf a
  s.ctRes a a.level.toNat (f qs x.1, f qs x.2)

/-- DROP by `d` levels (R363). -/
def State.latDropOp (s : State) (a : LObj) (d : Nat) : LatRes :=
  s.ctRes a (a.level.toNat - d) (s.ctAt a (a.level.toNat - d))

/-! ## Key-switched operations (R364, R365, R383) -/

/-- MUL of two ciphertexts with the RELIN_KEY at `ka` (R364). -/
def State.latMulOp (s : State) (a b : LObj) (ka : Word) : LatRes :=
  let p := a.par
  let lev := min a.level.toNat b.level.toNat
  let qs := p.lower lev
  let x := s.ctAt a lev
  let y := s.ctAt b lev
  let k := s.swKeyAt ka p
  if !swKeyOk k lev then s.latFail 12
  else
    let uv := keySwitch k lev (rnsMul qs x.2 y.2)
    let e0 := rnsAdd qs (rnsMul qs x.1 y.1) uv.1
    let e1 := rnsAdd qs (rnsAdd qs (rnsMul qs x.1 y.2) (rnsMul qs x.2 y.1)) uv.2
    s.ctRes a (lev - 1) (dropOne p.t qs e0, dropOne p.t qs e1)

/-- ROTATE by the Galois element `g` with the ROTATION_KEY at `ka` (R365). -/
def State.latRotateOp (s : State) (a : LObj) (g : Nat) (ka : Word) : LatRes :=
  let p := a.par
  let lev := a.level.toNat
  let qs := p.lower lev
  let x := s.ctOf a
  let k := s.swKeyAt ka p
  if !swKeyOk k lev then s.latFail 12
  else
    let uv := keySwitch k lev (rnsAuto qs g x.2)
    s.ctRes a lev (rnsAdd qs (rnsAuto qs g x.1) uv.1, uv.2)

/-! ## Random polynomials (R366, R381) -/

/-- A ternary polynomial and one of centered binomial samples, from the CTR_DRBG. -/
def State.drawTernary (s : State) (n : Nat) : List Int × State :=
  let d := s.drbg ((n + 3) / 4)
  (ternaryPoly n d.1, d.2)
def State.drawCbd (s : State) (n : Nat) : List Int × State :=
  let d := s.drbg (6 * n)
  (cbdPoly n d.1, d.2)

/-- T·e + lift(m), over some limbs. -/
def noisy (qs : List Nat) (t : Nat) (e m : List Int) : Rns :=
  rnsOfInts qs (List.zipWith (fun (x y : Int) => (t : Int) * x + y) e m)

/-! ## ENCRYPT and DECRYPT (R366, R367) -/

/-- The coefficients of lift(m) for a plaintext object. -/
def State.liftInts (s : State) (o : LObj) : List Int :=
  liftPoly o.par.t (ptPoly o.par (o.enc == 1) (valuesOf 4 (s.objBody o)))

/-- ENCRYPT with the PUBLIC_KEY at `ka` (R366). -/
def State.encPk (s : State) (a : LObj) (ka : Word) : LatRes :=
  let p := a.par
  let b := readRns p.n p.l (s.keyPart ka 32 (p.l * p.limb))
  if !rnsInRange p.q b then s.latFail 12
  else
    let av := expandRns p.n p.q (List.range p.l) (s.keyPart ka 0 32) 4 0
    let du := s.drawTernary p.n
    let d0 := du.2.drawCbd p.n
    let d1 := d0.2.drawCbd p.n
    let u := rnsOfInts p.q du.1
    let zero : List Int := List.replicate p.n 0
    d1.2.ctRes { a with keyTag := hdTag (s.keyHdr ka) } (p.l - 1)
      (rnsAdd p.q (rnsMul p.q b u) (noisy p.q p.t d0.1 (s.liftInts a)),
       rnsAdd p.q (rnsMul p.q av u) (noisy p.q p.t d1.1 zero))

/-- ENCRYPT with SK: a seeded ciphertext (R366). -/
def State.encSk (s : State) (a : LObj) (seed : Bytes) : LatRes :=
  let p := a.par
  let ds := s.drbg 32
  let de := ds.2.drawCbd p.n
  let av := expandRns p.n p.q (List.range p.l) ds.1 2 0
  let c0 := rnsSub p.q (noisy p.q p.t de.1 (s.liftInts a)) (rnsMul p.q av (rnsOfInts p.q (secretKey p.n seed)))
  let body := ds.1 ++ writeRns c0
  { obj := some ({ kind := 2, level := byte (p.l - 1), enc := a.enc, logN := a.logN, flags := 1, bodyLen := body.length,
                   params := a.params, keyTag := keyTagOf seed }, body)
    lvl := some (p.l - 1), after := de.2 }

/-- A plaintext object of values below T. -/
def ptObj (a : LObj) (vals : List Nat) : LObj × Bytes :=
  let body := vals.flatMap (leBytes 4)
  ({ kind := 3, enc := a.enc, logN := a.logN, bodyLen := body.length, params := a.params }, body)

/-- The plaintext polynomial a ciphertext decrypts to at level `lev` (R367). -/
def State.decryptAt (s : State) (a : LObj) (lev : Nat) (seed : Bytes) : List Nat :=
  let p := a.par
  let c := s.ctAt a lev
  decryptPoly p.t (p.lower lev) c.1 c.2 (secretKey p.n seed)

/-- DECRYPT (R367). -/
def State.latDecryptOp (s : State) (a : LObj) (seed : Bytes) : LatRes :=
  { obj := some (ptObj a (ptVals a.par (a.enc == 1) (s.decryptAt a a.level.toNat seed))), lvl := some 0, after := s }

/-! ## KEYGEN (R382, R390) -/

/-- Digits i = 0 … DNUM − 1 of a switching key from s' to s, with `a` of index `base` + i and kind `kind` (R382). -/
def State.genDigits (s : State) (n : Nat) (k : SwKey) (seed : Bytes) (kind base dnum : Nat) (sk sp : Rns) : Bytes × State :=
  let qs := k.q ++ k.p
  (List.range dnum).foldl (fun (acc : Bytes × State) i =>
    let a := expandRns n qs (List.range qs.length) seed kind (base + i)
    let e := acc.2.drawCbd n
    let b := rnsAdd qs (rnsSub qs (rnsOfInts qs (e.1.map fun x => (k.t : Int) * x)) (rnsMul qs a sk))
      (rnsScale qs (gadget k i) sp)
    (acc.1 ++ writeRns b, e.2)) ([], s)

/-- s' of a key: s² or s(X^g), over some limbs (R382). -/
def switchFrom (qs : List Nat) (sk : Rns) (g : Option Nat) : Rns :=
  match g with
  | none => rnsMul qs sk sk
  | some x => rnsAuto qs x sk

/-- b = −a·s + T·e + x over some limbs, with a of index 0. -/
def State.genMask (s : State) (n t : Nat) (qs : List Nat) (seed : Bytes) (kind : Nat) (sk x : Rns) : Bytes × State :=
  let a := expandRns n qs (List.range qs.length) seed kind 0
  let e := s.drawCbd n
  (writeRns (rnsAdd qs (rnsSub qs (rnsOfInts qs (e.1.map fun v => (t : Int) * v)) (rnsMul qs a sk)) x), e.2)

/-- The body of a REFRESH_KEY from its template (R390, R391). -/
def State.genRefresh (s : State) (p : LatParams) (tmpl seed sd : Bytes) : Bytes × State :=
  let k := parseRef tmpl
  let tt := p.t ^ k.e
  let lm := p.q ++ k.r
  let sw : SwKey := { q := lm, p := k.p, alpha := (p.l + k.m + k.dnum - 1) / k.dnum, t := tt, digits := [] }
  let all := lm ++ k.p
  let sk := secretKey p.n sd
  let bk := s.genMask p.n tt lm seed 7 (rnsOfInts lm sk) (rnsOfInts lm sk)
  let skAll := rnsOfInts all sk
  let relin := bk.2.genDigits p.n sw seed 7 1 k.dnum skAll (switchFrom all skAll none)
  let rots := ((List.range p.logN).zip (refGalois p)).foldl (fun (acc : Bytes × State) e =>
    let r := acc.2.genDigits p.n sw seed 7 (1 + k.dnum * (e.1 + 1)) k.dnum skAll (switchFrom all skAll (some e.2))
    (acc.1 ++ r.1, r.2)) ([], relin.2)
  (slice tmpl 0 (refHead k) ++ seed ++ (refGalois p).flatMap (leBytes 4) ++ bk.1 ++ relin.1 ++ rots.1, rots.2)

/-- The body of a key object of kind `kind` for the secret-key seed `sd` (R358, R382). -/
def State.genKey (s : State) (p : LatParams) (kind g : Nat) (tmpl sd : Bytes) : Bytes × State :=
  let d := s.drbg 32
  let seed := d.1
  let sk := secretKey p.n sd
  let sw : SwKey := { q := p.q, p := p.p, alpha := p.alpha, t := p.t, digits := [] }
  let all := p.q ++ p.p
  let skAll := rnsOfInts all sk
  let x := match kind with
    | 4 => d.2.genMask p.n p.t p.q seed 4 (rnsOfInts p.q sk) (rnsOfInts p.q (List.replicate p.n 0))
    | 5 => d.2.genDigits p.n sw seed 5 0 p.dnum skAll (switchFrom all skAll none)
    | 6 => d.2.genDigits p.n sw seed 6 0 p.dnum skAll (switchFrom all skAll (some g))
    | _ => d.2.genRefresh p tmpl seed sd
  (if kind = 7 then x.1 else seed ++ x.1, x.2)

/-- KEYGEN: a whole key object for ADDR, or BUFFER_SHORT (R362, R378, R391). -/
def State.latKeygenOp (s : State) (b : LObj) (arg addr len : Word) (sd : Bytes) : LatRes :=
  let p := b.par
  let kind := fld arg 0 8
  let tmpl := s.rdBytes (addr.toNat + 64) refHeadMax
  if kind = 7 ∧ !refOk p tmpl then s.latFail 11
  else
    let total := 64 + (if kind = 7 then refLen p (parseRef tmpl) else kindLen p kind 0 true)
    if len.toNat < total then s.latFail 20
    else
      let g := s.genKey p kind (fld arg 8 24) tmpl sd
      let o : LObj := { kind := byte kind, logN := byte p.logN, flags := 1, bodyLen := g.1.length, params := b.params,
                        keyTag := keyTagOf sd, galois := if kind = 6 then w32 (fld arg 8 24) else 0 }
      { bytes := objHeader o ++ g.1, r := some (w32 total), after := g.2 }

/-! ## IMPORT, EXPORT, COPY -/

/-- IMPORT: the body checked and taken (R355, R356, R375, R392). [DEDUCED, log 117] -/
def State.latImportOp (s : State) (params : Bytes) (addr : Word) : LatRes :=
  let h := s.rdBytes addr.toNat 64
  let body := s.rdBytes (addr.toNat + 64) (hdLen h)
  let own := hdKind h == 1
  let ps := if own then body else params
  let p := parseParams ps
  if own && !(paramsOk body && hdDigest h == paramDigest body && hdrSized p h body) then s.latFail 11
  else if !bodyInRange p h body then s.latFail 12
  else { obj := some (objOfHdr h ps, body), lvl := some (hdLevel h), after := s }

/-- EXPORT: header and body for ADDR, or BUFFER_SHORT (R362, R378). -/
def State.latExportOp (s : State) (a : LObj) (len : Word) : LatRes :=
  if len.toNat < 64 + a.bodyLen then s.latFail 20
  else { bytes := objHeader a ++ s.objBody a, r := some (w32 (64 + a.bodyLen)), lvl := some a.level.toNat, after := s }

/-- COPY: an equal object. -/
def State.latCopyOp (s : State) (a : LObj) : LatRes :=
  { obj := some ({ a with grans := [], damaged := false }, s.objBody a), lvl := some a.level.toNat, after := s }

/-! ## REFRESH (R393-R395) -/

/-- A polynomial with free coefficients over some limbs. -/
def State.drawRns (s : State) (n : Nat) (qs : List Nat) : Rns × State :=
  let d := s.drbg (8 * n * qs.length)
  (List.zipWith (fun (q : Nat) (l : Limb) => l.map (· % q)) qs (readRns n qs.length d.1), d.2)

/-- A filled slot holds the lattice secret key of a tag. -/
def State.seedOfTag (s : State) (tag : Bytes) : Option Bytes :=
  (s.vault.slots.find? fun e => e.2.typ == 0x30 && keyTagOf e.2.key == tag).map fun e => e.2.key

/-- The LUT applied to a value; `none` is the identity (R392). -/
def lutOf (t : Option (List Nat)) (x : Nat) : Nat := match t with
  | none => x
  | some vs => vs.getD x 0

/-- REFRESH of `a` with the REFRESH_KEY at `ka` and a LUT: a ciphertext at level L − 1 that encrypts f of each value. The bytes of
its components depend on the linear maps of R395, which the spec does not give: they are free values that decrypt to f(m)
under the secret key of the tag, where a slot holds that key. [DESIGN CHOICE, log 126] -/
def State.latRefreshOp (s : State) (a : LObj) (lut : Option (List Nat)) (ka : Word) : LatRes :=
  let p := a.par
  let h := s.keyHdr ka
  if !bodyInRange p h (s.keyPart ka 0 (hdLen h)) then s.latFail 12
  else
    let d1 := s.drawRns p.n p.q
    match s.seedOfTag a.keyTag with
    | none =>
      let d0 := d1.2.drawRns p.n p.q
      d0.2.ctRes a (p.l - 1) (d0.1, d1.1)
    | some sd =>
      let batch := a.enc == 1
      let vals := (ptVals p batch (s.decryptAt a 0 sd)).map (lutOf lut)
      let e := d1.2.drawCbd p.n
      let c0 := rnsSub p.q (noisy p.q p.t e.1 (liftPoly p.t (ptPoly p batch vals)))
        (rnsMul p.q d1.1 (rnsOfInts p.q (secretKey p.n sd)))
      e.2.ctRes a (p.l - 1) (c0, d1.1)

end Sys2Proof.Machine
end

