-- ==== Sys2Proof/Machine/Lattice.lean ====
section
/-! DEFINITION. Lattice jobs: submission and its checks, commitment, cancel, fused steps, vat errors (R362-R378, R384-R389). -/

namespace Sys2Proof.Machine

open Sys2Proof

/-! ## What an OP uses (R362) -/

def latOp (op : Word) : Nat := fld op 0 8
def latKnown : List Nat := [0x01, 0x02, 0x03, 0x04, 0x08, 0x10, 0x11, 0x20, 0x21, 0x22, 0x23, 0x24, 0x25, 0x26, 0x30, 0x31,
  0x32, 0x40]
/-- OPs with an operand A. -/
def latUsesA (o : Nat) : Bool := o != 0x01 && o != 0x08
/-- OPs with an operand B but for IMPORT and REFRESH, which have one on a condition. -/
def latUsesB (o : Nat) : Bool := [0x08, 0x20, 0x21, 0x23, 0x24, 0x25, 0x30].contains o
/-- OPs whose result is an object. -/
def latMakes (o : Nat) : Bool := !([0x02, 0x03, 0x08].contains o)
/-- The kind of key object at KADDR, 0 for none. -/
def latKeyKind (o : Nat) (kaddr : Word) : Nat :=
  match o with
  | 0x10 => if kaddr = 0 then 0 else 4
  | 0x30 => 5
  | 0x31 => 6
  | 0x40 => 7
  | _ => 0
/-- OPs that use SK. -/
def latUsesSk (o : Nat) (kaddr : Word) : Bool := o == 0x08 || o == 0x11 || (o == 0x10 && kaddr == 0)

/-- The ports as a job latches them (R372). -/
def latLatch (p : LatPage) : LatJob :=
  { op := p.op, a := p.a, b := p.b, dst := p.dst, sk := p.sk, kaddr := p.kaddr, addr := p.addr, len := p.len, arg := p.arg,
    cfg := p.cfg, rkey := p.rkey }

/-- Readable or writable bytes for a requester (R373 check 3): keystone code may also read user flash (R212). [DEDUCED, log 119] -/
def State.latRange (s : State) (c : Ctx) (a len : Nat) (write : Bool) : Bool :=
  s.engineRange c a len write ||
  match c with
  | .keystone => !write && inRange a len flashBase (flashEnd - flashBase)
  | .cask _ => false

/-- The operand objects A and B, by their handles. -/
def State.latA (s : State) (n : Nat) (j : LatJob) : LObj := match s.objOf n j.a with
  | some e => e.2
  | none => {}
def State.latB (s : State) (n : Nat) (j : LatJob) : LObj := match s.objOf n j.b with
  | some e => e.2
  | none => {}

/-- IMPORT of a PARAMS object, which needs no B (R362). -/
def State.importsParams (s : State) (n : Nat) (j : LatJob) : Bool :=
  s.latRange (ctxOf n) j.addr.toNat 64 false && hdKind (s.rdBytes j.addr.toNat 64) == 1

/-- The job uses operand B. -/
def State.latNeedsB (s : State) (n : Nat) (j : LatJob) : Bool :=
  latUsesB (latOp j.op) || (latOp j.op == 0x01 && !s.importsParams n j) || (latOp j.op == 0x40 && j.b != 0)

/-! ## Checks of R373 -/

/-- A Galois element is odd and in [3, 2N − 1] (R365). -/
def galoisOk (p : LatParams) (g : Nat) : Bool := g % 2 == 1 && decide (3 ≤ g) && decide (g < 2 * p.n)

/-- Check 1: OP known, reserved bits 0, ARG in range. A range that depends on an operand is checked against the operand when its
handle is valid. [DESIGN CHOICE, log 40] -/
def State.latCheck1 (s : State) (n : Nat) (j : LatJob) : Bool :=
  let o := latOp j.op
  latKnown.contains o && fld j.op 8 8 == 0 && fld j.op 22 10 == 0 &&
  (match o with
   | 0x08 =>
     let kind := fld j.arg 0 8
     decide (4 ≤ kind) && decide (kind ≤ 7) &&
       (kind != 6 || (s.objOf n j.b).isNone || galoisOk (s.latB n j).par (fld j.arg 8 24))
   | 0x26 => (s.objOf n j.a).isNone || decide (j.arg.toNat < (s.latA n j).par.t)
   | 0x31 => (s.objOf n j.a).isNone || galoisOk (s.latA n j).par j.arg.toNat
   | 0x32 => decide (1 ≤ j.arg.toNat)
   | _ => true)

/-- A handle names an object that is not DAMAGED. -/
def State.latSound (s : State) (n : Nat) (h : Word) : Bool := match s.objOf n h with
  | some e => !e.2.damaged
  | none => false

/-- Check 2: the handles OP uses. [DEDUCED, log 117] -/
def State.latCheck2 (s : State) (n : Nat) (j : LatJob) : Bool :=
  let o := latOp j.op
  (!latUsesA o || (if o = 0x03 then (s.objOf n j.a).isSome else s.latSound n j.a)) &&
  (!s.latNeedsB n j || s.latSound n j.b) && (!latMakes o || j.dst == 0 || s.latSound n j.dst)

/-- A MUL at ℓ = 0 that AUTO_REFRESH may serve (R370). [DEDUCED, log 118] -/
def State.wantsRefresh (s : State) (n : Nat) (j : LatJob) : Bool :=
  latOp j.op == 0x30 && j.cfg && j.rkey != 0 &&
    ((s.latA n j).level == 0 || (s.latB n j).level == 0)

/-- The range of a key object: its header, and as many bytes as the header says. -/
def State.keyRange (s : State) (c : Ctx) (a : Word) : Bool :=
  s.latRange c a.toNat 64 false && s.latRange c a.toNat (64 + hdLen (s.keyHdr a)) false

/-- Check 3: the ranges of ADDR, LEN, KADDR and RKEY. -/
def State.latCheck3 (s : State) (n : Nat) (j : LatJob) : Bool :=
  let o := latOp j.op
  let c := ctxOf n
  (o != 0x01 || s.latRange c j.addr.toNat j.len.toNat false) &&
  (!(o == 0x02 || o == 0x08) || s.latRange c j.addr.toNat j.len.toNat true) &&
  (!(o == 0x08 && fld j.arg 0 8 == 7) || s.latRange c j.addr.toNat j.len.toNat false) &&
  (latKeyKind o j.kaddr == 0 || s.keyRange c j.kaddr) && (!s.wantsRefresh n j || s.keyRange c j.rkey)

/-- Check 5: the code that refuses SK, 0 when it passes (R367, R373). -/
def State.latSkCode (s : State) (n : Nat) (j : LatJob) : Nat :=
  let dec := latOp j.op == 0x11
  match s.keyOf (ctxOf n) j.sk with
  | none => 1
  | some k =>
    if k.typ ≠ 0x30 then 4
    else if !polOk k.policy (if dec then polDecrypt else polEncrypt) then 3
    else if dec && !s.granted (ctxOf n) 8 then 16
    else 0

/-- The seed of SK. [DEDUCED, log 121] -/
def State.latSeed (s : State) (n : Nat) (j : LatJob) : Bytes := match s.keyOf (ctxOf n) j.sk with
  | some k => k.key
  | none => []

/-- Two objects under one parameter set. -/
def sameParams (a b : LObj) : Bool := paramDigest a.params == paramDigest b.params

/-- Check 6 on the kinds and bindings of A and B: true when they match (R373). -/
def State.latMatch (s : State) (n : Nat) (j : LatJob) : Bool :=
  let o := latOp j.op
  let a := s.latA n j
  let b := s.latB n j
  let ct := a.kind == 2
  let two := ct && b.kind == 2 && sameParams a b && a.keyTag == b.keyTag && a.enc == b.enc
  let plain := ct && b.kind == 3 && sameParams a b && a.enc == b.enc
  match o with
  | 0x01 => s.importsParams n j || (b.kind == 1 && hdDigest (s.rdBytes j.addr.toNat 64) == paramDigest b.params)
  | 0x08 => b.kind == 1
  | 0x10 => a.kind == 3
  | 0x11 => ct && a.keyTag == keyTagOf (s.latSeed n j)
  | 0x20 | 0x21 | 0x30 => two
  | 0x23 | 0x24 | 0x25 => plain
  | 0x22 | 0x26 | 0x31 | 0x32 => ct
  | 0x40 => ct && (j.b == 0 || (b.kind == 8 && sameParams a b && decide (a.par.t ≤ 4096)))
  | _ => true

/-- Check 6 on the header of an IMPORT (R375). -/
def State.latImportForm (s : State) (n : Nat) (j : LatJob) : Bool :=
  let h := s.rdBytes j.addr.toNat 64
  decide (64 ≤ j.len.toNat) && hdrStatic h && j.len.toNat == 64 + hdLen h &&
  (s.importsParams n j || hdrSized (s.latB n j).par h (s.rdBytes (j.addr.toNat + 64) (hdLen h)))

/-- Check 6 in whole: the code, 0 when it passes. [DEDUCED, log 117] -/
def State.latCheck6 (s : State) (n : Nat) (j : LatJob) : Nat :=
  let o := latOp j.op
  let kind := latKeyKind o j.kaddr
  let a := s.latA n j
  if o = 0x01 ∧ !(decide (64 ≤ j.len.toNat) && hdrStatic (s.rdBytes j.addr.toNat 64)) then 11
  else if !s.latMatch n j then 6
  else if o = 0x01 ∧ !s.latImportForm n j then 11
  else if kind = 0 then 0
  else s.keyCheck j.kaddr kind a.params (if kind = 4 then none else some a.keyTag) j.arg

/-- R370 applies: RKEY names a valid REFRESH_KEY for the operands' KEY_TAG. The code of a key that breaks its format, or whether it
serves. [DEDUCED, log 118] -/
def State.refreshServes (s : State) (n : Nat) (j : LatJob) : Except Nat Bool :=
  if !s.wantsRefresh n j then .ok false
  else match s.keyCheck j.rkey 7 (s.latA n j).params (some (s.latA n j).keyTag) 0 with
    | 0 => .ok true
    | 11 => .error 11
    | _ => .ok false

/-- Granules of the refresh intermediates: 6 ciphertexts over L + M limbs (R395). [DESIGN CHOICE, log 126] -/
def State.refreshScratch (s : State) (a : LObj) (ka : Word) : Nat :=
  6 * granules (2 * (a.par.l + (parseRef (s.keyPart ka 0 refHeadMax)).m) * a.par.limb)

/-- Body bytes of the result (R362). -/
def State.latResultLen (s : State) (n : Nat) (j : LatJob) : Nat :=
  let a := s.latA n j
  let b := s.latB n j
  let p := a.par
  let la := a.level.toNat
  let lev := min la b.level.toNat
  match latOp j.op with
  | 0x01 => hdLen (s.rdBytes j.addr.toNat 64)
  | 0x04 => a.bodyLen
  | 0x10 => ctLen p (p.l - 1) (j.kaddr == 0)
  | 0x11 => 4 * p.n
  | 0x20 | 0x21 => ctLen p lev false
  | 0x30 => ctLen p (lev - 1) false
  | 0x32 => ctLen p (la - j.arg.toNat) false
  | 0x40 => ctLen p (p.l - 1) false
  | 0x02 | 0x03 | 0x08 => 0
  | _ => ctLen p la false

/-- The granules a job reserves (R373 check 8). [DEDUCED, log 118] -/
def State.latNeed (s : State) (n : Nat) (j : LatJob) (refresh : Bool) : Nat :=
  granules (if refresh then ctLen (s.latA n j).par ((s.latA n j).par.l - 1) false else s.latResultLen n j) +
  (if latOp j.op = 0x40 then s.refreshScratch (s.latA n j) j.kaddr
   else if refresh then s.refreshScratch (s.latA n j) j.rkey else 0)

/-- Check 7: levels are exhausted (R369). -/
def State.latExhausted (s : State) (n : Nat) (j : LatJob) : Bool :=
  match latOp j.op with
  | 0x30 => min (s.latA n j).level.toNat (s.latB n j).level.toNat == 0
  | 0x32 => decide ((s.latA n j).level.toNat < j.arg.toNat)
  | _ => false

/-- A is registered as a tally of a region of its owner (R376). [DEDUCED, log 150] -/
def State.isTally (s : State) (n : Nat) (h : Word) : Bool :=
  h != 0 && s.frame.regions.any fun e => e.2.valid && e.2.owner.toNat == n && e.2.cur.tally == h

/-- Checks 7 to 9, then IN_USE: the granules to reserve, or the code. [DEDUCED, log 117] -/
def State.latCheck789 (s : State) (n : Nat) (j : LatJob) (refresh : Bool) : Except Nat Nat :=
  let o := latOp j.op
  let need := s.latNeed n j refresh
  if s.latExhausted n j && !refresh then .error 7
  else if latMakes o && j.dst == 0 && s.freeEntry.isNone then .error 9
  else if !s.vatRoom n need then .error 8
  else if (o == 0x10 || o == 0x08) && s.vault.rngFail then .error 18
  else if o == 0x03 && s.isTally n j.a then .error 19
  else .ok need

/-- Every check in table order: the granules to reserve, or the code (R373, R388). [DEDUCED, log 117] -/
def State.latCheck (s : State) (n : Nat) (j : LatJob) : Except Nat Nat :=
  if s.lanesOut then .error 14
  else if !s.latCheck1 n j then .error 2
  else if !s.latCheck2 n j then .error 5
  else if !s.latCheck3 n j then .error 10
  else if !s.vault.rootOk then .error 17
  else
    let sk := if latUsesSk (latOp j.op) j.kaddr then s.latSkCode n j else 0
    if sk ≠ 0 then .error sk
    else
      let k := s.latCheck6 n j
      if k ≠ 0 then .error k
      else match s.refreshServes n j with
        | .error e => .error e
        | .ok r => s.latCheck789 n j r

/-! ## GO, CANCEL (R372, R377) -/

/-- LAT.GO (R372, R373). [DEDUCED, log 120] -/
def State.latGo (s : State) (c : Ctx) : State :=
  let n := ctxNum c
  let p := s.latPage n
  if p.job.isSome then s.setLat n { p with refused := true }
  else
    let j := latLatch p
    let j1 : LatJob := match s.latCheck n j with
      | .error e => { j with code := some (byte e) }
      | .ok need => { j with need := need }
    ((s.setLat n { p with refused := false, refreshed := false, job := some j1 }).ungate 40 64).latGoOn

/-- LAT.CANCEL: a job that waits for a lane has no step to end (R377). -/
def State.latCancelJob (s : State) (c : Ctx) : State :=
  match (s.latPage (ctxNum c)).job with
  | none => s
  | some j =>
    if j.code.isSome then s
    else s.setLatJob (ctxNum c) (if j.lane.isSome then { j with cancel := true } else { j with code := some 13, need := 0 })

/-- A LAT row: the context sets OP with the row's code, then GO. -/
def State.latRow (s : State) (c : Ctx) (op : Word) (code : Word) : Host.Outcome State Fault Refusal :=
  .next (if s.canTrigger c ∧ s.granted c 1 then
    (s.setLat (ctxNum c) { s.latPage (ctxNum c) with op := (op &&& 0xFFFFFF00) ||| code }).latGo c
  else s)

def execLatImport (c : Ctx) (op : Word) (s : State) : Host.Outcome State Fault Refusal := s.latRow c op 0x01
def execLatExport (c : Ctx) (op : Word) (s : State) : Host.Outcome State Fault Refusal := s.latRow c op 0x02
def execLatFree (c : Ctx) (op : Word) (s : State) : Host.Outcome State Fault Refusal := s.latRow c op 0x03
def execLatCopy (c : Ctx) (op : Word) (s : State) : Host.Outcome State Fault Refusal := s.latRow c op 0x04
def execLatKeygen (c : Ctx) (op : Word) (s : State) : Host.Outcome State Fault Refusal := s.latRow c op 0x08
def execLatEncrypt (c : Ctx) (op : Word) (s : State) : Host.Outcome State Fault Refusal := s.latRow c op 0x10
def execLatDecrypt (c : Ctx) (op : Word) (s : State) : Host.Outcome State Fault Refusal := s.latRow c op 0x11
def execLatAdd (c : Ctx) (op : Word) (s : State) : Host.Outcome State Fault Refusal := s.latRow c op 0x20
def execLatSub (c : Ctx) (op : Word) (s : State) : Host.Outcome State Fault Refusal := s.latRow c op 0x21
def execLatNeg (c : Ctx) (op : Word) (s : State) : Host.Outcome State Fault Refusal := s.latRow c op 0x22
def execLatPadd (c : Ctx) (op : Word) (s : State) : Host.Outcome State Fault Refusal := s.latRow c op 0x23
def execLatPsub (c : Ctx) (op : Word) (s : State) : Host.Outcome State Fault Refusal := s.latRow c op 0x24
def execLatPmul (c : Ctx) (op : Word) (s : State) : Host.Outcome State Fault Refusal := s.latRow c op 0x25
def execLatCmul (c : Ctx) (op : Word) (s : State) : Host.Outcome State Fault Refusal := s.latRow c op 0x26
def execLatMul (c : Ctx) (op : Word) (s : State) : Host.Outcome State Fault Refusal := s.latRow c op 0x30
def execLatRotate (c : Ctx) (op : Word) (s : State) : Host.Outcome State Fault Refusal := s.latRow c op 0x31
def execLatDrop (c : Ctx) (op : Word) (s : State) : Host.Outcome State Fault Refusal := s.latRow c op 0x32
def execLatRefresh (c : Ctx) (op : Word) (s : State) : Host.Outcome State Fault Refusal := s.latRow c op 0x40

/-- LAT_CANCEL (R377). -/
def execLatCancel (c : Ctx) (s : State) : Host.Outcome State Fault Refusal :=
  .next (if s.canTrigger c ∧ s.granted c 1 then s.latCancelJob c else s)

/-! ## Completion (R372, R374) -/

/-- A job completes: RESULT, R and LVL written, ACTIVE cleared, LINE raised when EVENT is 1. R and LVL are free values where the
spec states none (R372). A job whose page was drained reports nothing (R377). [DESIGN CHOICE, log 42] -/
def State.latComplete (s : State) (n : Nat) (code : Nat) (r : Option Word) (lvl : Option Nat) : State :=
  match (s.latPage n).job with
  | none => s
  | some j =>
    let s0 := { s with lat := { s.lat with deficit := tdel s.lat.deficit n } }
    if j.discard then (s0.setLat n {}).latGoOn
    else
      let x := s0.orFree r
      let y := x.2.orFree (lvl.map w32)
      let s1 := y.2.setLat n { y.2.latPage n with job := none, result := byte code, r := x.1, lvl := bv y.1 0 6 }
      let s2 := if bit j.op 21 then s1.raiseLine (ctxOf n) (fld j.op 16 5) else s1
      s2.latGoOn

/-- A result committed to the entry `e`: its old granules zeroized and freed, the new ones mapped (R374). -/
def State.commitObj (s : State) (e n : Nat) (incarn : BitVec 16) (x : LObj × Bytes) : State :=
  let s1 := s.freeObj e
  let g := s1.storeBody x.2
  { g.2 with lat := { g.2.lat with objs := tset g.2.lat.objs e { x.1 with owner := n, incarn := incarn, grans := g.1 } } }

/-- A result committed to DST, or to a new entry with a fresh INCARN: the handle and the state (R351, R374). -/
def State.commitDst (s : State) (n : Nat) (dst : Word) (x : LObj × Bytes) : Word × State :=
  match s.objOf n dst with
  | some e => (dst, s.commitObj e.1 n e.2.incarn x)
  | none => match s.freeEntry with
    | none => (0, s)
    | some i =>
      let d := s.drbg 2
      let inc := leNat d.1 % 65535 + 1
      (w32 (i + inc * 2 ^ 16), d.2.commitObj i n (BitVec.ofNat 16 inc) x)

/-- One operand refreshed in place when its level is 0 (R370). -/
def State.autoRefresh (s : State) (n : Nat) (h ka : Word) : Nat × State :=
  match s.objOf n h with
  | none => (5, s)
  | some e =>
    if e.2.level ≠ 0 then (0, s)
    else
      let x := s.latRefreshOp e.2 none ka
      match x.obj with
      | none => (x.code, x.after)
      | some o =>
        let s1 := x.after.commitObj e.1 n e.2.incarn o
        (0, s1.setLat n { s1.latPage n with refreshed := true })

/-- The key object of a job, checked again as it is read (R375). -/
def State.latKeyNow (s : State) (n : Nat) (j : LatJob) : Nat :=
  let kind := latKeyKind (latOp j.op) j.kaddr
  let a := s.latA n j
  if kind = 0 then 0 else s.keyCheck j.kaddr kind a.params (if kind = 4 then none else some a.keyTag) j.arg

/-- The LUT of a REFRESH: the identity for B = 0 (R392). -/
def State.latLut (s : State) (n : Nat) (j : LatJob) : Option (List Nat) :=
  if j.b = 0 then none else some (valuesOf 2 (s.objBody (s.latB n j)))

/-- The operation of a job whose checks have passed (R362). -/
def State.latRun (s : State) (n : Nat) (j : LatJob) : LatRes :=
  let a := s.latA n j
  let b := s.latB n j
  let key := s.latKeyNow n j
  if key ≠ 0 then s.latFail key
  else match latOp j.op with
  | 0x01 => s.latImportOp b.params j.addr
  | 0x02 => s.latExportOp a j.len
  | 0x04 => s.latCopyOp a
  | 0x08 => s.latKeygenOp b j.arg j.addr j.len (s.latSeed n j)
  | 0x10 => if j.kaddr = 0 then s.encSk a (s.latSeed n j) else s.encPk a j.kaddr
  | 0x11 => s.latDecryptOp a (s.latSeed n j)
  | 0x20 => s.latBinary rnsAdd a b
  | 0x21 => s.latBinary rnsSub a b
  | 0x22 => s.latUnary rnsNeg a
  | 0x23 => s.latPlain rnsAdd a b
  | 0x24 => s.latPlain rnsSub a b
  | 0x25 => s.latPmul a b
  | 0x26 => s.latUnary (fun qs => rnsScale qs (centered j.arg.toNat a.par.t)) a
  | 0x30 => if min a.level.toNat b.level.toNat = 0 then s.latFail 7 else s.latMulOp a b j.kaddr
  | 0x31 => s.latRotateOp a j.arg.toNat j.kaddr
  | 0x32 => s.latDropOp a j.arg.toNat
  | 0x40 => s.latRefreshOp a (s.latLut n j) j.kaddr
  | _ => s.latFail 2

/-- A job that has run: its result committed and the job completed, or its status reported (R374). -/
def State.latFinish (s : State) (n : Nat) (j : LatJob) : State :=
  if latOp j.op = 0x03 then
    match s.objOf n j.a with
    | some e => (s.freeObj e.1).latComplete n 0 none none
    | none => s.latComplete n 5 none none
  else
    let x := s.latRun n j
    if x.code ≠ 0 then x.after.latComplete n x.code none none
    else match x.obj with
      | some o =>
        let r := x.after.commitDst n j.dst o
        r.2.latComplete n 0 (some r.1) x.lvl
      | none => (x.after.engineWrite (ctxOf n) j.addr.toNat x.bytes).latComplete n 0 x.r x.lvl

/-- The whole of a job: a MUL that R370 serves refreshes A, then B, before it multiplies. -/
def State.latWork (s : State) (n : Nat) (j : LatJob) : State :=
  if s.wantsRefresh n j then
    let r1 := s.autoRefresh n j.a j.rkey
    if r1.1 ≠ 0 then r1.2.latComplete n r1.1 none none
    else
      let r2 := r1.2.autoRefresh n j.b j.rkey
      if r2.1 ≠ 0 then r2.2.latComplete n r2.1 none none else r2.2.latFinish n j
  else s.latFinish n j

/-- LAT_JOB_DONE (R372). [DEDUCED, log 120] -/
def execLatJobDone (c : Ctx) (s : State) : Host.Outcome State Fault Refusal :=
  let n := ctxNum c
  .next (match (s.latPage n).job with
    | none => s
    | some j =>
      if ¬ s.alive then s
      else match j.code, j.lane with
        | some e, _ => s.latComplete n e.toNat none none
        | none, none => s
        | none, some _ => if j.cancel ∨ j.discard then s.latComplete n 13 none none else s.latWork n j)

/-! ## Fused steps (R377, R384, R389) -/

/-- OPs whose work is key-switching sequences, between which alone lanes are arbitrated (R384). -/
def latSequenced (o : Nat) : Bool := o == 0x30 || o == 0x31 || o == 0x40

/-- The job gives its lane up to the shares of R264 when another waits. -/
def State.latYield (s : State) (n : Nat) (j : LatJob) : State :=
  if s.latWaiting = [] then s else (s.setLatJob n { j with lane := none }).latGoOn

/-- LAT_FUSED_STEP_END: a cancel or a drain takes effect; at the end of a sequence the lane is arbitrated. Whether a fused step of
a key-switched operation is the last of its sequence is free. [DEDUCED, log 120] -/
def execLatFusedStepEnd (lane : Fin 8) (s : State) : Host.Outcome State Fault Refusal :=
  .next (match s.laneJob lane.val with
    | none => s
    | some (n, j) =>
      if ¬ s.alive then s
      else if j.discard ∨ j.cancel then s.latComplete n 13 none none
      else if latSequenced (latOp j.op) then
        let d := s.drawNat
        if d.1 % 2 = 0 then d.2.latYield n j else d.2
      else s.latYield n j)

/-! ## Vat errors (R377) -/

/-- LAT_FAULT and keystone line 13 (R377, R379). -/
def State.latFault (s : State) (n : Nat) (lane : Nat) : State :=
  ({ s with lat := { s.lat with faultPage := BitVec.ofNat 11 n, faultLane := BitVec.ofNat 3 lane, faultNew := true } }
    : State).ksLine lineEngineFault

/-- The running job of a page reads the object of entry `e`. -/
def jobNames (j : LatJob) (e : Nat) : Bool :=
  let o := latOp j.op
  j.lane.isSome && ((latUsesA o && fld j.a 0 12 == e) ||
    ((latUsesB o || o == 0x01 || (o == 0x40 && j.b != 0)) && fld j.b 0 12 == e))

/-- VAT_ECC_ERROR: the object that holds the granule is DAMAGED, LAT_FAULT and line 13 are set, the job that reads it ends (R377). -/
def execVatEccError (granule : Fin 2048) (s : State) : Host.Outcome State Fault Refusal :=
  .next (match s.lat.objs.find? fun e => e.2.grans.contains granule.val with
    | none => s
    | some (e, o) =>
      let s1 := { s with lat := { s.lat with objs := tset s.lat.objs e { o with damaged := true } } }
      match (s.latPage o.owner).job with
      | none => s1.latFault o.owner s.lat.faultLane.toNat
      | some j =>
        let lane := match j.lane with
          | some l => l.val
          | none => s.lat.faultLane.toNat
        let s2 := s1.latFault o.owner lane
        if jobNames j e then s2.latComplete o.owner 15 none none else s2)

end Sys2Proof.Machine
end

