-- ==== Sys2Proof/Machine/PublicKey.lean ====
section
/-! DEFINITION. The public-key services on lanes and on the PKE unit, and lane faults (R387, R388, R397-R400). The algorithms
themselves are the standards': constants of Config without a body. -/

namespace Sys2Proof.Machine

open Sys2Proof

/-! ## Sizes (R399) -/

/-- Bytes of a public key of a TYPE, and of its ciphertext or signature. [DESIGN CHOICE, log 123] -/
def pubLen (typ : Nat) : Nat :=
  match typ with
  | 0x10 => 65
  | 0x11 => 97
  | 0x20 => 1184
  | 0x21 => 1568
  | 0x22 => 1952
  | 0x23 => 2592
  | _ => 32
/-- [DESIGN CHOICE, log 123] -/
def sigLen (typ : Nat) : Nat :=
  match typ with
  | 0x11 => 96
  | 0x20 => 1088
  | 0x21 => 1568
  | 0x22 => 3309
  | 0x23 => 4627
  | _ => 64

/-- The TYPEs an operation serves (R398). -/
def pkeTypes (op : Nat) : List Nat :=
  match op with
  | 1 | 2 | 3 => [0x20, 0x21]
  | 4 | 5 | 6 => [0x22, 0x23]
  | 7 => [0x10, 0x11, 0x12, 0x13]
  | 8 | 9 => [0x10, 0x11, 0x12]
  | _ => [0x10, 0x11, 0x13]

/-- Operations on the handle in ARG0, and the policy bit each needs (R398). -/
def pkePolicy (op : Nat) : Option Nat :=
  match op with
  | 3 => some polDecrypt
  | 5 | 8 => some polSign
  | 10 => some polDerive
  | _ => none

/-- Operations that fill a slot. -/
def pkeMakes (op : Nat) : Bool := [1, 2, 3, 4, 7, 10].contains op
/-- Operations that draw from the CTR_DRBG: those that fill a slot (INCARN), and signing but for Ed25519, which is
deterministic (R278, R399). [DESIGN CHOICE, log 124] -/
def pkeDraws (op typ : Nat) : Bool := pkeMakes op || op == 5 || (op == 8 && typ != 0x12)

/-! ## The transfer record (R397) -/

/-- An address and a length of the record at `a`. -/
def State.xfer (s : State) (a i : Nat) : Nat × Nat := (s.rdLe (a + 8 * i) 4, s.rdLe (a + 8 * i + 4) 4)
def State.xferBytes (s : State) (x : Nat × Nat) : Bytes := s.rdBytes x.1 x.2

/-- Lengths of A, B, C against what the operation needs (R398, R400): message lengths up to 64 KiB where it signs; C as a capacity
where it is an output. -/
def pkeLenOk (op typ : Nat) (a b c : Nat) : Bool :=
  match op with
  | 1 | 4 | 7 => decide (pubLen typ ≤ c)
  | 2 => a == pubLen typ && decide (sigLen typ ≤ c)
  | 3 => a == sigLen typ
  | 5 | 8 => decide (a ≤ 0x10000) && decide (sigLen typ ≤ c)
  | 6 | 9 => b == pubLen typ && c == sigLen typ
  | _ => a == pubLen typ && b == 16

/-- The ranges an operation uses satisfy R326. -/
def State.pkeRanges (s : State) (c : Ctx) (op : Nat) (a b k : Nat × Nat) : Bool :=
  let useA := !([1, 4, 7].contains op)
  let useB := op == 6 || op == 9 || op == 10
  let useC := !(op == 3 || op == 10)
  (!useA || s.engineRange c a.1 a.2 false) && (!useB || s.engineRange c b.1 b.2 false) &&
  (!useC || s.engineRange c k.1 k.2 (!(op == 6 || op == 9)))

/-! ## Operations (R398, R399) -/

/-- A key of the shared secret or the agreement: AES-256, POLICY and VOLATILE of the block. -/
def aesReq (r : Req) : Req := { r with typ := (r.typ &&& 0x80) ||| 0x02 }

/-- A key pair: a slot filled, the public key written to C. -/
def State.pkeKeygen (s : State) (c : Ctx) (r : Req) (out : Nat) (pub : Bytes → Bytes) : SvcRes :=
  let typ := fld r.typ 0 7
  let d := s.drbg ((materialLen typ).getD 32)
  let f := d.2.fillSlot c r.typ r.policy d.1
  { result := some f.1, after := f.2.engineWrite c out (slice (pub d.1) 0 (pubLen typ)) }

/-- d and z of an ML-KEM seed (R399). -/
def kemSeeds (seed : Bytes) : Bytes := shake128 ([0x4B] ++ seed) 64

/-- The operation itself, once every check has passed; `k` is the key in ARG0, empty where none is used. [DESIGN CHOICE, log 46] -/
def State.pkeRun (s : State) (c : Ctx) (op : Nat) (r : Req) (typ : Nat) (k : Bytes) (a b x : Nat × Nat) : SvcRes :=
  let ab := s.xferBytes a
  let bb := s.xferBytes b
  match op with
  | 1 => s.pkeKeygen c r x.1 fun m => Config.mlkemPublic typ (kemSeeds m)
  | 2 =>
    if !Config.mlkemCheck typ ab then s.svcFail 15
    else
      let d := s.drbg 32
      let e := Config.mlkemEncaps typ ab d.1
      let f := d.2.fillSlot c (aesReq r).typ r.policy (slice e 0 32)
      { result := some f.1, after := f.2.engineWrite c x.1 (slice e 32 (sigLen typ)) }
  | 3 => s.svcFill c (aesReq r) (slice (Config.mlkemDecaps typ (kemSeeds k) ab) 0 32)
  | 4 => s.pkeKeygen c r x.1 (Config.mldsaPublic typ)
  | 5 =>
    let d := s.drbg 32
    { result := some (w32 (sigLen typ)),
      after := d.2.engineWrite c x.1 (slice (Config.mldsaSign typ k ab d.1) 0 (sigLen typ)) }
  | 6 => if Config.mldsaVerify typ bb ab (s.xferBytes x) then { result := some 0, after := s } else s.svcFail 14
  | 7 => s.pkeKeygen c r x.1 (Config.ecPublic typ)
  | 8 =>
    let d := if typ = 0x12 then ([], s) else s.drbg 64
    { result := some (w32 (sigLen typ)),
      after := d.2.engineWrite c x.1 (slice (Config.ecSign typ k ab d.1) 0 (sigLen typ)) }
  | 9 =>
    if !Config.ecValid typ bb then s.svcFail 15
    else if Config.ecVerify typ bb ab (s.xferBytes x) then { result := some 0, after := s } else s.svcFail 14
  | _ =>
    if !Config.ecValid typ ab then s.svcFail 15
    else match Config.ecAgree typ k ab with
      | none => s.svcFail 15
      | some z => s.svcFill c (aesReq r) (sha256 ([0, 0, 0, 1] ++ z ++ bb))

/-- The key of an operation: TYPE of the block, or of the handle in ARG0 with its material. [DESIGN CHOICE, log 124] -/
def State.pkeKey (s : State) (c : Ctx) (op : Nat) (r : Req) : Except Nat (Nat × Bytes) :=
  match pkePolicy op with
  | none => if (pkeTypes op).contains (fld r.typ 0 7) then .ok (fld r.typ 0 7, []) else .error 4
  | some bitNo =>
    match s.keyOf c r.arg0 with
    | none => .error 1
    | some k =>
      if !(pkeTypes op).contains k.typ.toNat then .error 4
      else if !polOk k.policy bitNo then .error 3
      else .ok (k.typ.toNat, k.key)

/-- The checks and the operation (R288, R397-R400). [DESIGN CHOICE, log 124] -/
def State.pkeServe (s : State) (c : Ctx) (op : Nat) (r : Req) : SvcRes :=
  let ra := r.arg1.toNat
  let a := s.xfer ra 0
  let b := s.xfer ra 1
  let x := s.xfer ra 2
  if !s.vault.rootOk then s.svcFail 7
  else if op = 0 ∨ 10 < op then s.svcFail 17
  else if !s.granted c 9 then s.svcFail 11
  else match s.pkeKey c op r with
    | .error e => s.svcFail e
    | .ok (typ, k) =>
      let full := if pkeMakes op then s.slotRefusal c (bit r.typ 7) else none
      if op ≤ 6 ∧ s.lanesOut then s.svcFail 16
      else if !s.engineRange c ra 32 false || !s.pkeRanges c op a b x then s.svcFail 12
      else if !pkeLenOk op typ a.2 b.2 x.2 then s.svcFail 13
      else match full with
        | some e => s.svcFail e
        | none => if pkeDraws op typ && s.vault.rngFail then s.svcFail 8 else s.pkeRun c op r typ k a b x

/-! ## Submission and completion (R284) -/

/-- GO of the public-key block; ignored while a request of the block is pending (R284). -/
def State.pkeGo (s : State) (c : Ctx) : State :=
  if pendingReq s.vault.pkeQueue c then s
  else
    let b := s.readBlock c blkPke
    let s1 := s.clearDone c blkPke
    { s1 with vault := { s1.vault with
        pkeQueue := s1.vault.pkeQueue ++ [{ svc := .pke, ctx := c, op := byte b.1, req := b.2 }] } }

/-- A public-key row: the owner writes the block and GO. -/
def State.pkeRow (s : State) (c : Ctx) (op : Nat) (r : Req) : Host.Outcome State Fault Refusal :=
  .next (if s.canTrigger c then (s.loadBlock c blkPke op r).pkeGo c else s)

def execKemKeygen (c : Ctx) (r : Req) (s : State) : Host.Outcome State Fault Refusal := s.pkeRow c 1 r
def execKemEncaps (c : Ctx) (r : Req) (s : State) : Host.Outcome State Fault Refusal := s.pkeRow c 2 r
def execKemDecaps (c : Ctx) (r : Req) (s : State) : Host.Outcome State Fault Refusal := s.pkeRow c 3 r
def execDsaKeygen (c : Ctx) (r : Req) (s : State) : Host.Outcome State Fault Refusal := s.pkeRow c 4 r
def execDsaSign (c : Ctx) (r : Req) (s : State) : Host.Outcome State Fault Refusal := s.pkeRow c 5 r
def execDsaVerify (c : Ctx) (r : Req) (s : State) : Host.Outcome State Fault Refusal := s.pkeRow c 6 r
def execEcKeygen (c : Ctx) (r : Req) (s : State) : Host.Outcome State Fault Refusal := s.pkeRow c 7 r
def execEcSign (c : Ctx) (r : Req) (s : State) : Host.Outcome State Fault Refusal := s.pkeRow c 8 r
def execEcVerify (c : Ctx) (r : Req) (s : State) : Host.Outcome State Fault Refusal := s.pkeRow c 9 r
def execEcAgree (c : Ctx) (r : Req) (s : State) : Host.Outcome State Fault Refusal := s.pkeRow c 10 r

/-- The request served next: the oldest of keystone code, else the oldest (ch. 12, before R397). [DEDUCED, log 125] -/
def State.pkeNext (s : State) : Option Request :=
  match s.vault.pkeQueue.find? fun r => r.ctx == .keystone with
  | some r => some r
  | none => s.vault.pkeQueue.head?

/-- The request leaves the queue. -/
def State.pkeTake (s : State) (q : Request) : State :=
  { s with vault := { s.vault with pkeQueue := s.vault.pkeQueue.filter fun r => r.ctx ≠ q.ctx } }

/-- PKE_REQUEST_DONE (R284). [DEDUCED, log 125] -/
def execPkeRequestDone (s : State) : Host.Outcome State Fault Refusal :=
  .next (match s.pkeNext with
    | none => s
    | some q =>
      if s.alive then
        let x := (s.pkeTake q).pkeServe q.ctx q.op.toNat q.req
        x.after.completeBlock q.ctx blkPke x.result x.status q.req.line.toNat
      else s)

/-! ## Lane faults (R387, R388) -/

/-- A lane fails once more: it is tested, or stays out after the third time (R388). -/
def State.laneFails (s : State) (l : Nat) : State :=
  let f := (s.laneRec l).faults + 1
  s.setLaneRec l { faults := f, test := decide (f < 3) }

/-- LANE_FAULT: the job on the lane, or the lane service that a free lane runs, ends with LANE_FAULT; LAT_FAULT and line 13 are
set, the lane leaves service (R387, R388). [DEDUCED, log 125] -/
def execLaneFault (lane : Fin 8) (s : State) : Host.Outcome State Fault Refusal :=
  .next (if ¬ s.alive then s
    else match s.laneJob lane.val with
    | some (n, _) => ((s.laneFails lane.val).latFault n lane.val).latComplete n 14 none none
    | none =>
      match s.pkeNext with
      | none => s
      | some q =>
        if q.op.toNat ≤ 6 ∧ s.laneServes lane.val then
          (((s.laneFails lane.val).latFault (ctxNum q.ctx) lane.val).pkeTake q).completeBlock q.ctx blkPke none 16 q.req.line.toNat
        else s)

/-- LANE_TEST_DONE (R388). -/
def execLaneTestDone (lane : Fin 8) (pass : Bool) (s : State) : Host.Outcome State Fault Refusal :=
  .next (if s.alive ∧ (s.laneRec lane.val).test then
    (if pass then s.setLaneRec lane.val { s.laneRec lane.val with test := false } else s.laneFails lane.val).latGoOn
  else s)

end Sys2Proof.Machine
end

