-- ==== Sys2Proof/Machine/Hybrid.lean ====
section
/-! DEFINITION. The hybrid signature block and the debug certificate header (R45, R401-R403). -/

namespace Sys2Proof.Machine

open Sys2Proof

/-- Lengths of a hybrid block without and with keys (R401). -/
def hybridLen (keys : Bool) : Nat := if keys then 5472 else 3416

/-- The message both signatures are taken over: "KZN1-HYB", PURPOSE, SHA-384(content) (R402). -/
def hybridMessage (purpose : Nat) (content : Bytes) : Bytes := ascii "KZN1-HYB" ++ [byte purpose] ++ sha384 content

/-- The keys a block carries: ML-DSA-65 then P-384, 2,049 bytes (R401). -/
def hybridKeys (blk : Bytes) : Bytes := slice blk 8 2049

/-- A hybrid block over `content` is accepted: well formed, the right purpose, both signatures verify under `owner` keys, or,
with no owner keys, under embedded keys whose digest is the stored authority digest (R401-R403). [DEDUCED, log 127] -/
def hybridOk (authority : Option Bytes) (owner : Option Bytes) (useOwner : Bool) (purpose : Nat) (content blk : Bytes) : Bool :=
  let keysFlag := bit (blk.getD 5 0) 0
  let off := if keysFlag then 2064 else 8
  let formOk := wordAt blk 0 == 0x31425948 && blk.getD 4 0 == byte purpose && fld (blk.getD 5 0) 1 7 == 0 &&
    blk.getD 6 0 == 0 && blk.getD 7 0 == 0 && blk.length == hybridLen keysFlag &&
    (slice blk (off + 3405) 3).all (· == 0) && (!keysFlag || (slice blk 2057 7).all (· == 0))
  let keys : Option Bytes :=
    if useOwner then owner
    else if keysFlag && authority == some (sha384 (hybridKeys blk)) then some (hybridKeys blk)
    else none
  match keys with
  | none => false
  | some k =>
    let m := hybridMessage purpose content
    formOk && Config.mldsaVerify 0x22 (k.take 1952) m (slice blk off 3309) &&
      Config.ecVerify 0x11 (slice k 1952 97) m (slice blk (off + 3309) 96)

end Sys2Proof.Machine
end

