-- ==== Sys2Proof/Machine/Image.lean ====
section
/-! DEFINITION. The keystone image: its header and the checks of boot step 8 (R404). -/

namespace Sys2Proof.Machine

open Sys2Proof

/-- Header fields of an image (R404). -/
def imgVersion (h : Bytes) : Nat := (wordAt h 4).toNat
def imgLoad (h : Bytes) : Nat := (wordAt h 8).toNat
def imgEntry (h : Bytes) : Nat := (wordAt h 12).toNat
def imgLength (h : Bytes) : Nat := (wordAt h 16).toNat

/-- Check 1: the header is well formed (R404). -/
def imgHeaderOk (h : Bytes) : Bool :=
  wordAt h 0 == 0x4D49534B && imgLength h % 4 == 0 && decide (imgLength h ≤ 0x100000) &&
  inRange (imgLoad h) (imgLength h) sramBase sramSize &&
  imgEntry h % 4 == 0 && decide (imgLoad h ≤ imgEntry h) && decide (imgEntry h < imgLoad h + imgLength h) &&
  (leNat (slice h 0x18 8) == 0 || leNat (slice h 0x18 8) == Config.deviceId.toNat) &&
  wordAt h 20 == 0 && (slice h 0x20 32).all (· == 0)

/-- The hybrid block that follows header and body, as long as its KEYS flag says (R401, R404). -/
def imgBlock (img : Bytes) : Bytes :=
  let rest := img.drop (64 + imgLength img)
  rest.take (hybridLen (bit (rest.getD 5 0) 0))

/-- The checks of boot step 8 in order: 3 NO_IMAGE, 1 BAD_SIGNATURE, 2 OLD_VERSION, 0 OK (R404, R98). [DEDUCED, log 127] -/
def State.imageCheck (s : State) (ownerKeys : Option Bytes) (img : Bytes) : Nat :=
  if !imgHeaderOk (img.take 64) then 3
  else if !hybridOk none ownerKeys true 2 (img.take (64 + imgLength img)) (imgBlock img) then 1
  else match ctrVal (s.ctr ctrKsver) with
    | none => 2
    | some v => if imgVersion img < v then 2 else 0

/-- The stored keystone image, from the image area the owner record names. -/
def State.storedImage (s : State) : Bytes := s.rdBytes (sectorAddr s.life.imageSector) s.life.imageLen

end Sys2Proof.Machine
end

