-- ==== Sys2Proof/Machine/Life.lean ====
section
/-! DEFINITION. The TAP, the life-cycle sequencer, debug certificates and sessions, and the wipe (chapter 02). -/

namespace Sys2Proof.Machine

open Sys2Proof

/-! ## Registers of the LCS and DBG blocks -/

/-- Code of a life-cycle state (R29). -/
def lcsCode : Lcs → Nat
  | .blank => 0
  | .testLocked => 1
  | .testOpen => 2
  | .personal => 3
  | .owned => 4
  | .analysisPending => 5
  | .analysis => 6
  | .scrap => 7

/-- Code of a debug level (R40). -/
def levelCode : DbgLevel → Nat
  | .closed => 0
  | .bscan => 1
  | .observe => 2
  | .control => 3
  | .full => 4

/-- The level of a code 1-4. -/
def levelOf : Nat → DbgLevel
  | 1 => .bscan
  | 2 => .observe
  | 3 => .control
  | 4 => .full
  | _ => .closed

/-- A transition or wipe is running (R61). -/
def State.lcBusy (s : State) : Bool := s.life.wiping || s.life.toPending.isSome

/-- LCS_STATUS (R61). -/
def State.lcsStatus (s : State) : Word :=
  let wd := if s.life.wiping then (s.ctrNat ctrWipe - s.life.w0.toNat) % 32 else 0
  w32 (lcsCode s.life.state + s.ctrNat ctrTokcnt % 32 * 2 ^ 4 + wd * 2 ^ 9 +
    flag (s.life.wiping && s.life.target) 14 + flag s.lcBusy 15)

/-- Seconds left in the session, rounded up (R63). -/
def State.secondsLeft (s : State) : Nat :=
  match s.dbg.session with
  | none => 0
  | some x => (x.expiry * 100000000 - (s.clk.time.toNat - x.start.toNat) + 99999999) / 100000000

/-- DBG_STATUS (R63). -/
def State.dbgStatus (s : State) : Word :=
  w32 (levelCode s.dbg.level + flag s.dbg.session.isSome 3 + s.dbg.certResult.toNat * 2 ^ 4 + s.dbg.fails.toNat * 2 ^ 8)

/-! ## TAP instructions (R60) -/

/-- The opcodes of R60 that are not BYPASS. -/
def tapOpcodes : List Byte := [0x01, 0x02, 0x03, 0x10, 0x11, 0x12, 0x13, 0x14, 0x15, 0x20, 0x21, 0x22]

/-- The TAP loads an instruction and captures `dr` in a register of `w` bits; leaving EXTEST gives the balls back. -/
def State.tapLoad (s : State) (ir : Byte) (dr w : Nat) : State :=
  { s with tap := { s.tap with ir := ir, dr := dr, drWidth := w, extest := false } }

/-- The TAP answers only status reads in ANALYSIS_PENDING and in cold hold (R54, R117). [DEDUCED, log 11] -/
def State.tapServes (s : State) : Bool := s.tapUp && s.tamp.l3 == .none && s.life.state != .analysisPending

/-- Status of a life-cycle request. [DESIGN CHOICE, log 14] -/
def State.lcStatusIs (s : State) (st : LcStatus) : State := { s with life := { s.life with lastStatus := st } }

/-- A TAP request that is not served: in ANALYSIS_PENDING it completes with LC_PENDING (R54). [DEDUCED, log 11] -/
def State.tapUnserved (s : State) : State :=
  if s.life.state = .analysisPending ∧ s.tapUp ∧ s.tamp.l3 = .none then s.lcStatusIs .pending else s

/-- TAP_IDCODE: the 32-bit IDCODE (R60, R594). -/
def execTapIdcode (s : State) : Host.Outcome State Fault Refusal :=
  .next (if s.tapUp then s.tapLoad 0x01 0x14E3156F 32 else s)

/-- TAP_BYPASS: every opcode outside the table selects BYPASS, one bit that captures 0 (R60). -/
def execTapBypass (opcode : Byte) (s : State) : Host.Outcome State Fault Refusal :=
  .next (if s.tapUp ∧ opcode ∉ tapOpcodes then s.tapLoad opcode 0 1 else s)

/-- TAP_SAMPLE_PRELOAD at level BSCAN and above (R40): the pins are sampled (a free value: the spec gives the register no
cell order) and the boundary-scan register is preloaded. [DESIGN CHOICE, log 4] -/
def execTapSamplePreload (bits : List Bool) (s : State) : Host.Outcome State Fault Refusal :=
  .next (if s.tapServes ∧ s.dbg.level ≠ .closed then
    let d := s.drawNat
    let s1 := d.2.tapLoad 0x02 d.1 bits.length
    { s1 with tap := { s1.tap with bsr := bits } }
  else s.tapUnserved)

/-- Where EXTEST is carried out (R41). -/
def State.extestOk (s : State) : Bool :=
  let cert := match s.dbg.session with
    | some x => x.extest
    | none => false
  match s.life.state with
  | .blank | .testLocked | .testOpen | .analysis | .scrap => true
  | .personal => cert
  | .owned => cert && s.pwr.state == .hold
  | .analysisPending => false

/-- TAP_EXTEST: the boundary-scan register drives the balls where R41 allows it; elsewhere it is refused and the balls keep
their function. [DESIGN CHOICE, log 4] -/
def execTapExtest (bits : List Bool) (s : State) : Host.Outcome State Fault Refusal :=
  .next (if s.tapServes ∧ s.dbg.level ≠ .closed ∧ s.extestOk then
    let d := s.drawNat
    let s1 := d.2.tapLoad 0x03 d.1 bits.length
    { s1 with tap := { s1.tap with bsr := bits, extest := true } }
  else s.tapUnserved)

/-- TAP_LC_STATUS captures LCS_STATUS (R60), in every state (R54, R117). -/
def execTapLcStatus (s : State) : Host.Outcome State Fault Refusal :=
  .next (if s.tapUp then s.tapLoad 0x10 s.lcsStatus.toNat 32 else s)

/-! ## Life-cycle requests (R34-R39, R54) -/

/-- A life-cycle request that arrives: LC_PENDING in ANALYSIS_PENDING, BUSY while a transition runs, LC_NO_PATH where R34 has
no such transition, else its effect. [DESIGN CHOICE, log 12] -/
def State.lcRequest (s : State) (path : Bool) (act : State → State) : State :=
  if s.life.state = .analysisPending then s.lcStatusIs .pending
  else if s.lcBusy then s.lcStatusIs .busy
  else if path then act (s.lcStatusIs .ok)
  else s.lcStatusIs .noPath

/-- A life-cycle request through the TAP, which then shows the instruction. -/
def State.lcTap (s : State) (ir : Byte) (w : Nat) (path : Bool) (act : State → State) : State :=
  if s.tapUp ∧ s.tamp.l3 = .none then (s.lcRequest path act).tapLoad ir 0 w else s

/-- The record is written with the state `st`: the debug level is its default and any session ends (R29, R50). -/
def State.lcCommit (s : State) (st : Lcs) : State :=
  ({ s with life := { s.life with state := st } } : State).endSession

/-- Leaving a state in which keystone code runs: contexts and engines stop as in a reset, the power state is ACTIVE, the
watchdog stops; the root, the clocks and the tamper state stay (R31, R57). [DEDUCED, log 17] -/
def State.stopContexts (s : State) : State :=
  let r := afterReset s.interruptFlash false
  { r with
    life := s.life
    dbg := s.dbg
    tap := s.tap
    clk := s.clk
    pwr := { s.pwr with state := .active, change := none, wdogRunning := false, wakePending := false }
    tamp := s.tamp
    vault := { s.vault with queue := [], pkeQueue := [] }
    rng := s.rng
    draw := r.draw }

/-- The digest that must match entry k: SHA-256(token, device ID, k) (ch. 02, before R36). -/
def tokenDigest (token : Nat) (k : Nat) : Bytes :=
  sha256 (leBytes 32 token ++ leBytes 8 Config.deviceId.toNat ++ [byte k])

/-- LC_PROVISION: the token table is written once, every course counter set, TEST_LOCKED entered (R34, ch. 09). -/
def execLcProvision (digests : BitVec 4096) (s : State) : Host.Outcome State Fault Refusal :=
  .next (s.lcTap 0x11 4096 (s.life.state = .blank ∧ s.life.tokenTable = none) fun t =>
    ({ t with life := { t.life with tokenTable := some digests }, ctrs := [] } : State).lcCommit .testLocked)

/-- The token check of R36 for index `k` and token value `token`. -/
def State.tokenMatches (s : State) (k token : Nat) : Bool :=
  match s.life.tokenTable with
  | none => false
  | some t => k == s.ctrNat ctrTokcnt && leBytes 32 (fld t (256 * k) 256) == tokenDigest token k

/-- LC_TOKEN: exhausted at 16 (R38), locked out after 3 mismatches (R39); a match counts TOKCNT before TEST_OPEN is entered
(R37); a mismatch is an L0 tamper event (R39). [DEDUCED, log 15] -/
def execLcToken (dr : BitVec 264) (s : State) : Host.Outcome State Fault Refusal :=
  .next (s.lcTap 0x12 264 (s.life.state = .testLocked) fun t =>
    let k := fld dr 256 8
    if 16 ≤ t.ctrNat ctrTokcnt then t.lcStatusIs .tokensExhausted
    else if 3 ≤ t.life.mismatches then t.lcStatusIs .lockedOut
    else if t.tokenMatches k (fld dr 0 256) then (t.ctrBump ctrTokcnt).lcCommit .testOpen
    else
      let t1 := { t with life := { t.life with mismatches := t.life.mismatches + 1, lastStatus := .mismatch } }
      t1.tamperEvent 0x0C 0 0 0 false)

/-- LC_LOCK: TEST_OPEN back to TEST_LOCKED (R34). -/
def execLcLock (s : State) : Host.Outcome State Fault Refusal :=
  .next (s.lcTap 0x13 1 (s.life.state = .testOpen) fun t => t.stopContexts.lcCommit .testLocked)

/-- The value the fuzzy extractor rebuilds (R275). -/
def pufRoot : Bytes := (List.range 32).map Config.pufByte

/-- LC_PERSONALISE: PUF enrolled, root built, identity key pairs generated, authority digest stored (R34).
[DESIGN CHOICE, log 16] -/
def execLcPersonalise (digest : BitVec 384) (s : State) : Host.Outcome State Fault Refusal :=
  .next (s.lcTap 0x14 384 (s.life.state = .testOpen) fun t =>
    let t1 := t.stopContexts.loseKeys
    let d := t1.drawBytes 2049
    let t2 := { d.2 with
      life := { d.2.life with enrolled := true, authority := some (leBytes 48 digest.toNat), identKeys := some d.1,
                              identPriv := true }
      vault := { d.2.vault with rootOk := true, pufFail := false, root := pufRoot } }
    t2.lcCommit .personal)

/-- LC_SCRAP: from BLANK, TEST_LOCKED and TEST_OPEN the wipe runs before SCRAP is committed; from ANALYSIS it goes through
ANALYSIS_PENDING after a wind-down (R34, R35, R51). [DEDUCED, log 17] -/
def execLcScrap (s : State) : Host.Outcome State Fault Refusal :=
  .next (s.lcTap 0x15 1 (s.life.state = .blank ∨ s.life.state = .testLocked ∨ s.life.state = .testOpen ∨
      s.life.state = .analysis) fun t =>
    if t.life.state = .analysis then
      ({ t with life := { t.life with toPending := some true } } : State).startWind { l2 := true }
    else
      let t1 := t.stopContexts.zeroVolatile
      { t1 with life := { t1.life with wiping := true, directScrap := true, target := true, chunk := 0,
                                       w0 := BitVec.ofNat 64 (t.ctrNat ctrWipe) } })

/-! ## Debug certificates (R45-R49, R59) -/

/-- A certificate's fields (R45). -/
def certLevel (c : Bytes) : Nat := (c.getD 6 0).toNat
def certFlags (c : Bytes) : Byte := c.getD 7 0
def certEpoch (c : Bytes) : Word := wordAt c 0x10
def certFirst (c : Bytes) : Nat := leNat (slice c 0x14 2)
def certLast (c : Bytes) : Nat := leNat (slice c 0x16 2)
def certExpiry (c : Bytes) : Nat := (wordAt c 0x18).toNat
def certSigner (c : Bytes) : Nat := (c.getD 0x1C 0).toNat

/-- Check 3: the format (R46). -/
def certFormatOk (c : Bytes) : Bool :=
  decide (32 ≤ c.length) && wordAt c 0 == 0x47434B44 && leNat (slice c 4 2) == 1 &&
  decide (1 ≤ certLevel c) && decide (certLevel c ≤ 4) && fld (certFlags c) 4 4 == 0 &&
  decide (1 ≤ certExpiry c) && decide (certExpiry c ≤ 86400) &&
  (decide (certFirst c ≤ certLast c ∧ certLast c ≤ 1023) || certLast c == 0xFFFF) &&
  (slice c 0x1D 3).all (· == 0)

/-- Check 6: presented in PERSONAL with SIGNER 0, or in OWNED with SIGNER 1, or SIGNER 0 and flag ANALYSIS (R46). -/
def certSignerOk (st : Lcs) (c : Bytes) : Bool :=
  match st with
  | .personal => certSigner c == 0
  | .owned => certSigner c == 1 || (certSigner c == 0 && bit (certFlags c) 2)
  | _ => false

/-- Check 7 (R46). -/
def certLevelOk (c : Bytes) : Bool :=
  (certLevel c != 4 || bit (certFlags c) 0) && (fld (certFlags c) 2 2 == 0 || certSigner c == 0)

/-- Checks 3 to 8 in table order: the code of the first that fails, or 0 (R46). [DESIGN CHOICE, log 10] -/
def State.certCheck (s : State) (c : Bytes) : Nat :=
  if !certFormatOk c then 1
  else if leNat (slice c 8 8) != Config.deviceId.toNat then 2
  else if (certEpoch c).toNat != s.ctrNat ctrDbgEpoch then 3
  else if !certSignerOk s.life.state c then 4
  else if !certLevelOk c then 5
  else if !hybridOk s.life.authority s.life.debugKeys (certSigner c == 1) 1 (c.take 32) (c.drop 32) then 6
  else 0

def State.certResultIs (s : State) (code : Nat) : State :=
  { s with dbg := { s.dbg with certResult := BitVec.ofNat 4 code } }

/-- A certificate is presented: BUSY and LOCKED_OUT at once, else its verification begins (R46, R48). [DESIGN CHOICE, log 10] -/
def State.presentCert (s : State) (c : Bytes) (viaTap : Bool) : State :=
  if s.lcBusy ∨ s.dbg.verifying.isSome then s.certResultIs 8
  else if 8 ≤ s.dbg.fails.toNat then s.certResultIs 7
  else { s with dbg := { s.dbg with verifying := some (c, viaTap) } }

/-- DBG_CERT through the TAP; in SLEEP it wakes Nelvo to IDLE first (R59). -/
def execDbgCert (cert : List Byte) (s : State) : Host.Outcome State Fault Refusal :=
  .next (if s.life.state = .analysisPending ∧ s.tapUp ∧ s.tamp.l3 = .none then
      (s.lcStatusIs .pending).tapLoad 0x20 0 (8 * cert.length)
    else if s.tapServes then
      let s1 := s.tapLoad 0x20 0 (8 * cert.length)
      if s1.pwr.state = .sleep then ({ s1 with dbg := { s1.dbg with wakeCert := some cert } } : State).wake
      else s1.presentCert cert true
    else s)

/-- What an accepted certificate does (R47, R49). With flag ANALYSIS or SCRAP it opens no session: it authorises the transition,
and in PERSONAL starts it (R34). -/
def State.acceptCert (s : State) (c : Bytes) : State :=
  let s1 := s.advanceEpoch.certResultIs 0
  let an := bit (certFlags c) 2
  let sc := bit (certFlags c) 3
  if an || sc then
    let s2 := { s1 with dbg := { s1.dbg with authAnalysis := s1.dbg.authAnalysis || an,
                                             authScrap := s1.dbg.authScrap || sc } }
    if s2.life.state = .personal then
      ({ s2 with life := { s2.life with toPending := some (!an) } } : State).startWind { l2 := true }
    else s2
  else
    let x : Session :=
      { level := levelOf (certLevel c)
        first := BitVec.ofNat 16 (certFirst c)
        last := BitVec.ofNat 16 (certLast c)
        keystone := bit (certFlags c) 0
        extest := bit (certFlags c) 1
        expiry := certExpiry c
        start := s.clk.time }
    ({ s1 with dbg := { s1.dbg with level := x.level, session := some x } } : State).ksLine lineDebug

/-- CERT_VERIFY_DONE: checks 3 to 8; a failure adds 1 to FAILS and logs an L0 event (R46-R48).
[DEDUCED, log 15; DESIGN CHOICE, log 10] -/
def execCertVerifyDone (s : State) : Host.Outcome State Fault Refusal :=
  .next (match s.dbg.verifying with
    | none => s
    | some (c, _) =>
      let s1 := { s with dbg := { s.dbg with verifying := none } }
      let code := s1.certCheck c
      if code = 0 then s1.acceptCert c
      else
        let s2 := s1.certResultIs code
        ({ s2 with dbg := { s2.dbg with fails := s2.dbg.fails + 1 } } : State).tamperEvent 0x0D 0 0 0 false)

/-- DEBUG_SESSION_EXPIRY: the session timer reaches 0 (R50). -/
def execDebugSessionExpiry (s : State) : Host.Outcome State Fault Refusal :=
  .next (match s.dbg.session with
    | none => s
    | some x => (s.atTime (x.start + BitVec.ofNat 64 (x.expiry * 100000000))).endSession)

/-- DBG_CLOSE through the TAP ends the session (R50). -/
def execDbgClose (s : State) : Host.Outcome State Fault Refusal :=
  .next (if s.tapServes then s.endSession.tapLoad 0x21 0 1 else s.tapUnserved)

/-! ## DBG_CTRL and LCS_CMD (R62, R63) -/

/-- ADVANCE advances DBGEPOCH and ends any session (R63). -/
def State.dbgAdvance (s : State) : State := s.advanceEpoch.endSession
/-- The certificate in DBG_CERT_BUF, as long as its KEYS flag says (R63, R401). [DEDUCED, log 19] -/
def State.certInBuf (s : State) : Bytes :=
  let b (i : Nat) : Byte := tget s.dbg.certBuf i 0
  (List.range (32 + hybridLen (bit (b 37) 0))).map b
/-- PRESENT verifies the certificate in DBG_CERT_BUF (R63). -/
def State.dbgPresent (s : State) : State := s.presentCert s.certInBuf false

def execDbgCtrlAdvance (s : State) : Host.Outcome State Fault Refusal :=
  .next (if s.ksWriter then s.dbgAdvance else s)
def execDbgCtrlClose (s : State) : Host.Outcome State Fault Refusal :=
  .next (if s.ksWriter then s.endSession else s)
def execDbgCtrlPresent (s : State) : Host.Outcome State Fault Refusal :=
  .next (if s.ksWriter then s.dbgPresent else s)

/-- A write of LCS_CMD (R62): ANALYSIS needs an accepted certificate (R34); the way to ANALYSIS_PENDING begins with the L2
wind-down (R51). -/
def State.lcsCmd (s : State) (code : BitVec 4) : State :=
  let s1 := { s with life := { s.life with cmd := code } }
  let path := s.life.state = .owned ∧ ((code = 3 ∧ s.dbg.authAnalysis) ∨ code = 7)
  s1.lcRequest path fun t =>
    ({ t with life := { t.life with toPending := some (code == 7) } } : State).startWind { l2 := true }

def execLcsCmdAnalysis (s : State) : Host.Outcome State Fault Refusal :=
  .next (if s.ksWriter then s.lcsCmd 3 else s)
def execLcsCmdScrap (s : State) : Host.Outcome State Fault Refusal :=
  .next (if s.ksWriter then s.lcsCmd 7 else s)

/-! ## The wipe (R52, R53) -/

/-- Chunk `k` erased and verified blank: the key-bearing system area, or 1 MiB of user flash (ch. 02, R292). [DEDUCED, log 18] -/
def State.eraseChunk (s : State) (k : Nat) : State :=
  if k = 0 then
    { s with
      life := { s.life with identPriv := false, identKeys := none, ownerKeys := none, debugKeys := none,
                            imageSector := 0, imageLen := 0 }
      vault := { s.vault with slots := [] }
      nvm := { s.nvm with journal := [] } }
  else s.clear (0x100000 * k) 0x100000

/-- Step 6: the record is written with the target, and the level is that state's default (R52, R29). In ANALYSIS the root is
rebuilt and the DRBG runs. -/
def State.commitWipe (s : State) : State :=
  let st := if s.life.directScrap || s.life.target then Lcs.scrap else .analysis
  let s1 := ({ s with life := { s.life with wiping := false, directScrap := false, chunk := 0 } } : State).lcCommit st
  if st = .analysis then
    { s1 with vault := { s1.vault with rootOk := s1.life.enrolled, root := if s1.life.enrolled then pufRoot else [] }
              rng := { s1.rng with instantiated := true } }
  else s1

/-- WIPE_CHUNK_ERASE_DONE: the next chunk is erased and WIPE counted; after chunk 15 the target state is written (R52).
[DEDUCED, log 17] -/
def execWipeChunkEraseDone (s : State) : Host.Outcome State Fault Refusal :=
  .next (if s.life.wiping ∧ s.pwr.mainPower then
    let s1 := (s.eraseChunk s.life.chunk).ctrBump ctrWipe
    let s2 := { s1 with life := { s1.life with chunk := s1.life.chunk + 1 } }
    if 16 ≤ s2.life.chunk then s2.commitWipe else s2
  else s)

end Sys2Proof.Machine
end

