-- ==== Sys2Proof/Machine/Power.lean ====
section
/-! DEFINITION. Clock, boot, resets and power states (chapter 03). -/

namespace Sys2Proof.Machine

open Sys2Proof

/-! ## Power-on, REFCLK, PLL, baseline -/

/-- POWER_ON_RESET: a supply rises through its threshold; each VDDIO bank shows its class (R84, R574). [DESIGN CHOICE, log 61] -/
def execPowerOnReset (bank33 : BitVec 4) (s : State) : Host.Outcome State Fault Refusal :=
  .next (({ s with pwr := { s.pwr with mainPower := true, bankClass := bank33 } } : State).doReset [.por] false)

/-- REFCLK_ARRIVAL ends the wait at boot step 1 (R83). -/
def execRefclkArrival (s : State) : Host.Outcome State Fault Refusal :=
  .next (if s.pwr.mainPower then ({ s with clk := { s.clk with refclk := true } } : State).bootStep1 else s)

/-- CORE_PLL_LOCK: every domain switches to CCLK; in boot, step 2 ends (R79). -/
def execCorePllLock (s : State) : Host.Outcome State Fault Refusal :=
  .next (if s.pwr.mainPower ∧ s.clk.refclk ∧ ¬ s.clk.pllLock ∧ ¬ s.pwr.resetnLow ∧ s.pwr.state ≠ .sleep ∧
      s.pwr.state ≠ .off then
    { s with clk := { s.clk with pllLock := true, onRefclk := false }
             pwr := { s.pwr with bootStep := if s.pwr.booting ∧ s.pwr.bootStep = 1 then 2 else s.pwr.bootStep } }
  else s)

/-- CLOCK_BASELINE_DONE: the 16 windows that began at the end of boot step 2 are complete (R101). -/
def execClockBaselineDone (s : State) : Host.Outcome State Fault Refusal :=
  .next (if s.clk.pllLock then { s with clk := { s.clk with baseline := true } } else s)

/-! ## Boot steps 3 to 9 (R79-R82) -/

/-- One VBAT latch is read at boot step 3: its entry, its response, and the latch cleared (R121). -/
def State.vbatRespond (s : State) (x : VbatLatch) (cls : Nat) (l3 : Bool) : State :=
  if s.tamp.vbat.contains x then
    let serious := s.life.state == .personal || s.life.state == .owned
    let s1 := { s with tamp := { s.tamp with vbat := s.tamp.vbat.filter (· ≠ x),
                                             vbatLost := s.tamp.vbatLost || (x == VbatLatch.vbatLost && serious) } }
    s1.tamperEvent cls 0 (if l3 && serious then 3 else 0) 1 false
  else s

/-- Boot step 3: the VBAT latches (R121). -/
def State.bootLatches (s : State) : State :=
  let s0 := { s with pwr := { s.pwr with bootStep := 3 } }
  let s1 := s0.vbatRespond .mesh 0x0A true
  let s2 := s1.vbatRespond .light 0x07 true
  let s3 := s2.vbatRespond .temp 0x08 false
  s3.vbatRespond .vbatLost 0x0B false

/-- The journal at boot step 4: STAGED entries are completed, but user-flash entries in ANALYSIS are deferred (R298).
A normal read of a deferred page returns the new page (R299), so memory holds it; the entry keeps what a raw read shows. -/
def State.bootJournal (s : State) : State :=
  let s1 := s.nvm.journal.foldl (fun t e => t.wrBytes e.page e.data) s
  if s.life.state = .analysis then
    { s1 with nvm := { s1.nvm with
        journal := s.nvm.journal.map fun e => { e with deferred := true }
        deferred := !s.nvm.journal.isEmpty } }
  else { s1 with nvm := { s1.nvm with journal := [] } }

/-- Boot step 4: counters repaired, journal completed, the interrupted sector erase and an L3 vault erase completed (R297, R298,
R305, R116). -/
def State.bootNvm (s : State) : State :=
  let s1 := s.ctrRepairAll.bootJournal
  let s2 := match s1.nvm.eraseQueue with
    | [] => s1
    | e :: es => ({ s1 with nvm := { s1.nvm with eraseQueue := es } } : State).clear (sectorAddr e) 0x4000
  let s3 := if s2.tamp.l3Record = some false then
      { s2 with vault := { s2.vault with slots := [] }, tamp := { s2.tamp with l3Record := some true } }
    else s2
  { s3 with clk := { s3.clk with freqArmed := true } }

/-- Boot step 6: the root, and the DRBG or its failure (R275-R277, R290, R291). Skipped in ANALYSIS_PENDING (R81). -/
def State.bootKeys (s : State) (pufOk rngOk : Bool) : State :=
  if s.life.state = .analysisPending then s
  else
    let s1 := if rngOk then { s with rng := { s.rng with instantiated := true } }
      else ({ s with vault := { s.vault with rngFail := true } } : State).ksLine lineNvm
    if s1.life.state = .blank ∨ s1.life.state = .testLocked ∨ s1.life.state = .testOpen then
      if rngOk then
        let d := s1.loseKeys.drbg 32
        { d.2 with vault := { d.2.vault with rootOk := true, root := d.1 } }
      else s1
    else if s1.life.enrolled ∧ pufOk then
      { s1 with vault := { s1.vault with rootOk := true, root := pufRoot } }
    else { s1 with vault := { s1.vault with pufFail := true } }

/-- Keystone code starts at `pc` on core 0, slot 0 (R79 step 9, R31). -/
def State.startKeystone (s : State) (pc : Word) : State :=
  { s with ks := { running := true, regs := { pc := pc } } }

/-- Boot steps 8 and 9 in OWNED: the image is checked and copied, keystone code starts, the watchdog runs (R79, R82, R87). -/
def State.bootImage (s : State) : State :=
  let img := s.storedImage
  let r := if s.life.ownerKeys.isSome then s.imageCheck s.life.ownerKeys img else 3
  if r = 0 then
    let s1 := (s.wrBytes (imgLoad img) (slice img 64 (imgLength img))).startKeystone (w32 (imgEntry img))
    { s1 with pwr := { s1.pwr with bootStep := 9, bootResult := 0, wdogRunning := true, wdogFrom := s1.clk.time } }
  else { s with pwr := { s.pwr with bootStep := 8, bootResult := BitVec.ofNat 4 r } }

/-- Boot step 7: the branch on the life-cycle state (R80). -/
def State.bootBranch (s : State) : State :=
  let s1 := { s with pwr := { s.pwr with bootStep := 7, booting := false } }
  match s1.life.state with
  | .owned => s1.bootImage
  | .analysisPending =>
    let k := min 16 (s1.ctrNat ctrWipe - s1.life.w0.toNat)
    let s2 := { s1 with life := { s1.life with wiping := true, chunk := k } }
    if k = 16 then s2.commitWipe else s2
  | _ => s1

/-- BOOT_SEQUENCE: boot steps 3 to 9, once the core PLL is locked and the baseline complete (R79, R101). An L3 response at step 3
ends it (R121). [DEDUCED, log 5; DESIGN CHOICE, log 8] -/
def execBootSequence (pufOk rngOk : Bool) (s : State) : Host.Outcome State Fault Refusal :=
  .next (if s.alive ∧ s.pwr.booting ∧ s.clk.pllLock ∧ s.clk.baseline ∧ ¬ s.pwr.resetnLow then
    let s1 := s.bootLatches
    if s1.tamp.l3 ≠ .none then s1
    else
      let s2 := s1.bootNvm.zeroVolatile
      let s3 := ({ s2 with pwr := { s2.pwr with bootStep := 5 } } : State).bootKeys pufOk rngOk
      s3.bootBranch
  else s)

/-! ## Resets (R84-R87) -/

/-- The cold reset that ends a cold hold: COLD and HOLD_EXIT (R118). -/
def State.holdExit (s : State) : State :=
  let s1 := ({ s with tamp := { s.tamp with l3 := .none } } : State).doReset [.cold] false
  { s1 with pwr := { s1.pwr with resetCause := s1.pwr.resetCause ||| 0x40 } }

/-- RESETN_ASSERT: RESETn has been low for 95 REFCLK samples (R85). In cold hold it ends the hold once the sensors have been quiet
(R118); while REFCLK is absent it only extends the wait at step 1. -/
def execResetnAssert (s : State) : Host.Outcome State Fault Refusal :=
  .next (if ¬ s.pwr.mainPower ∨ s.pwr.resetnLow then s
    else
      let s1 := { s with pwr := { s.pwr with resetnLow := true } }
      match s.tamp.l3 with
      | .coldHold => if s.tamp.quiet then s1.holdExit else s1
      | .erasing => s1
      | .none => if s.clk.refclk then s1.requestReset .pin false else s1)

/-- RESETN_RELEASE: the internal reset ends and boot begins (R85). -/
def execResetnRelease (s : State) : Host.Outcome State Fault Refusal :=
  .next (({ s with pwr := { s.pwr with resetnLow := false } } : State).bootStep1)

/-- PWR_CMD_COLD and PWR_CMD_WARM: keystone code asks for the reset (R84). -/
def execPwrCmdCold (s : State) : Host.Outcome State Fault Refusal :=
  .next (if s.ksWriter then s.requestReset .cold false else s)
def execPwrCmdWarm (s : State) : Host.Outcome State Fault Refusal :=
  .next (if s.ksWriter then s.requestReset .warm false else s)

/-- The watchdog counts: it pauses while a debugger halts the keystone in TEST_OPEN and ANALYSIS (R87). [DEDUCED, log 63] -/
def State.wdogCounts (s : State) : Bool :=
  s.alive && s.pwr.wdogRunning && s.pwr.state != .sleep && s.pwr.state != .off &&
  !((s.life.state == .testOpen || s.life.state == .analysis) && s.dbg.keystoneHalted)

/-- The timeout in 10 µs units that a TIMEOUT value acts as (R98). -/
def wdogUnits (t : BitVec 23) : Nat := min 6000000 (max 100 t.toNat)
/-- TIME at which the watchdog expires (R87, R98). -/
def State.wdogDue (s : State) : Time := s.pwr.wdogFrom + BitVec.ofNat 64 (1000 * wdogUnits s.pwr.wdogTimeout)

/-- WATCHDOG_EXPIRY: a watchdog reset after the wind-down (R84, R87). -/
def execWatchdogExpiry (s : State) : Host.Outcome State Fault Refusal :=
  .next (if s.wdogCounts then (s.atTime s.wdogDue).requestReset .wdog false else s)

/-- A write of PWR_WDOG_KICK: 0xA5C3 restarts the watchdog, any other value is ignored (R87). -/
def State.wdogKick (s : State) (value : Word) : State :=
  if value = 0xA5C3 ∧ s.pwr.wdogRunning then { s with pwr := { s.pwr with wdogFrom := s.clk.time } } else s
def execPwrWdogKick (value : Word) (s : State) : Host.Outcome State Fault Refusal :=
  .next (if s.ksWriter then s.wdogKick value else s)

/-! ## Power states (R56-R58, R88-R96) -/

/-- Codes of the matrix (R56). -/
inductive Cell where
  | p | u | h | o
  deriving DecidableEq, Repr

/-- The matrix of life-cycle state, debug level and power state (R57, R58). -/
def powerCell (st : Lcs) (lvl : DbgLevel) (t : PState) : Cell :=
  let high := lvl == .control || lvl == .full
  match st with
  | .analysisPending => .u
  | .blank | .testLocked | .scrap =>
    if high || lvl == .observe then .u
    else match t with
      | .active => .p
      | .off => .o
      | _ => .u
  | .personal =>
    match t with
    | .active => .p
    | .off => .o
    | _ => .u
  | .testOpen | .owned | .analysis =>
    match t with
    | .sleep => if high then .h else .p
    | .off => .o
    | _ => .p

/-- Code of a power state (R88). -/
def pstateCode : PState → Nat
  | .active => 0
  | .idle => 1
  | .hold => 2
  | .sleep => 3
  | .off => 4

/-- The end of a power request: RESULT and keystone line 4 (R98, R250). -/
def State.powerResult (s : State) (r : BitVec 3) : State :=
  ({ s with pwr := { s.pwr with result := r } } : State).ksLine linePower

/-- A request for a power state (R89, R90): the change begins, after a wind-down where R91 has one. [DEDUCED, log 64] -/
def State.powerRequest (s : State) (t : PState) : State :=
  let s1 := { s with pwr := { s.pwr with cmd := BitVec.ofNat 3 (pstateCode t) } }
  if s.pwr.change.isSome ∨ s.tamp.wind.isSome ∨ s.lcBusy then s1.powerResult 3
  else match powerCell s.life.state s.dbg.level t with
    | .u => s1.powerResult 1
    | .h => s1.powerResult 2
    | _ =>
      if t = s.pwr.state then s1.powerResult 0
      else
        let s2 := { s1 with pwr := { s1.pwr with change := some t, result := 0 } }
        let winds := t = .hold ∨ ((t = .sleep ∨ t = .off) ∧ s.pwr.state ≠ .hold)
        if winds then s2.startWind { power := some t } else s2

def execPwrCmdActive (s : State) : Host.Outcome State Fault Refusal :=
  .next (if s.ksWriter then s.powerRequest .active else s)
def execPwrCmdIdle (s : State) : Host.Outcome State Fault Refusal :=
  .next (if s.ksWriter then s.powerRequest .idle else s)
def execPwrCmdHold (s : State) : Host.Outcome State Fault Refusal :=
  .next (if s.ksWriter then s.powerRequest .hold else s)
def execPwrCmdSleep (s : State) : Host.Outcome State Fault Refusal :=
  .next (if s.ksWriter then s.powerRequest .sleep else s)
def execPwrCmdOff (s : State) : Host.Outcome State Fault Refusal :=
  .next (if s.ksWriter then s.powerRequest .off else s)

/-- A wake certificate is verified once Nelvo is in IDLE (R59). -/
def State.wakeCertNow (s : State) : State :=
  match s.dbg.wakeCert with
  | none => s
  | some c => ({ s with dbg := { s.dbg with wakeCert := none } } : State).presentCert c true

/-- Power state `t` is reached (R88, R91, R92, R94). [DEDUCED, log 63] -/
def State.powerReach (s : State) (t : PState) : State :=
  let s1 := if t = .active then s else s.evict fun _ => true
  let woken := s.pwr.state = .sleep
  let s2 := if t = .sleep ∨ t = .off then s1.allLanesDown.zeroSessions else s1
  let reached := if t = .sleep ∧ s.pwr.wakePending then PState.idle else t
  let stops := reached = .sleep ∨ reached = .off
  let s3 := { s2 with
    pwr := { s2.pwr with state := reached, change := none, wakePending := false, offReady := t == .off
                         sleepAt := s.clk.time
                         wdogFrom := if woken then s.pwr.wdogFrom + (s.clk.time - s.pwr.sleepAt) else s.pwr.wdogFrom }
    clk := { s2.clk with pllLock := if stops then false else if woken then true else s2.clk.pllLock
                         onRefclk := if stops then true else if woken then false else s2.clk.onRefclk } }
  let s4 := if woken then s3 else s3.powerResult 0
  if reached = .idle then s4.wakeCertNow else s4

/-- POWER_CHANGE_DONE: the steps of R91 are complete. SLEEP and OFF wait for pending NVM writes. -/
def execPowerChangeDone (s : State) : Host.Outcome State Fault Refusal :=
  .next (match s.pwr.change with
    | none => s
    | some t =>
      if s.tamp.wind.isSome ∨ ((t = .sleep ∨ t = .off) ∧ (s.nvm.active.isSome ∨ s.nvm.queue ≠ [])) then s
      else s.powerReach t)

/-- WAKE_TIME_REACHED: TIME has reached PWR_WAKE_AT (R93). -/
def execWakeTimeReached (now : Time) (s : State) : Host.Outcome State Fault Refusal :=
  .next (let s1 := s.atTime now
    if s.alive ∧ bit s1.pwr.wakeEn 19 ∧ s1.pwr.wakeAt.toNat ≤ s1.clk.time.toNat then s1.wake else s1)

/-- GPIO_WAKE_EDGE: an edge on a pin; it wakes Nelvo in the polarity set for the pin (R93). -/
def execGpioWakeEdge (pin : Fin 16) (rising : Bool) (s : State) : Host.Outcome State Fault Refusal :=
  .next (let p := if rising then s.gpio.pin ||| BitVec.ofNat 16 (2 ^ pin.val)
      else s.gpio.pin &&& ~~~ BitVec.ofNat 16 (2 ^ pin.val)
    let s1 := { s with gpio := { s.gpio with pin := p } }
    if s.alive ∧ bit s.pwr.wakeEn pin.val ∧ bit s.pwr.wakePol pin.val = rising then s1.wake else s1)

/-- A wake source enabled by a bit of PWR_WAKE_EN (R93). -/
def State.wakeIf (s : State) (i : Nat) : State := if s.alive ∧ bit s.pwr.wakeEn i then s.wake else s
/-- SPI_CS_WAKE, I2C_ADDRESS_WAKE and PCIE_L1_EXIT (R93, R563). -/
def execSpiCsWake (s : State) : Host.Outcome State Fault Refusal := .next (s.wakeIf 16)
def execI2cAddressWake (s : State) : Host.Outcome State Fault Refusal := .next (s.wakeIf 17)
def execPcieL1Exit (s : State) : Host.Outcome State Fault Refusal := .next (s.wakeIf 18)

/-- MAIN_POWER_LOSS: OFF is entered, whether or not it was prepared; volatile contents are lost (R96). -/
def execMainPowerLoss (s : State) : Host.Outcome State Fault Refusal :=
  .next (if s.pwr.mainPower then
    let s1 := afterReset s.interruptFlash true
    { s1 with pwr := { s1.pwr with state := .off, mainPower := false, booting := false }
              clk := { refclk := s1.clk.refclk } }
  else s)

/-! ## Forced and idle clock domains (R74-R78) -/

/-- Forcible domains (R74). -/
def forcible (d : Nat) : Bool :=
  (decide (1 ≤ d) && decide (d ≤ 39)) || (decide (168 ≤ d) && decide (d ≤ 197)) || (decide (224 ≤ d) && decide (d ≤ 235))

/-- Auto-gated domains (R74), and cores 1-15 under R76. -/
def autoGated (d : Nat) : Bool :=
  (decide (40 ≤ d) && decide (d ≤ 167)) || (decide (198 ≤ d) && decide (d ≤ 205)) || d == 218 || d == 219 ||
  (decide (220 ≤ d) && decide (d ≤ 223)) || (decide (236 ≤ d) && decide (d ≤ 251))

/-- CLK_FORCE_OFF after a write of register `reg`: bits of domains that are not forcible are ignored, and of 16 press pipelines
the lowest still clocked is kept (R77, R97). -/
def State.forceOffWrite (s : State) (reg : Nat) (value : Word) : State :=
  let others := s.clk.forceOff.filter fun d => d / 32 != reg
  let asked := (List.range 32).filterMap fun j =>
    let d := 32 * reg + j
    if bit value j && forcible d then some d else none
  let all := others ++ asked
  let pipes := (List.range 16).map (· + 16)
  let kept := if pipes.all all.contains then
      match pipes.find? (fun d => !s.clk.forceOff.contains d) with
      | some d => all.filter (· ≠ d)
      | none => all
    else all
  { s with clk := { s.clk with forceOff := kept } }

def execClkForceOffWrite (reg : Fin 9) (value : Word) (s : State) : Host.Outcome State Fault Refusal :=
  .next (if s.ksWriter then s.forceOffWrite reg.val value else s)

/-- A page's job is suspended: it waits for a pipeline again (R341, R342). -/
def suspendJob (j : PressJob) : PressJob := { j with phase := .waitPipe, burst := 0, suspended := true }

/-- A lattice job whose lane is forced off waits for another; a cancel or a drain takes effect instead (R377, R389). -/
def stripLane (p : LatPage) (j : LatJob) : LatPage :=
  if j.discard then {}
  else { p with job := some (if j.cancel then { j with lane := none, code := some 13, need := 0 } else { j with lane := none }) }

/-- The clock domain of a lane's presence wire, presence A or B (R74). [PRESUMED, log 135] -/
def presenceDom (l : Nat) : Nat := if Config.presenceB l then 197 else 196

/-- Presence searches stop on the chains of a domain forced off: PSTATE is OFF (R74, R476). [PRESUMED, log 135] -/
def State.presenceOff (s : State) (d : Nat) : State :=
  (List.range 12).foldl (fun t l =>
    if presenceDom l = d then t.modChain l fun c => { c with pstate := .off, search := none, scheduled := false } else t) s

/-- A presence domain is clocked again: its chains are IDLE. [PRESUMED, log 135] -/
def State.presenceOn (s : State) (d : Nat) : State :=
  (List.range 12).foldl (fun t l =>
    if presenceDom l = d ∧ (t.chainAt l).pstate = .off then t.modChain l fun c => { c with pstate := .idle } else t) s

/-- What a force-off of a domain does to its block (R74, R342, R389). -/
def State.forceOffEffect (s : State) (d : Nat) : State :=
  if d < 16 then s.evict fun j => slotCore j == d
  else if d < 32 then
    let off (g : Segm) : Segm := if g.pipe = some (d - 16) then { g with pipe := none } else g
    let s := { s with frame := { s.frame with segs := s.frame.segs.map off } }
    { s with press := { s.press with
        pipes := tmod s.press.pipes (d - 16) {} fun p => { p with use := .idle }
        pages := s.press.pages.map fun e => (e.1, match e.2.job with
          | some j => match j.phase with
            | .running p => if p.val = d - 16 then { e.2 with job := some (suspendJob j) } else e.2
            | _ => e.2
          | none => e.2) } }
  else if d < 40 then
    { s with lat := { s.lat with pages := s.lat.pages.map fun e => (e.1, match e.2.job with
        | some j => match j.lane with
          | some l => if l.val = d - 32 then stripLane e.2 j else e.2
          | none => e.2
        | none => e.2) } }
  else if 168 ≤ d ∧ d < 180 then s.laneDown (d - 168)
  else if 180 ≤ d ∧ d < 192 then s.laneDown (d - 180)
  else if d = 192 ∨ d = 193 then
    s.pcieDown
  else if d = 196 ∨ d = 197 then s.presenceOff d
  else s

/-- FORCE_OFF_DONE: the force-off or force-on that the registers ask of a domain takes effect (R78); jobs it moves, and jobs that
waited, go on where they can (R342, R377). -/
def execForceOffDone (dom : Fin 264) (s : State) : Host.Outcome State Fault Refusal :=
  .next (let d := dom.val
    if s.clk.forceOff.contains d then
      if s.clk.off.contains d then s
      else (({ s with clk := { s.clk with off := d :: s.clk.off } } : State).forceOffEffect d).pressGo.latGoOn
    else (({ s with clk := { s.clk with off := s.clk.off.filter (· ≠ d) } } : State).presenceOn d).pressGo.latGoOn)

/-- A core whose slots hold no runnable context (R76). -/
def State.coreIdle (s : State) (core : Nat) : Bool :=
  s.casks.all fun e => match e.2.slot with
    | some j => !(slotCore j == core && (e.2.state == .ready || e.2.state == .running))
    | none => true

/-- CLOCK_DOMAIN_IDLE: 64 idle cycles gate an auto domain, or a core without a runnable context (R75, R76). -/
def execClockDomainIdle (dom : Fin 264) (s : State) : Host.Outcome State Fault Refusal :=
  .next (let d := dom.val
    if (autoGated d ∨ (1 ≤ d ∧ d < 16 ∧ s.coreIdle d)) ∧ ¬ s.clk.gated.contains d then
      { s with clk := { s.clk with gated := d :: s.clk.gated } }
    else s)

/-- A domain is clocked at the time of the read (R97). [DEDUCED, log 62] -/
def State.domClocked (s : State) (d : Nat) : Bool :=
  decide (d < 264) && !s.clk.off.contains d && !s.clk.gated.contains d &&
  !(decide (1 ≤ d) && decide (d < 16) && s.pwr.state != .active) &&
  !(decide (192 ≤ d) && decide (d < 194) && !bit s.host.portEn 0) && !(d == 194 && !bit s.host.portEn 1) &&
  !(d == 195 && !bit s.host.portEn 2) &&
  !(decide (180 ≤ d) && decide (d < 192) && s.clk.off.contains (d - 12)) &&
  !(decide (168 ≤ d) && decide (d < 180) && s.clk.off.contains (d + 12))

end Sys2Proof.Machine
end

