-- ==== Sys2Proof/Machine/Tamper.lean ====
section
/-! DEFINITION. Sensor events, keystone control of the response, cold hold, VBAT latches and the tamper log (chapter 04). -/

namespace Sys2Proof.Machine

open Sys2Proof

/-- A sensor reports a class and source once per episode (R102), while it is armed. [DEDUCED, log 72] -/
def State.report (s : State) (armed : Bool) (cls src level flags : Nat) (from1 : Bool) : State :=
  let key := (byte cls, byte src)
  if s.pwr.mainPower ∧ armed ∧ ¬ s.tamp.episodes.contains key then
    let s1 := { s with tamp := { s.tamp with episodes := key :: s.tamp.episodes } }
    s1.tamperEvent cls src level flags from1
  else s

/-- Sensors armed from boot step 5 (R101); in an L3 response and cold hold every sensor stays armed (R117). -/
def State.armed5 (s : State) : Bool := decide (5 ≤ s.pwr.bootStep) || s.tamp.l3 != .none

def execSupplyWindowEvent (supply : Fin 3) (s : State) : Host.Outcome State Fault Refusal :=
  .next (s.report true 0x01 supply.val (s.mapLevel 0) 0 false)
def execVddioWindowEvent (bank : Fin 4) (s : State) : Host.Outcome State Fault Refusal :=
  .next (s.report true 0x02 (3 + bank.val) (s.mapLevel 1) 0 false)
def execSupplyGlitch (supply : Fin 3) (s : State) : Host.Outcome State Fault Refusal :=
  .next (s.report true 0x03 supply.val (s.mapLevel 2) 0 false)

/-- A wind-down that runs without any lane UP has ended (R111, R113). -/
def State.windIfDark (s : State) : State :=
  match s.tamp.wind with
  | some w => if s.anyEgressUp then s else s.windEnd w
  | none => s

/-- CLOCK_MISSING, armed from boot step 2 on, in SLEEP too (R83, R101): every lane DOWN at once, the wind-down over at step 1, a reset that starts at boot step 1 (R113). -/
def execClockMissing (s : State) : Host.Outcome State Fault Refusal :=
  .next (if s.pwr.mainPower ∧ (s.clk.pllLock ∨ 2 ≤ s.pwr.bootStep) ∧ s.clk.refclk then
    let s1 := s.allLanesDown
    let s2 := { s1 with clk := { s1.clk with refclk := false, pllLock := false, onRefclk := true } }
    (s2.report true 0x04 0 (s2.mapLevel 3) 0 true).windIfDark
  else s)
def execClockFrequencyEvent (s : State) : Host.Outcome State Fault Refusal :=
  .next (s.report s.clk.freqArmed 0x05 0 (s.mapLevel 3) 0 false)

/-- PLL_GLITCH: a CCLK period out of range, or loss of lock, after which the reset starts at boot step 1 (R101, R113). -/
def execPllGlitch (lossOfLock : Bool) (s : State) : Host.Outcome State Fault Refusal :=
  .next (if s.clk.pllLock then
    let s1 := if lossOfLock then { s with clk := { s.clk with pllLock := false, onRefclk := true } } else s
    s1.report true 0x06 0 (s1.mapLevel 4) 0 lossOfLock
  else s)

/-- LIGHT_EVENT: a sensor at or above its threshold (R101). -/
def execLightEvent (sensor : Fin 64) (s : State) : Host.Outcome State Fault Refusal :=
  .next (if s.pwr.mainPower ∧ s.armed5 then
    let s1 := { s with tamp := { s.tamp with light := s.tamp.light ||| BitVec.ofNat 64 (2 ^ sensor.val) } }
    s1.report true 0x07 sensor.val (s1.mapLevel 5) 0 false
  else s)

/-- A sensor's reading in 1/16 °C is taken (R126). -/
def State.tempRead (s : State) (sensor : Nat) (reading : BitVec 16) : State :=
  { s with tamp := { s.tamp with temps := tset s.tamp.temps sensor reading } }

/-- TEMP_LIMIT_EVENT: a junction above 135 °C or below −50 °C (R101). -/
def execTempLimitEvent (sensor : Fin 8) (reading : BitVec 16) (s : State) : Host.Outcome State Fault Refusal :=
  .next (let s1 := s.tempRead sensor.val reading
    if reading.toInt > 135 * 16 ∨ reading.toInt < -50 * 16 then s1.report s.armed5 0x08 sensor.val (s.mapLevel 6) 0 false
    else s1)

/-- The warning threshold in °C: a value above 125 is treated as 125 (R126). -/
def State.warnAt (s : State) : Int := min 125 s.tamp.tempWarn.toInt

/-- TEMP_WARNING: a junction at or above TAMP_TEMP_WARN, always L0 (R101, R107). -/
def execTempWarning (sensor : Fin 8) (reading : BitVec 16) (s : State) : Host.Outcome State Fault Refusal :=
  .next (let s1 := s.tempRead sensor.val reading
    if reading.toInt ≥ s.warnAt * 16 then s1.report s.armed5 0x09 sensor.val 0 0 false else s1)

/-- MESH_EVENT: a line that reads back differently, open or shorted (R101, R124). -/
def execMeshEvent (line : Fin 16) (short : Bool) (s : State) : Host.Outcome State Fault Refusal :=
  .next (s.report s.armed5 0x0A line.val (s.mapLevel 7) (flag short 2) false)

/-- SENSOR_EPISODE_END: the condition has been absent for its persistence count (R102). -/
def execSensorEpisodeEnd (cls : Byte) (source : Byte) (s : State) : Host.Outcome State Fault Refusal :=
  .next { s with tamp := { s.tamp with
    episodes := s.tamp.episodes.filter (· ≠ (cls, source))
    light := if cls = 0x07 then s.tamp.light &&& ~~~ BitVec.ofNat 64 (2 ^ source.toNat) else s.tamp.light } }

/-- L3_VAULT_ERASE_DONE: vault backing blank, the L3 record complete, the log written; cold hold is entered (R114 steps 6, 7).
[DEDUCED, log 73] -/
def execL3VaultEraseDone (s : State) : Host.Outcome State Fault Refusal :=
  .next (if s.tamp.l3 = .erasing ∧ s.pwr.mainPower then
    let s1 := { s with vault := { s.vault with slots := [] }
                       tamp := { s.tamp with l3 := .coldHold, l3Record := some true } }
    s1.logFlush
  else s)

/-- COLD_HOLD_QUIET_TIMER: every sensor has been clear for 100 ms (R118). -/
def execColdHoldQuietTimer (s : State) : Host.Outcome State Fault Refusal :=
  .next (if s.tamp.l3 = .coldHold ∧ s.tamp.episodes = [] then { s with tamp := { s.tamp with quiet := true } } else s)

/-- THAW ends an L1 freeze (R104). [DEDUCED, log 74] -/
def State.thaw (s : State) : State := { s with tamp := { s.tamp with frozen := false } }
def execTampCtrlThaw (s : State) : Host.Outcome State Fault Refusal := .next (if s.ksWriter then s.thaw else s)

/-- MAP_LOCK holds until the next reset (R109). -/
def execTampCtrlMapLock (s : State) : Host.Outcome State Fault Refusal :=
  .next (if s.ksWriter then { s with tamp := { s.tamp with mapLock := true } } else s)

/-- RAISE: a response of the level in RAISE_LEVEL, logged with class 0x0E (R105). [DEDUCED, log 15] -/
def State.tampRaise (s : State) (level : BitVec 2) : State :=
  ({ s with tamp := { s.tamp with raiseLevel := level } } : State).tamperEvent 0x0E 0 level.toNat 0 false
def execTampCtrlRaise (level : BitVec 2) (s : State) : Host.Outcome State Fault Refusal :=
  .next (if s.ksWriter then s.tampRaise level else s)

/-- Floors of the fields of TAMP_MAP in OWNED, field 0 first (R106). -/
def mapFloors : List Nat := [2, 0, 2, 2, 2, 2, 1, 3]

/-- TAMP_MAP after a write: ignored when locked; in OWNED no field below its floor (R108, R109). -/
def State.tampMapWrite (s : State) (value : Word) : State :=
  if s.tamp.mapLock then s
  else
    let f (i : Nat) : Nat :=
      let v := fld value (2 * i) 2
      if s.life.state = .owned then max v (mapFloors.getD i 0) else v
    { s with tamp := { s.tamp with map := BitVec.ofNat 16 (((List.range 8).map fun i => f i * 2 ^ (2 * i)).sum) } }
def execTampMapWrite (value : Word) (s : State) : Host.Outcome State Fault Refusal :=
  .next (if s.ksWriter then s.tampMapWrite value else s)

/-- A write of 1 to ALARM: no effect during a wind-down or cold hold (R123). -/
def State.alarmClear (s : State) : State :=
  if s.tamp.wind.isSome ∨ s.tamp.l3 ≠ .none then s else { s with tamp := { s.tamp with alarm := false } }
def execAlarmClear (s : State) : Host.Outcome State Fault Refusal := .next (if s.ksWriter then s.alarmClear else s)

/-- VBAT_LATCH_SET: while main power is absent (R120). -/
def execVbatLatchSet (latch : VbatLatch) (s : State) : Host.Outcome State Fault Refusal :=
  .next (if s.pwr.mainPower ∨ s.tamp.vbat.contains latch then s
    else { s with tamp := { s.tamp with vbat := latch :: s.tamp.vbat } })

/-- TAMPER_LOG_WRITE: the oldest entry of the queue reaches the ring, once the NVM is up (R125, R79 step 4).
[DESIGN CHOICE, log 70] -/
def execTamperLogWrite (s : State) : Host.Outcome State Fault Refusal :=
  .next (if s.pwr.mainPower ∧ (4 ≤ s.pwr.bootStep ∨ s.tamp.l3 ≠ .none) then s.logWriteOne else s)

end Sys2Proof.Machine
end

