-- ==== Sys2Proof/Machine/RegsCore.lean ====
section
/-! DEFINITION. Control blocks SYS, CLK, PWR, LCS, TAMP, TIME and DBG: for each the registers it holds, what a read gives, what a
write does, and which of them keystone code alone reaches (R61-R63, R97, R98, R126, R569, R594). Offsets are word-aligned. -/

namespace Sys2Proof.Machine

open Sys2Proof

/-- The index of the register at `off` in an array of words from `base`. -/
def regIdx (off base : Nat) : Nat := (off - base) / 4

/-! ## SYS (R569, R594) -/

/-- [DEDUCED, log 169] -/
def State.attn (s : State) : Bool :=
  s.host.pages.any (fun e => e.2.attn && s.pagePath e.1 == 2)

/-- The level of GPIO pin `i`: OFF_READY, ATTN, the level driven, or the pin as it is (R556, R569). [DEDUCED, log 174] -/
def State.gpioLevel (s : State) (i : Nat) : Bool :=
  if i = 15 ∧ s.gpio.fn then s.pwr.offReady
  else if i = 14 ∧ s.host.attnEn ∧ s.attn then false
  else if bit s.gpio.oe i then bit s.gpio.out i
  else bit s.gpio.pin i

/-- [DEDUCED, log 173] -/
def State.gpioIn (s : State) : Word := w32 (((List.range 16).map fun i => flag (s.gpioLevel i) i).sum)

def sysKs (off : Nat) : Bool := within off 0x100 0x104 || off == 0x10C

def State.sysRead (s : State) (off : Nat) : Word :=
  match off with
  | 0x000 => 0x4E310A01
  | 0x004 => 0x14E3156F
  | 0x008 => loW Config.deviceId
  | 0x00C => hiW Config.deviceId
  | 0x010 => 0x4E311F5C
  | 0x100 => s.gpio.out.zeroExtend 32
  | 0x104 => s.gpio.oe.zeroExtend 32
  | 0x108 => s.gpioIn
  | 0x10C => w32 (flag s.gpio.fn 0)
  | _ => 0

def State.sysWrite (s : State) (off : Nat) (w : Word) : State :=
  match off with
  | 0x100 => { s with gpio := { s.gpio with out := bv w 0 16 } }
  | 0x104 => { s with gpio := { s.gpio with oe := bv w 0 16 } }
  | 0x10C => { s with gpio := { s.gpio with fn := bit w 0 } }
  | _ => s

/-! ## CLK (R97) -/

def clkKs (off : Nat) : Bool := within off 0x100 0x120

def State.clkRead (s : State) (off : Nat) : Word :=
  if off = 0 then w32 (flag s.clk.pllLock 0 + flag s.clk.refclk 1 + flag s.clk.onRefclk 2)
  else if within off 0x100 0x120 then
    w32 (((List.range 32).map fun j => flag (s.clk.forceOff.contains (32 * regIdx off 0x100 + j)) j).sum)
  else if within off 0x200 0x220 then
    w32 (((List.range 32).map fun j => flag (s.domClocked (32 * regIdx off 0x200 + j)) j).sum)
  else 0

def State.clkWrite (s : State) (off : Nat) (w : Word) : State :=
  if within off 0x100 0x120 then s.forceOffWrite (regIdx off 0x100) w else s

/-! ## PWR (R98) -/

def pwrKs (off : Nat) : Bool := within off 0x04 0x14 || within off 0x20 0x24

def State.pwrRead (s : State) (off : Nat) : Word :=
  match off with
  | 0x00 => w32 (pstateCode s.pwr.state + flag s.pwr.change.isSome 3 + s.pwr.result.toNat * 2 ^ 4 + flag s.pwr.offReady 7)
  | 0x04 => s.pwr.cmd.zeroExtend 32
  | 0x08 => s.pwr.wakeEn.zeroExtend 32
  | 0x0C => s.pwr.wakePol.zeroExtend 32
  | 0x10 => loW s.pwr.wakeAt
  | 0x14 => hiW s.pwr.wakeAt
  | 0x18 => s.pwr.resetCause.zeroExtend 32
  | 0x1C => w32 (s.pwr.bootStep + s.pwr.bootResult.toNat * 2 ^ 4)
  | 0x20 => s.pwr.wdogTimeout.zeroExtend 32
  | _ => 0

/-- The power state of a code (R88). -/
def pstateOf : Nat → Option PState
  | 0 => some .active
  | 1 => some .idle
  | 2 => some .hold
  | 3 => some .sleep
  | 4 => some .off
  | _ => none

/-- A write of PWR_CMD: a reset bit starts its reset, and otherwise STATE is requested. A code that is no power state is refused with
a RESULT the spec does not name. [DESIGN CHOICE, log 171] -/
def State.pwrCmd (s : State) (w : Word) : State :=
  if bit w 8 ∨ bit w 9 then
    let s1 := { s with pwr := { s.pwr with cmd := bv w 0 3 } }
    let s2 := if bit w 9 then s1.requestReset .cold false else s1
    if bit w 8 then s2.requestReset .warm false else s2
  else match pstateOf (fld w 0 3) with
    | some t => s.powerRequest t
    | none =>
      let d := ({ s with pwr := { s.pwr with cmd := bv w 0 3 } } : State).drawNat
      d.2.powerResult (BitVec.ofNat 3 (1 + d.1 % 3))

def State.pwrWrite (s : State) (off : Nat) (w : Word) : State :=
  match off with
  | 0x04 => s.pwrCmd w
  | 0x08 => { s with pwr := { s.pwr with wakeEn := bv w 0 20 } }
  | 0x0C => { s with pwr := { s.pwr with wakePol := bv w 0 16 } }
  | 0x10 => { s with pwr := { s.pwr with wakeAt := dword (hiW s.pwr.wakeAt) w } }
  | 0x14 => { s with pwr := { s.pwr with wakeAt := dword w (loW s.pwr.wakeAt) } }
  | 0x18 => { s with pwr := { s.pwr with resetCause := w1c s.pwr.resetCause (bv w 0 7) } }
  | 0x20 => { s with pwr := { s.pwr with wdogTimeout := bv w 0 23 } }
  | 0x24 => s.wdogKick w
  | _ => s

/-! ## LCS (R61, R62) -/

def lcsKs (off : Nat) : Bool := off == 4

def State.lcsRead (s : State) (off : Nat) : Word :=
  match off with
  | 0 => s.lcsStatus
  | 4 => s.life.cmd.zeroExtend 32
  | _ => 0

def State.lcsWrite (s : State) (off : Nat) (w : Word) : State := if off = 4 then s.lcsCmd (bv w 0 4) else s

/-! ## TAMP (R124, R126) -/

def tampKs (off : Nat) : Bool := within off 0x04 0x0C

/-- A log entry as it stands in the ring (R124). -/
def logBytes (e : LogEntry) : Bytes :=
  leBytes 8 e.time.toNat ++ leBytes 4 e.seq.toNat ++ [e.cls, e.source, byte e.level.toNat, byte e.flags.toNat]

/-- A word of the log ring; an entry never written is erased flash. -/
def State.logWord (s : State) (off : Nat) : Word :=
  wordAt (match s.tamp.log.find? fun x => x.1 == off / 16 with
    | some x => logBytes x.2
    | none => List.replicate 16 0xFF) (off % 16)

def State.tampRead (s : State) (off : Nat) : Word :=
  if within off 0x1000 0x1FFC then s.logWord (off - 0x1000)
  else if within off 0x40 0x5C then (tget s.tamp.temps (regIdx off 0x40) 0).zeroExtend 32
  else match off with
  | 0x00 => w32 (flag s.tamp.alarm 0 + flag s.tamp.frozen 1 + flag s.tamp.wind.isSome 2 + flag s.tamp.vbatLost 3 +
      s.tamp.lastClass.toNat * 2 ^ 4 + s.tamp.lastLevel.toNat * 2 ^ 8)
  | 0x04 => w32 (flag s.tamp.mapLock 1 + flag s.tamp.alarmOnL1 2 + s.tamp.raiseLevel.toNat * 2 ^ 8)
  | 0x08 => s.tamp.map.zeroExtend 32
  | 0x0C => s.tamp.tempWarn.zeroExtend 32
  | 0x10 => s.tamp.nextSeq
  | 0x20 => loW s.tamp.light
  | 0x24 => hiW s.tamp.light
  | _ => 0

/-- A write of TAMP_CTRL: the settings, then THAW and RAISE (R104, R105, R109). [DESIGN CHOICE, log 171] -/
def State.tampCtrl (s : State) (w : Word) : State :=
  let s1 := { s with tamp := { s.tamp with
    mapLock := s.tamp.mapLock || bit w 1, alarmOnL1 := bit w 2, raiseLevel := bv w 8 2 } }
  let s2 := if bit w 0 then s1.thaw else s1
  if bit w 10 then s2.tampRaise (bv w 8 2) else s2

def State.tampWrite (s : State) (off : Nat) (w : Word) : State :=
  match off with
  | 0x00 =>
    let s1 := if bit w 0 then s.alarmClear else s
    if bit w 3 then { s1 with tamp := { s1.tamp with vbatLost := false } } else s1
  | 0x04 => s.tampCtrl w
  | 0x08 => s.tampMapWrite w
  | 0x0C => { s with tamp := { s.tamp with tempWarn := bv w 0 8 } }
  | _ => s

/-! ## DBG (R63) -/

/-- [DEDUCED, log 170] -/
def dbgKs (off : Nat) : Bool := off == 0x0C || within off 0x1000 0x2FFC

def State.dbgRead (s : State) (off : Nat) : Word :=
  if within off 0x1000 0x2FFC then
    w32 (leNat ((List.range 4).map fun i => tget s.dbg.certBuf (off - 0x1000 + i) 0))
  else match off with
  | 0 => s.dbgStatus
  | 4 => w32 (s.ctrNat ctrDbgEpoch)
  | 8 => w32 s.secondsLeft
  | _ => 0

/-- Four bytes of DBG_CERT_BUF from offset `o`. -/
def State.certBufWrite (s : State) (o : Nat) (w : Word) : State :=
  let put (t : Tab Byte) (i : Nat) : Tab Byte := tset t (o + i) ((leBytes 4 w.toNat).getD i 0)
  { s with dbg := { s.dbg with certBuf := (List.range 4).foldl put s.dbg.certBuf } }

/-- A write of DBG_CTRL: PRESENT, ADVANCE, CLOSE for each bit that is 1. [DESIGN CHOICE, log 171] -/
def State.dbgCtrl (s : State) (w : Word) : State :=
  let s1 := if bit w 0 then s.dbgAdvance else s
  let s2 := if bit w 1 then s1.endSession else s1
  if bit w 2 then s2.dbgPresent else s2

def State.dbgWrite (s : State) (off : Nat) (w : Word) : State :=
  if within off 0x1000 0x2FFC then s.certBufWrite (off - 0x1000) w
  else if off = 0x0C then s.dbgCtrl w else s

end Sys2Proof.Machine
end

