-- ==== Sys2Proof/Machine/RegsUnit.lean ====
section
/-! DEFINITION. Control blocks VAULT, NVM, CASK, SCHED, EVT, DEC, PRESS and LAT: for each the registers it holds, what a read gives,
what a write does, and which of them keystone code alone reaches (R207, R245, R273, R313, R348, R379). -/

namespace Sys2Proof.Machine

open Sys2Proof

/-- The word whose bit `j` says whether `p` holds of `base + j`. -/
def bitWord (p : Nat → Bool) (base : Nat) : Word := w32 (((List.range 32).map fun j => flag (p (base + j)) j).sum)

/-! ## VAULT (R313) -/

def vaultKs (off : Nat) : Bool := off == 4 || within off 0x1000 0x1FFC

def State.vaultRead (s : State) (off : Nat) : Word :=
  if within off 0x1000 0x1FFC then w32 (s.cask (regIdx off 0x1000)).quota
  else if within off 0x3000 0x3FFC then w32 (s.slotsUsed (regIdx off 0x3000))
  else if off = 0 then
    w32 (flag s.vault.rootOk 0 + flag s.vault.pufFail 1 + flag s.vault.rngFail 2 + s.slotsFree * 2 ^ 16)
  else 0

def State.vaultWrite (s : State) (off : Nat) (w : Word) : State :=
  if within off 0x1000 0x1FFC then s.modCask (regIdx off 0x1000) fun k => { k with quota := fld w 0 14 }
  else if off = 4 ∧ bit w 0 then s.vaultRetest else s

/-! ## NVM (R301, R313) -/

def nvmKs (off : Nat) : Bool := within off 0 8 || off == 0x10

def State.nvmRead (s : State) (off : Nat) : Word :=
  if within off 0x40 0x5C then
    w32 (((List.range 16).map fun i => (s.nvm.rawStat.getD (16 * regIdx off 0x40 + i) 0).toNat * 4 ^ i).sum)
  else if within off 0x800 0xFFC then wordAt s.nvm.rawData (off - 0x800)
  else if within off 0x1000 0x1FFC then (tget s.nvm.ctrMap (regIdx off 0x1000) 0).zeroExtend 32
  else if within off 0x2000 0x2EFC then w32 (s.sectOwner (regIdx off 0x2000))
  else match off with
  | 0x00 => s.nvm.cmd.zeroExtend 32
  | 0x04 => s.nvm.arg0
  | 0x08 => s.nvm.arg1
  | 0x0C => w32 (s.nvm.result.toNat + flag s.nvm.busy 4 + flag s.nvm.deferred 5)
  | 0x10 => w32 (s.nvm.abortUnits.toNat + flag s.nvm.abortArm 8)
  | 0x14 => s.nvm.ctrGen
  | _ => 0

def State.nvmWrite (s : State) (off : Nat) (w : Word) : State :=
  match off with
  | 0x00 => s.nvmCommand (bv w 0 4)
  | 0x04 => { s with nvm := { s.nvm with arg0 := w } }
  | 0x08 => { s with nvm := { s.nvm with arg1 := w } }
  | 0x10 =>
    if s.life.state = .testOpen then { s with nvm := { s.nvm with abortUnits := bv w 0 7, abortArm := bit w 8 } } else s
  | _ => s

/-! ## CASK (R245) -/

def caskKs (off : Nat) : Bool :=
  off == 0 || off == 4 || off == 0x20 || off == 0x24 || within off 0x40 0x5C || within off 0x4000 0x5FFC ||
  within off 0x8000 0x81FC

/-- CASK_STAT of cask `n`: WHERE and RESIDENT while it holds a slot (R215, R245). -/
def State.caskStat (s : State) (n : Nat) : Word :=
  let k := s.cask n
  w32 (cstateCode k.state + flag k.slot.isSome 3 + flag (s.frozen && k.state != .disabled) 4 + flag (caskSealed k) 5 +
    k.slot.getD 0 * 2 ^ 6)

def State.caskRead (s : State) (off : Nat) : Word :=
  if within off 0x40 0x5C then tget s.caskBlk.classes (regIdx off 0x40) 0
  else if within off 0x4000 0x5FFC then
    (if off % 8 = 0 then
      w32 ((s.cask ((off - 0x4000) / 8)).cls.toNat + (s.cask ((off - 0x4000) / 8)).hostPath.toNat * 2 ^ 4) else 0)
  else if within off 0x6000 0x6FFC then s.caskStat (regIdx off 0x6000)
  else if within off 0x8000 0x81FC then winRead (s.cask s.caskBlk.sel.toNat) (off - 0x8000)
  else match off with
  | 0x00 => s.caskBlk.sel.zeroExtend 32
  | 0x04 => s.caskBlk.cmd.zeroExtend 32
  | 0x08 => s.caskBlk.result.zeroExtend 32
  | 0x10 => w32 (s.caskBlk.violSource.toNat + flag s.caskBlk.violWrite 3 + s.caskBlk.violCount.toNat * 2 ^ 8 +
      flag s.caskBlk.violNew 16)
  | 0x14 => s.caskBlk.violAddr
  | 0x20 => s.caskBlk.kslo
  | 0x24 => s.caskBlk.kshi
  | _ => 0

/-- Some cask is not DISABLED. -/
def State.anyEnabled (s : State) : Bool := s.casks.any fun e => e.2.state != .disabled

/-- Grants of R239: bits that no grant uses read 0. -/
def grantMask : Word := 0x1F3F

def State.caskWrite (s : State) (off : Nat) (w : Word) : State :=
  if within off 0x40 0x5C then
    { s with caskBlk := { s.caskBlk with classes := tset s.caskBlk.classes (regIdx off 0x40) (w &&& grantMask) } }
  else if within off 0x4000 0x5FFC then (if off % 8 = 0 then s.caskCtlWrite ((off - 0x4000) / 8) w else s)
  else if within off 0x8000 0x81FC then s.caskWinWrite (off - 0x8000) w
  else match off with
  | 0x00 => { s with caskBlk := { s.caskBlk with sel := bv w 0 10 } }
  | 0x04 => s.caskCommand (bv w 0 4)
  | 0x10 => if bit w 16 then { s with caskBlk := { s.caskBlk with violNew := false } } else s
  | 0x20 => if s.anyEnabled then s else { s with caskBlk := { s.caskBlk with kslo := w } }
  | 0x24 => if s.anyEnabled then s else { s with caskBlk := { s.caskBlk with kshi := w } }
  | _ => s

/-! ## SCHED and EVT (R273) -/

def schedKs (off : Nat) : Bool := off == 4 || within off 0x1000 0x1FFC

def State.schedRead (s : State) (off : Nat) : Word :=
  if within off 0x1000 0x1FFC then
    (let k := s.cask (regIdx off 0x1000)
     w32 (k.weight.toNat + k.prio.toNat * 2 ^ 8 + flag k.cap 10))
  else if within off 0x2000 0x2FFC then w32 (s.cask (regIdx off 0x2000)).budget
  else if within off 0x3000 0x3FFC then
    (let k := s.cask (regIdx off 0x3000)
     w32 (min k.used 0x1FFFF + flag k.boostUsed 31))
  else match off with
  | 0 => w32 (s.sched.slots.toNat + s.sched.w.toNat * 2 ^ 8)
  | 4 => s.sched.ksw.zeroExtend 32
  | _ => 0

/-- A weight: a write of 0 sets 1. -/
def weightOf (w : Word) : Byte := if bv w 0 8 = (0 : Byte) then 1 else bv w 0 8

def State.schedWrite (s : State) (off : Nat) (w : Word) : State :=
  if within off 0x1000 0x1FFC then
    s.modCask (regIdx off 0x1000) fun k => { k with weight := weightOf w, prio := bv w 8 2, cap := bit w 10 }
  else if off = 4 then { s with sched := { s.sched with ksw := weightOf w } }
  else s

def evtKs (off : Nat) : Bool := within off 0 0x2FFC

def State.evtRead (s : State) (off : Nat) : Word :=
  if within off 0 0xFFC then
    (let k := s.cask (regIdx off 0)
     w32 (k.group.toNat + flag k.toKs 8))
  else if within off 0x1000 0x1FFC then (s.cask (regIdx off 0x1000)).rxmask
  else if within off 0x2000 0x2FFC then (s.cask (regIdx off 0x2000)).boostMask
  else if within off 0x3000 0x307C then bitWord s.caskBlk.faulted.contains (32 * regIdx off 0x3000)
  else if within off 0x3080 0x30FC then bitWord s.caskBlk.drained.contains (32 * regIdx off 0x3080)
  else if within off 0x4000 0x4FFC then (s.cask (regIdx off 0x4000)).pend
  else 0

/-- The casks of a W1C array of bits that the word `w` at index `i` leaves set. -/
def w1cList (l : List Nat) (i : Nat) (w : Word) : List Nat := l.filter fun n => !(n / 32 == i && bit w (n % 32))

def State.evtWrite (s : State) (off : Nat) (w : Word) : State :=
  if within off 0 0xFFC then s.modCask (regIdx off 0) fun k => { k with group := bv w 0 8, toKs := bit w 8 }
  else if within off 0x1000 0x1FFC then s.modCask (regIdx off 0x1000) fun k => { k with rxmask := w }
  else if within off 0x2000 0x2FFC then s.modCask (regIdx off 0x2000) fun k => { k with boostMask := w }
  else if within off 0x3000 0x307C then
    { s with caskBlk := { s.caskBlk with faulted := w1cList s.caskBlk.faulted (regIdx off 0x3000) w } }
  else if within off 0x3080 0x30FC then
    { s with caskBlk := { s.caskBlk with drained := w1cList s.caskBlk.drained (regIdx off 0x3080) w } }
  else s

/-! ## DEC (R207) -/

def decKs (off : Nat) : Bool := within off 0x100 0x1FC || within off 0x1000 0x1FFC

def State.decRead (s : State) (off : Nat) : Word :=
  if within off 0x100 0x1FC then macWord (s.mac (regIdx off 0x100))
  else if within off 0x1000 0x1FFC then s.uop (regIdx off 0x1000)
  else if off = 0 then w32 (s.dec.badEntry.toNat + s.dec.badMacro.toNat * 2 ^ 10 + flag s.dec.err 16)
  else 0

def State.decWrite (s : State) (off : Nat) (w : Word) : State :=
  if within off 0x100 0x1FC then s.decMac (regIdx off 0x100) w
  else if within off 0x1000 0x1FFC then s.decUcode (regIdx off 0x1000) w
  else if off = 0 ∧ bit w 16 then { s with dec := { s.dec with err := false } }
  else s

/-! ## PRESS (R348) -/

/-- Suspended jobs, at most 31 (R341, R348). -/
def State.suspendedJobs (s : State) : Nat :=
  min 31 (s.press.pages.filter fun e => match e.2.job with
    | some j => j.suspended
    | none => false).length

/-- OWNER of a pipeline. -/
def pipeOwner : PipeUse → Nat
  | .idle => 0x7FF
  | .page n => n
  | .frame => 0x7FE

def State.pressRead (s : State) (off : Nat) : Word :=
  if within off 0x40 0x7C then w32 (pipeOwner (s.pipeAt (regIdx off 0x40)).use)
  else match off with
  | 0 => w32 (((List.range 16).filter s.pipeServes).length + min 10 s.framePipes * 2 ^ 8 + s.suspendedJobs * 2 ^ 16)
  | 4 => w32 (s.press.faultPage.toNat + s.press.faultPipe.toNat * 2 ^ 12 + s.press.faultCount.toNat * 2 ^ 16 +
      flag s.press.faultNew 24)
  | 8 => w32 (((List.range 16).map fun p => flag (pipeOut (s.pipeAt p)) p).sum)
  | _ => 0

def State.pressWrite (s : State) (off : Nat) (w : Word) : State :=
  if off = 4 ∧ bit w 24 then { s with press := { s.press with faultNew := false } } else s

/-! ## LAT (R379) -/

def latKs (off : Nat) : Bool := within off 0x1000 0x2000

def State.latRead (s : State) (off : Nat) : Word :=
  if within off 0x1000 0x2000 then w32 (tget s.lat.quota (regIdx off 0x1000) 0)
  else if within off 0x3000 0x4000 then w32 (s.vatUsed (regIdx off 0x3000))
  else match off with
  | 0 => w32 (((List.range 8).filter s.laneServes).length + s.vatFree * 2 ^ 16)
  | 4 => w32 (s.lat.faultPage.toNat + s.lat.faultLane.toNat * 2 ^ 12 + flag s.lat.faultNew 16)
  | _ => 0

def State.latWrite (s : State) (off : Nat) (w : Word) : State :=
  if within off 0x1000 0x2000 then
    { s with lat := { s.lat with quota := tset s.lat.quota (regIdx off 0x1000) (fld w 0 12) } }
  else if off = 4 ∧ bit w 16 then { s with lat := { s.lat with faultNew := false } }
  else s

end Sys2Proof.Machine
end

