-- ==== Sys2Proof/Machine/Link.lean ====
section
/-! DEFINITION. The Gytra link layer: lane control, sequence numbers, acknowledgement and replay, and the LNK ports (R406-R439,
R443). The training exchange and its effects above the link stand in Training.lean. -/

namespace Sys2Proof.Machine

open Sys2Proof

/-! ## LINK_CFG and LINK_CTRL (R406, R407, R426, R429, R442) -/

/-- VC counts that a generation allows (R406); generation 0 leaves the lane unusable, and any count stands. [DEDUCED, log 129] -/
def vcsAllowed (gen vcs : Nat) : Bool :=
  match gen with
  | 0 => true
  | 1 => vcs == 1
  | 2 => vcs == 2 || vcs == 4
  | _ => decide (2 ≤ vcs) && decide (vcs ≤ 8)

/-- A write of LINK_CFG; ignored with CFG_ERR unless the lane is DOWN and VCS is allowed (R407). -/
def State.linkCfg (s : State) (l : Nat) (w : Word) : State :=
  s.modLane l fun x =>
    if x.state = .down ∧ vcsAllowed (fld w 2 2) (fld w 4 4) then
      { x with role := bv w 0 2, gen := bv w 2 2, vcs := bv w 4 4, ffe := bv w 8 2 }
    else { x with cfgErr := true }

/-- Both clock domains of the lane run: lane digital and link layer (R74). -/
def State.laneClocked (s : State) (l : Nat) : Bool := !s.clk.off.contains (168 + l) && !s.clk.off.contains (180 + l)

/-- LINK_CTRL.TRAIN: a DOWN lane that has a role and a generation starts to calibrate (R426, R442). [DEDUCED, log 129] -/
def State.linkTrain (s : State) (l : Nat) : State :=
  let x := s.laneAt l
  if x.state = .down ∧ x.gen ≠ 0 ∧ x.role ≠ 0 ∧ s.laneClocked l then s.laneTo l .cal else s

/-- Four RETRAIN control packets (R429). -/
def State.sendRetrain (s : State) (l : Lane) : State :=
  (List.range 4).foldl (fun t _ => t.sendCtrl l 0x06 0 0 0) s

/-- An UP lane retrains at this end's wish (R429). -/
def State.retrainOwn (s : State) (l : Lane) : State := (s.sendRetrain l).laneTo l.val .retrain

/-- LINK_CTRL.RETRAIN (R426). -/
def State.linkRetrain (s : State) (l : Lane) : State := if (s.laneAt l.val).state = .up then s.retrainOwn l else s

/-- The link is broken with cause `c` (R422, R424, R426, R442). -/
def State.linkBroken (s : State) (l : Lane) (c : BitVec 4) : State :=
  (s.modLane l.val fun x => { x with cause := c, cntBroken := satAdd1 x.cntBroken }).retrainOwn l

def execLinkCfgWrite (l : Lane) (value : Word) (s : State) : Host.Outcome State Fault Refusal :=
  .next (if s.ksWriter then s.linkCfg l.val value else s)
def execLinkCtrlTrain (l : Lane) (s : State) : Host.Outcome State Fault Refusal :=
  .next (if s.ksWriter then s.linkTrain l.val else s)
/-- LINK_CTRL_DOWN: from any state (R426). -/
def execLinkCtrlDown (l : Lane) (s : State) : Host.Outcome State Fault Refusal :=
  .next (if s.ksWriter then s.laneDown l.val else s)
def execLinkCtrlRetrain (l : Lane) (s : State) : Host.Outcome State Fault Refusal :=
  .next (if s.ksWriter then s.linkRetrain l else s)

/-! ## Calibration, lock and time limits (R426, R429) -/

/-- LANE_CAL_DONE: the synthesiser is calibrated (R66, R426). -/
def execLaneCalDone (l : Lane) (s : State) : Host.Outcome State Fault Refusal :=
  .next (if (s.laneAt l.val).state = .cal then s.laneTo l.val .wait else s)

/-- LANE_LOCK: lock in WAIT starts TRAIN, with polarity inversion corrected; in RETRAIN lock is regained (R426, R429).
[DEDUCED, log 130] -/
def execLaneLock (l : Lane) (inverted : Bool) (s : State) : Host.Outcome State Fault Refusal :=
  .next (match (s.laneAt l.val).state with
    | .wait => (s.laneTo l.val .train).modLane l.val fun x => { x with polinv := inverted }
    | .retrain => s.modLane l.val fun x => { x with locked := true, polinv := inverted }
    | _ => s)

/-- LANE_TRAIN_TIMEOUT: TRAIN has lasted 500 µs (R426). [DEDUCED, log 130] -/
def execLaneTrainTimeout (l : Lane) (s : State) : Host.Outcome State Fault Refusal :=
  .next (if (s.laneAt l.val).state = .train then
    (s.modLane l.val fun x => { x with cause := 4 }).laneTo l.val .wait
  else s)

/-- A retrain attempt has failed: the next begins, or after the third the lane enters WAIT with FAILED (R429, R431).
[DEDUCED, log 130] -/
def State.retrainFailed (s : State) (l : Nat) : State :=
  let x := s.laneAt l
  if x.attempt.toNat < 3 then
    s.setLane l { x with attempt := x.attempt + 1, tsCount := 0, ts2 := false, ts2Count := 0, locked := false }
  else (s.setLane l { x with cause := 7, evtFail := true }).ksLine lineLink |>.laneTo l .wait

/-- RETRAIN_ATTEMPT_TIMEOUT: no lock within 100 µs, or R428 not complete within 500 µs of lock (R429). -/
def execRetrainAttemptTimeout (l : Lane) (s : State) : Host.Outcome State Fault Refusal :=
  .next (if (s.laneAt l.val).state = .retrain then s.retrainFailed l.val else s)

/-- RETRAIN: the partner's control packet (R426, R429, R443). -/
def execRetrain (l : Lane) (s : State) : Host.Outcome State Fault Refusal :=
  .next (if (s.laneAt l.val).state = .up then
    (s.modLane l.val fun x => { x with cause := 8 }).laneTo l.val .retrain
  else s)

/-! ## Acknowledgement and replay (R417-R424) -/

/-- How many packets of a replay buffer an ACK or NAK with `seq` frees; `none` for packets never sent (R419, R422).
[DEDUCED, log 131] -/
def acked (c : VcState) (seq : BitVec 12) : Option Nat :=
  let oldest := match c.replay with
    | p :: _ => p.seq
    | [] => c.txSeq
  let d := (seq - oldest).toNat
  if d < c.replay.length then some (d + 1) else if 2048 ≤ d then some 0 else none

/-- A freed packet completes its request when that was POSTED (R438). -/
def State.pktFreed (s : State) (p : TxPkt) : State :=
  match p.owner with
  | none => s
  | some n =>
    match (s.lnkPage n).job with
    | some j => if j.posted then s.lnkComplete n 0 else s
    | none => s

/-- The packets that an ACK or NAK acknowledges are freed; waiting packets take their credits (R419, R423, R438).
[DEDUCED, log 131] -/
def State.freeAcked (s : State) (l v k : Nat) : State :=
  let c := s.vcAt l v
  let s1 := s.setVc l v { c with replay := c.replay.drop k }
  ((c.replay.take k).foldl State.pktFreed s1).pump l v

/-- The unacknowledged packets of a VC are sent again in order; a fifth replay breaks the link (R421, R422). -/
def State.replayVc (s : State) (l : Lane) (v : Nat) : State :=
  let c := s.vcAt l.val v
  if c.replay.any (fun p => decide (5 ≤ p.sent)) then s.linkBroken l 5
  else
    let x := s.laneAt l.val
    let s1 := s.setLane l.val { x with cntReplay := w32 (min (2 ^ 32 - 1) (x.cntReplay.toNat + c.replay.length)) }
    s1.setVc l.val v { c with replay := c.replay.map fun p => { p with sent := p.sent + 1 } }

/-- ACK (R419, R422): only while UP, on an agreed VC. -/
def execAck (l : Lane) (vc : Vc) (seq : BitVec 12) (s : State) : Host.Outcome State Fault Refusal :=
  .next (let x := s.laneAt l.val
    if x.state = .up ∧ vc.val < x.v then
      match acked (x.vcAt vc.val) seq with
      | some k => s.freeAcked l.val vc.val k
      | none => s
    else s)

/-- NAK: frees what it acknowledges, then replays the rest (R421). -/
def execNak (l : Lane) (vc : Vc) (seq : BitVec 12) (s : State) : Host.Outcome State Fault Refusal :=
  .next (let x := s.laneAt l.val
    if x.state = .up ∧ vc.val < x.v then
      match acked (x.vcAt vc.val) seq with
      | some k =>
        let c := s.vcAt l.val vc.val
        let s1 := s.setVc l.val vc.val { c with replay := c.replay.drop k }
        (((c.replay.take k).foldl State.pktFreed s1).replayVc l vc.val).pump l.val vc.val
      | none => s
    else s)

/-- REPLAY_TIMER: the oldest unacknowledged packet has waited 4 timer periods (R421); the timer stands still while not UP (R433).
[DEDUCED, log 134] -/
def execReplayTimer (l : Lane) (vc : Vc) (s : State) : Host.Outcome State Fault Refusal :=
  .next (if (s.laneAt l.val).state = .up ∧ (s.vcAt l.val vc.val).replay ≠ [] then s.replayVc l vc.val else s)

/-- CREDIT_TIMEOUT: credits held and none freed for 50 µs (R424, R433). [DEDUCED, log 134] -/
def execCreditTimeout (l : Lane) (vc : Vc) (s : State) : Host.Outcome State Fault Refusal :=
  .next (if (s.laneAt l.val).state = .up ∧ (s.vcAt l.val vc.val).replay ≠ [] then s.linkBroken l 6 else s)

/-- An ACK for what the VC has accepted (R418, R419). -/
def State.sendAck (s : State) (l : Lane) (v : Nat) : State :=
  let c := s.vcAt l.val v
  (s.setVc l.val v { c with sinceAck := 0 }).sendCtrl l 0x01 v (c.exp - 1) 0

/-- ACK_TIMER: the timer has run since a packet not yet acknowledged (R419, R433). [DEDUCED, log 134] -/
def execAckTimer (l : Lane) (vc : Vc) (s : State) : Host.Outcome State Fault Refusal :=
  .next (if (s.laneAt l.val).state = .up ∧ 0 < (s.vcAt l.val vc.val).sinceAck then s.sendAck l vc.val else s)

/-! ## Receiving data packets (R414, R418, R425) -/

/-- A packet that is discarded unacknowledged (R414). -/
def State.countCrc (s : State) (l : Nat) : State := s.modLane l fun x => { x with cntCrc := satAdd1 x.cntCrc }
/-- A packet without a consumer (R425). -/
def State.countDrop (s : State) (l : Nat) : State := s.modLane l fun x => { x with cntDrop := satAdd1 x.cntDrop }

/-- The packet is in sequence: accepted; the sixteenth since the last ACK sends one (R418, R419). -/
def State.rxAccept (s : State) (l : Lane) (v : Nat) : State :=
  let c := s.vcAt l.val v
  let s1 := s.setVc l.val v { c with exp := c.exp + 1, nakOut := false, sinceAck := c.sinceAck + 1 }
  if 16 ≤ c.sinceAck + 1 then s1.sendAck l v else s1

/-- A received packet: discarded, refused with a NAK or an ACK, or accepted and delivered (R414, R418). [DEDUCED, log 128, 131] -/
def State.rxPacket (s : State) (l : Lane) (p : Pkt) (deliver : State → State) : State :=
  let x := s.laneAt l.val
  let v := p.vc.val
  if x.state ≠ .up then s
  else if x.v ≤ v ∨ 1024 < p.body.length then s.countCrc l.val
  else
    let c := x.vcAt v
    let d := (p.seq - c.exp).toNat
    if d = 0 then deliver (s.rxAccept l v)
    else if d < 2048 then
      if c.nakOut then s
      else (s.setVc l.val v { c with nakOut := true, sinceAck := 0 }).sendCtrl l 0x02 v (c.exp - 1) 0
    else s.sendAck l v

/-- DISCARDED_PACKET (R414). [DEDUCED, log 128] -/
def execDiscardedPacket (l : Lane) (s : State) : Host.Outcome State Fault Refusal :=
  .next (if (s.laneAt l.val).state = .up then s.countCrc l.val else s)

/-- REQ: Nelvo has no consumer for one (R425). -/
def execReq (l : Lane) (p : Pkt) (s : State) : Host.Outcome State Fault Refusal :=
  .next (s.rxPacket l p fun t => t.countDrop l.val)

/-! ## LNK ports (R435-R439) -/

/-- LINK_VCOWN names the requester (R437, R442). -/
def State.vcNames (s : State) (n : Nat) (l v : Nat) : Bool :=
  let o := (s.vcAt l v).owner.toNat
  o == n || (o == 0x7FD && decide (n < 1024))

/-- The first check of R437 that a request fails. -/
def State.lnkCheck (s : State) (c : Ctx) (p : LnkPage) : Option (BitVec 5) :=
  let l := fld p.dest 0 4
  let v := fld p.dest 4 3
  let x := s.laneAt l
  if 12 ≤ l ∨ x.role = 0 ∨ (x.state = .up ∧ x.v ≤ v) ∨ ¬ s.vcNames (ctxNum c) l v then some 2
  else if 1024 < p.len.toNat ∨ 1024 < p.rcap.toNat then some 3
  else if ¬ s.engineRange c p.src.toNat p.len.toNat false ∨ ¬ s.engineRange c p.rbuf.toNat p.rcap.toNat true then some 4
  else if ¬ s.queueRoom l v then some 1
  else none

/-- The request that the ports of a page name. -/
def lnkReqOf (p : LnkPage) : LnkReq :=
  { lane := Fin.ofNat 12 (fld p.dest 0 4), vc := Fin.ofNat 8 (fld p.dest 4 3), addr := bv p.dest 8 8, tag := bv p.dest 16 16,
    posted := bit p.cfg 22, rbuf := p.rbuf, rcap := p.rcap.toNat, line := bv p.cfg 16 5, event := bit p.cfg 21,
    tmo := bv p.cfg 0 16 }

/-- LNK.GO (R437): REFUSED while a request is held; else the ports are latched and checked, and the payload copied into the queue.
[DEDUCED, log 133] -/
def State.lnkSubmit (s : State) (c : Ctx) : State :=
  let n := ctxNum c
  let p := s.lnkPage n
  if p.job.isSome then s.setLnk n { p with refused := true }
  else
    let j := lnkReqOf p
    let s1 := s.setLnk n { p with job := some j, refused := false, result := 0 }
    match s.lnkCheck c p with
    | some code => s1.lnkComplete n code
    | none => s1.enqueue j.lane.val j.vc.val
        { typ := .req, addr := j.addr, tag := j.tag, body := s.rdBytes p.src.toNat p.len.toNat, owner := some n }

def execLnkGo (c : Ctx) (s : State) : Host.Outcome State Fault Refusal :=
  .next (if s.canTrigger c ∧ s.granted c 2 then s.lnkSubmit c else s)

/-- LNK.CANCEL: the request ends with ABORTED (R439). -/
def State.lnkCancel (s : State) (c : Ctx) : State := s.lnkComplete (ctxNum c) 8
def execLnkCancel (c : Ctx) (s : State) : Host.Outcome State Fault Refusal :=
  .next (if s.canTrigger c ∧ s.granted c 2 then s.lnkCancel c else s)

/-- LNK_REQUEST_TIMEOUT: TMO has run while the lane was UP (R433, R438). [DEDUCED, log 133, 134] -/
def execLnkRequestTimeout (c : Ctx) (s : State) : Host.Outcome State Fault Refusal :=
  .next (match (s.lnkPage (ctxNum c)).job with
    | none => s
    | some j =>
      if j.tmo ≠ 0 ∧ ¬ j.posted ∧ (s.laneAt j.lane.val).state = .up then s.lnkComplete (ctxNum c) 6 else s)

/-- The page whose request a response answers: lane, VC, ADDR and TAG equal (R438). [DEDUCED, log 133] -/
def State.lnkMatch (s : State) (l : Lane) (p : Pkt) : Option Nat :=
  (s.lnk.find? fun e => match e.2.job with
    | some j => !j.posted && j.lane == l && j.vc == p.vc && j.addr == p.addr && j.tag == p.tag
    | none => false).map (·.1)

/-- A response reaches its request: payload written up to RCAP, RLEN, OK or TRUNCATED (R438). -/
def State.lnkRespond (s : State) (l : Lane) (p : Pkt) : State :=
  match s.lnkMatch l p with
  | none => s.countDrop l.val
  | some n =>
    match (s.lnkPage n).job with
    | none => s
    | some j =>
      let s1 := s.engineWrite (ctxOf n) j.rbuf.toNat (p.body.take j.rcap)
      let s2 := s1.setLnk n { s1.lnkPage n with rlen := BitVec.ofNat 11 (min j.rcap p.body.length) }
      s2.lnkComplete n (if j.rcap < p.body.length then 7 else 0)

def execRsp (l : Lane) (p : Pkt) (s : State) : Host.Outcome State Fault Refusal :=
  .next (s.rxPacket l p fun t => t.lnkRespond l p)

end Sys2Proof.Machine
end

