-- ==== Sys2Proof/Machine/Tile.lean ====
section
/-! DEFINITION. Tile chains: presence search and enumeration, authentication and session keys, the control loop, loss and return
(R444-R477). The rows of MGMT packets carry the body that follows the 4-byte prefix. -/

namespace Sys2Proof.Machine

open Sys2Proof

/-! ## Discovery (R446, R451-R460) -/

/-- The lane feeds a chain (R26, R449). -/
def State.chainLane (s : State) (l : Nat) : Bool := (s.laneAt l).role == 2
/-- AUTO of the lane (R476). -/
def State.autoOn (s : State) (l : Nat) : Bool := bit s.tile.auto l

/-- The next ENUM goes out with the lowest free address; with none free the enumeration ends (R458, R459). -/
def State.enumNext (s : State) (l : Nat) : State :=
  match s.freeAddr l with
  | none => s.modChain l fun c => { c with enum := none }
  | some a =>
    (s.modChain l fun c => { c with enum := some (BitVec.ofNat 6 a) }).sendMgmt l 0xFF 0x01 [byte a]

/-- A search starts its first pass (R451). -/
def State.startSearch (s : State) (l : Nat) : State :=
  s.modChain l fun c => { c with pstate := .searching, restarts := 0, search := some {}, scheduled := false }

/-- A discovery: a search on a G1 chain, an enumeration on a G2 or G3 chain. One that runs goes on; a chain that is STUCK_LOW or
UNSTABLE runs no search (R454-R457). [DEDUCED, log 138] -/
def State.startDiscovery (s : State) (l : Nat) : State :=
  if ¬ s.chainLane l then s
  else if (s.laneAt l).gen = 1 then (if (s.chainAt l).pstate = .idle then s.startSearch l else s)
  else if (s.chainAt l).enum.isSome then s
  else s.enumNext l

/-- A discovery runs on the chain. -/
def State.discovering (s : State) (l : Nat) : Bool :=
  (s.chainAt l).search.isSome || (s.chainAt l).pstate == .waiting || (s.chainAt l).enum.isSome

/-- The pass is aborted: its unconfirmed IDs discarded; the eighth time the chain is UNSTABLE (R453, R454). -/
def State.abortPass (s : State) (l : Nat) : State :=
  let n := (s.chainAt l).restarts + 1
  if 8 ≤ n then (s.modChain l fun c => { c with restarts := n, search := none, pstate := .unstable }).tileAlert l
  else s.modChain l fun c => { c with restarts := n, search := none, pstate := .waiting }

/-- PRESENCE_PULSE: inside a pass it aborts the pass, outside it schedules a discovery (R453, R455). [DEDUCED, log 136] -/
def execPresencePulse (l : Lane) (s : State) : Host.Outcome State Fault Refusal :=
  .next (if s.alive ∧ s.chainLane l.val then
    match (s.chainAt l.val).pstate with
    | .searching => s.abortPass l.val
    | .idle => s.modChain l.val fun c => { c with scheduled := true }
    | _ => s
  else s)

/-- PASS_RESTART_TIMER: 2 ms after an aborted pass a new one starts from the root (R453). -/
def execPassRestartTimer (l : Lane) (s : State) : Host.Outcome State Fault Refusal :=
  .next (if (s.chainAt l.val).pstate = .waiting then
    s.modChain l.val fun c => { c with pstate := .searching, search := some {} }
  else s)

/-- DISCOVERY_START: 2 ms after a pulse (R455). -/
def execDiscoveryStart (l : Lane) (s : State) : Host.Outcome State Fault Refusal :=
  .next (if (s.chainAt l.val).scheduled then
    (s.modChain l.val fun c => { c with scheduled := false }).startDiscovery l.val
  else s)

/-- One search sequence from bit `i` down: `follow` is the branch still to take, `path` the bits taken, `new` the branches met where a 0 and
a 1 answered. The ID and those branches, deepest first; `none` when no tile answers (R451). [DEDUCED, log 136] -/
def searchWalk : Nat → List Dword → List Bool → List Bool → List (List Bool) → Option (Dword × List (List Bool))
  | 0, _, _, path, new => some (BitVec.ofNat 64 (path.foldl (fun a b => 2 * a + b.toNat) 0), new)
  | i + 1, tiles, follow, path, new =>
    let zero := tiles.filter fun t => !bit t i
    let one := tiles.filter fun t => bit t i
    if tiles.isEmpty then none
    else match follow with
      | b :: bs => searchWalk i (if b then one else zero) bs (path ++ [b]) new
      | [] =>
        if zero.isEmpty then searchWalk i one [] (path ++ [true]) new
        else searchWalk i zero [] (path ++ [false]) (if one.isEmpty then new else (path ++ [true]) :: new)

/-- The pass is over: its IDs are confirmed, or with none found the discovery ends (R452). -/
def passEnd (x : Search) (c : Chain) : Chain :=
  if x.found.isEmpty then { c with search := none, pstate := .idle }
  else { c with search := some { x with todo := [], confirm := some x.found } }

/-- A chain after one sequence among the tiles that take part (R451). [DEDUCED, log 136] -/
def searchStep (tiles : List Dword) (x : Search) (c : Chain) : Chain :=
  match x.todo with
  | [] => passEnd x c
  | p :: ps =>
    match searchWalk 64 tiles p [] [] with
    | none => if tiles.isEmpty ∨ ps.isEmpty then passEnd x c else { c with search := some { x with todo := ps } }
    | some (id, new) =>
      let y : Search := { x with found := x.found ++ [id], todo := new ++ ps }
      if y.todo.isEmpty then passEnd y c else { c with search := some y }

/-- SEARCH_SEQUENCE: a reset, SEARCH and 192 slots among the tiles with the IDs `tiles` (R451). [DEDUCED, log 137] -/
def execSearchSequence (l : Lane) (tiles : List Dword) (s : State) : Host.Outcome State Fault Refusal :=
  .next (match (s.chainAt l.val).pstate, (s.chainAt l.val).search with
    | .searching, some x => if x.confirm.isSome then s else s.modChain l.val (searchStep tiles x)
    | _, _ => s)

/-- A tile is found at an address; it authenticates when AUTO is 1 (R446, R462). -/
def State.tileFound (s : State) (l a : Nat) (id : Dword) : State :=
  (s.setTile (tileKey l a) { id := id, state := .found, wantAuth := s.autoOn l }).authPump

/-- The address an ID gets: the one it holds, else the lowest free one (R446). [DEDUCED, log 136] -/
def State.addrFor (s : State) (l : Nat) (id : Dword) : Option Nat :=
  match (s.chainTiles l).find? fun k => (s.tileAt k).id == id with
  | some k => some (k % 64)
  | none => s.freeAddr l

/-- CONFIRM_SEQUENCE: the ID is used when CONFIRM returns its address with [7:6] = 0b10; otherwise it is discarded (R452).
[DEDUCED, log 136] -/
def State.confirmOne (s : State) (l : Nat) (id : Dword) (rest : List Dword) (reply : Byte) : State :=
  let s1 := s.modChain l fun c =>
    if rest.isEmpty then { c with search := none, pstate := .idle }
    else { c with search := c.search.map fun x => { x with confirm := some rest } }
  match s.addrFor l id with
  | none => s1
  | some a =>
    if reply = byte (a + 0x80) ∧ ¬ (tileHeld (s.tileAt (tileKey l a))) then s1.tileFound l a id else s1

/-- [DEDUCED, log 137] -/
def execConfirmSequence (l : Lane) (reply : Byte) (s : State) : Host.Outcome State Fault Refusal :=
  .next (match (s.chainAt l.val).pstate, ((s.chainAt l.val).search.bind (·.confirm)) with
    | .searching, some (id :: rest) => s.confirmOne l.val id rest reply
    | _, _ => s)

/-- UNSTABLE_RETRY_TIMER (R454). -/
def execUnstableRetryTimer (l : Lane) (s : State) : Host.Outcome State Fault Refusal :=
  .next (if (s.chainAt l.val).pstate = .unstable then
    (s.modChain l.val fun c => { c with pstate := .idle, restarts := 0 }).startDiscovery l.val
  else s)

/-- STUCK_LOW_DETECT (R456); with its clock domain off the wire is not watched. -/
def execStuckLowDetect (l : Lane) (s : State) : Host.Outcome State Fault Refusal :=
  .next (if s.alive ∧ s.chainLane l.val ∧ (s.chainAt l.val).pstate ≠ .stuckLow ∧ (s.chainAt l.val).pstate ≠ .off then
    (s.modChain l.val fun c => { c with pstate := .stuckLow, search := none, scheduled := false }).tileAlert l.val
  else s)

/-- STUCK_LOW_CHECK: the wire was high throughout the 10 ms, or not (R456). -/
def execStuckLowCheck (l : Lane) (high : Bool) (s : State) : Host.Outcome State Fault Refusal :=
  .next (if (s.chainAt l.val).pstate = .stuckLow ∧ high then
    (s.modChain l.val fun c => { c with pstate := .idle }).startDiscovery l.val
  else s)

/-- ENUM_RSP: the tile that took the address offered, then the next ENUM (R458). -/
def State.enumAnswer (s : State) (l : Nat) (p : Pkt) : State :=
  match (s.chainAt l).enum with
  | none => s
  | some a =>
    if p.addr.toNat = a.toNat ∧ p.body.length = 16 then
      (s.tileFound l a.toNat (BitVec.ofNat 64 (leNat (p.body.take 8)))).enumNext l
    else s
def execEnumRsp (l : Lane) (p : Pkt) (s : State) : Host.Outcome State Fault Refusal :=
  .next (s.rxPacket l p fun t => t.enumAnswer l.val p)

/-! ## PING (R448, R472) -/

/-- A PING to a tile. -/
def State.pingTile (s : State) (k : Nat) : State :=
  (s.modTile k fun t => { t with exch := t.exch ++ [.ping] }).sendMgmt (k / 64) (byte (k % 64)) 0x04 []

/-- An exchange of a tile has its answer. -/
def dropExch (m : Mgmt) (t : Tile) : Tile := { t with exch := t.exch.erase m }

/-- PONG: it answers a PING when it carries the tile's ID (R447, R472). -/
def State.pongAnswer (s : State) (l : Nat) (p : Pkt) : State :=
  let k := tileKey l p.addr.toNat
  if p.addr.toNat < 64 ∧ p.body = leBytes 8 (s.tileAt k).id.toNat then s.modTile k (dropExch .ping) else s
def execPong (l : Lane) (p : Pkt) (s : State) : Host.Outcome State Fault Refusal :=
  .next (s.rxPacket l p fun t => t.pongAnswer l.val p)

/-- LINK_CHANGE: a hop that entered UP starts an enumeration; one that left UP has every addressed tile that is not under authentication
pinged (R460, R472). [DEDUCED, log 138] -/
def State.linkChange (s : State) (l : Nat) (p : Pkt) : State :=
  match p.body.head? with
  | some 1 => if (s.laneAt l).gen = 1 then s else s.startDiscovery l
  | some 0 => ((s.chainTiles l).filter fun k => (s.tileAt k).state != .auth).foldl State.pingTile s
  | _ => s
def execLinkChange (l : Lane) (p : Pkt) (s : State) : Host.Outcome State Fault Refusal :=
  .next (s.rxPacket l p fun t => t.linkChange l.val p)

/-! ## Authentication (R461-R466) -/

/-- The exchange a tile is at. -/
def State.atExch (s : State) (k : Nat) (m : Mgmt) : Bool := (s.tileAt k).state == .auth && (s.tileAt k).exch.contains m

/-- AUTH_EPHEMERAL_KEYGEN_DONE: AUTH_HELLO goes out with a fresh nonce and X25519 key (R462). [DEDUCED, log 139] -/
def State.authHello (s : State) (l a : Nat) : State :=
  let k := tileKey l a
  let d := s.drbg 48
  let priv := d.1.take 32
  let nonce := d.1.drop 32
  let pub := Config.ecPublic 0x13 priv
  let body := nonce ++ pub ++ leBytes 8 Config.deviceId.toNat ++ [byte l, byte a, 0, 0]
  (d.2.modTile k fun t => { dropExch .keygen t with
    exch := t.exch.erase .keygen ++ [.hello], nonceN := nonce, ephPriv := priv, ephN := pub, hello := body }).sendMgmt l (byte a)
    0x10 body

def execAuthEphemeralKeygenDone (l : Lane) (addr : BitVec 6) (s : State) : Host.Outcome State Fault Refusal :=
  .next (if s.alive ∧ ¬ s.vault.rngFail ∧ s.atExch (tileKey l.val addr.toNat) .keygen then s.authHello l.val addr.toNat else s)

/-- AUTH_RESP: its verification starts on the PKE unit (R463). -/
def State.authAnswer (s : State) (l : Nat) (p : Pkt) : State :=
  let k := tileKey l p.addr.toNat
  if p.addr.toNat < 64 ∧ s.atExch k .hello then
    s.modTile k fun t => { t with resp := p.body, exch := t.exch.erase .hello ++ [.verify] }
  else s
def execAuthResp (l : Lane) (p : Pkt) (s : State) : Host.Outcome State Fault Refusal :=
  .next (s.rxPacket l p fun t => t.authAnswer l.val p)

/-- Key TYPE of a certificate's ALG (R399, R461). -/
def algType (alg : Nat) : Nat := if alg = 1 then 0x10 else if alg = 2 then 0x11 else 0x12
/-- Bytes of a maker key and of a maker signature. -/
def algKeyLen (alg : Nat) : Nat := if alg = 1 then 65 else if alg = 2 then 97 else 32
def algSigLen (alg : Nat) : Nat := if alg = 2 then 96 else 64

/-- The maker entry that is VALID with MAKER_ID and ALG (R463). -/
def State.makerFor (s : State) (id : Word) (alg : Nat) : Option Nat :=
  (List.range 8).find? fun m => (s.makerAt m).valid && (s.makerAt m).id == id && (s.makerAt m).alg.toNat == alg

/-- The certificate is well formed and names the tile (R461, R463). -/
def certOk (resp : Bytes) (id : Dword) : Bool :=
  let b (i : Nat) : Byte := resp.getD i 0
  let zero (off n : Nat) : Bool := slice resp off n == zeros n
  resp.length == 272 && leNat (slice resp 0 4) == 0x54434C54 && b 4 == 1 && decide (1 ≤ (b 5).toNat) &&
    decide ((b 5).toNat ≤ 3) && zero 6 2 && leNat (slice resp 8 8) == id.toNat && zero 0x3A 6 &&
    ((b 5) == 2 || zero 0x80 32)

/-- H of an exchange: the AUTH_HELLO body and the AUTH_RESP body without SIG (R462). -/
def tileH (t : Tile) : Bytes := sha256 (t.hello ++ t.resp.take 208)

/-- Key bytes of a maker entry. -/
def makerKey (m : Maker) (n : Nat) : Bytes := (List.range n).map fun i => tget m.key i 0

/-- The checks of R463 in order: the FAIL code of the first failure, or the maker entry and Z. An agreement without result fails as
BAD_SIG. [DEDUCED, log 139; DESIGN CHOICE, log 46] -/
def State.authCheck (s : State) (k : Nat) : Except (BitVec 4) (Nat × Bytes) :=
  let t := s.tileAt k
  let alg := (t.resp.getD 5 0).toNat
  match s.makerFor (wordAt t.resp 0x10) alg with
  | none => .error 1
  | some m =>
    if !certOk t.resp t.id then .error 2
    else if !Config.ecVerify (algType alg) (makerKey (s.makerAt m) (algKeyLen alg)) (t.resp.take 64)
        (slice t.resp 0x40 (algSigLen alg)) then .error 2
    else if !Config.ecVerify 0x12 (slice t.resp 0x18 32) (ascii "KZN1-TIL" ++ tileH t) (slice t.resp 208 64) then .error 3
    else if s.tile.tiles.any (fun e => e.1 != k && (e.2.state == .auth || e.2.state == .active) && e.2.id == t.id) then .error 5
    else match Config.ecAgree 0x13 t.ephPriv (slice t.resp 160 32) with
      | none => .error 3
      | some z => .ok (m, z)

/-- The tile FAILED with a code; its session ends (R463). -/
def State.authFail (s : State) (k : Nat) (code : BitVec 4) : State := s.tileEnd k .failed code

/-- The verification is done: the tile FAILED, or keys derived and AUTH_FIN sent (R462-R464). [DEDUCED, log 139] -/
def State.authVerified (s : State) (l a : Nat) : State :=
  let k := tileKey l a
  match s.authCheck k with
  | .error code => s.authFail k code
  | .ok (m, z) =>
    let t := s.tileAt k
    let h := tileH t
    let ks := sha256 ([0, 0, 0, 1] ++ z ++ h)
    let ctl := kdf ks "TCTL" (h.take 16)
    (s.setTile k { t with
      exch := t.exch.erase .verify ++ [.fin], maker := some (BitVec.ofNat 3 m), model := wordAt t.resp 0x14, ephPriv := [],
      h := h, kdat := kdf ks "TDAT" (h.take 16), kctl := ctl, kack := kdf ks "TACK" (h.take 16) }).sendMgmt l (byte a) 0x12
      (cmac ctl (ascii "FIN" ++ h))

def execAuthVerifyDone (l : Lane) (addr : BitVec 6) (s : State) : Host.Outcome State Fault Refusal :=
  .next (if s.alive ∧ s.atExch (tileKey l.val addr.toNat) .verify then s.authVerified l.val addr.toNat else s)

/-- AUTH_DONE: a verified one makes the tile ACTIVE (R465). [DEDUCED, log 139] -/
def State.authDone (s : State) (l : Nat) (p : Pkt) : State :=
  let k := tileKey l p.addr.toNat
  let t := s.tileAt k
  if p.addr.toNat < 64 ∧ s.atExch k .fin ∧ p.body = cmac t.kctl (ascii "DONE" ++ t.h) then
    ((s.setTile k { t with exch := t.exch.erase .fin, state := .active, fail := 0, tries := 0, seq := 0, safe := true,
                           lit := false, resp := [], hello := [] }).tileChange l).authPump
  else s
def execAuthDone (l : Lane) (p : Pkt) (s : State) : Host.Outcome State Fault Refusal :=
  .next (s.rxPacket l p fun t => t.authDone l.val p)

/-- AUTH_RETRY_TIMER: 1 s after a TIMEOUT failure, up to 3 times (R466). -/
def execAuthRetryTimer (l : Lane) (addr : BitVec 6) (s : State) : Host.Outcome State Fault Refusal :=
  .next (let k := tileKey l.val addr.toNat
    let t := s.tileAt k
    if t.state = .failed ∧ t.fail = 4 ∧ t.tries < 3 then
      (s.setTile k { t with wantAuth := true, tries := t.tries + 1 }).authPump
    else s)

/-! ## The control loop (R467-R471) -/

/-- The MAC of a control message (R469). -/
def ctlMac (t : Tile) (a : Nat) (mcode : Byte) (seq : Word) (data : Bytes) : Bytes :=
  (cmac t.kctl ([byte a, mcode] ++ leBytes 4 seq.toNat ++ data)).take 8

/-- A numbered request to an ACTIVE tile (R469). -/
def State.sendCtl (s : State) (k : Nat) (mcode : Byte) (data : Bytes) (m : Word → Mgmt) : State :=
  let t := s.tileAt k
  let q := t.seq + 1
  (s.setTile k { t with seq := q, exch := t.exch ++ [m q] }).sendMgmt (k / 64) (byte (k % 64)) mcode
    (leBytes 4 q.toNat ++ data ++ ctlMac t (k % 64) mcode q data)

/-- The data of an answer with `n` data bytes whose MAC passes (R469). -/
def ctlData (t : Tile) (a : Nat) (mcode : Byte) (n : Nat) (body : Bytes) : Option (Word × Bytes) :=
  let q := wordAt body 0
  let data := slice body 4 n
  if body.length = n + 12 ∧ slice body (4 + n) 8 = ctlMac t a mcode q data then some (q, data) else none

/-- Code of a tile's STATE (R476). -/
def tstateCode : TState → Nat
  | .absent => 0
  | .found => 1
  | .auth => 2
  | .active => 3
  | .failed => 4
  | .gone => 5

/-- A SENSE_RSP written as record k of the owner's loop buffer (R468). [DEDUCED, log 141] -/
def State.writeRecord (s : State) (n k : Nat) (data : Bytes) : State :=
  let t := s.tileAt k
  if (s.loopAt n).running then
    s.engineWrite (.cask (BitVec.ofNat 10 n)) (s.recordAddr n k)
      (leBytes 8 s.clk.time.toNat ++ [byte (1 + flag t.safe 3), byte (tstateCode t.state), 0, 0] ++ data ++ zeros 4)
  else s

/-- SENSE_RSP (R468, R469). -/
def State.senseAnswer (s : State) (l : Nat) (p : Pkt) : State :=
  let k := tileKey l p.addr.toNat
  let t := s.tileAt k
  match ctlData t p.addr.toNat 0x21 16 p.body with
  | none => s
  | some (q, data) =>
    if p.addr.toNat < 64 ∧ t.state = .active ∧ t.exch.contains (.sense q) then
      let s1 := s.setTile k (dropExch (.sense q) t)
      match s.tileOwner k with
      | none => s1
      | some n => (s1.writeRecord n k data).loopAnswered n k
    else s
def execSenseRsp (l : Lane) (p : Pkt) (s : State) : Host.Outcome State Fault Refusal :=
  .next (s.rxPacket l p fun t => t.senseAnswer l.val p)

/-- LIMIT_ACK: the LIMIT completes with OK, and the tile runs its limits (R467, R470, R473). -/
def State.limitAnswer (s : State) (l : Nat) (p : Pkt) : State :=
  let k := tileKey l p.addr.toNat
  let t := s.tileAt k
  match ctlData t p.addr.toNat 0x23 2 p.body with
  | none => s
  | some (q, _) =>
    if p.addr.toNat < 64 ∧ t.state = .active ∧ t.exch.contains (.limit q) then
      (s.setTile k { dropExch (.limit q) t with safe := false }).limitEnd k 0
    else s
def execLimitAck (l : Lane) (p : Pkt) (s : State) : Host.Outcome State Fault Refusal :=
  .next (s.rxPacket l p fun t => t.limitAnswer l.val p)

/-- The exchange of a tile that has timed out: the oldest with the 1 ms limit, else AUTH_HELLO (R448). [DEDUCED, log 140] -/
def timedOut (t : Tile) : Option Mgmt :=
  match t.exch.find? fun m => match m with
    | .keygen | .hello | .verify => false
    | _ => true with
  | some m => some m
  | none => if t.exch.contains .hello then some .hello else none

/-- What the end of an exchange without an answer does (R463, R468, R470, R472). -/
def State.exchTimeout (s : State) (k : Nat) (m : Mgmt) : State :=
  let s1 := s.modTile k (dropExch m)
  let ping (t : State) : State := if (t.tileAt k).state = .active then t.pingTile k else t
  match m with
  | .hello => s1.authFail k 4
  | .fin => s1.authFail k 3
  | .ping => s1.tileGone k
  | .sense _ =>
    ping (match s.tileOwner k with
      | none => s1
      | some n => s1.loopAnswered n k)
  | .limit _ => ping (s1.limitEnd k 1)
  | _ => s

/-- MGMT_TIMEOUT: an exchange with the address has no answer in time; the timeout stands still while the lane is not UP (R448). An ENUM
that times out ends the enumeration (R458). [DEDUCED, log 140] -/
def execMgmtTimeout (l : Lane) (addr : BitVec 6) (s : State) : Host.Outcome State Fault Refusal :=
  .next (if (s.laneAt l.val).state ≠ .up then s
    else if (s.chainAt l.val).enum = some addr then s.modChain l.val fun c => { c with enum := none }
    else match timedOut (s.tileAt (tileKey l.val addr.toNat)) with
      | none => s
      | some m => s.exchTimeout (tileKey l.val addr.toNat) m)

/-- A LIMIT of cask `n` is outstanding. -/
def State.limitPending (s : State) (n : Nat) : Bool :=
  s.tile.tiles.any fun e => match e.2.limitOf with
    | some (m, _, _) => m.toNat == n
    | none => false

/-- Completion of a tile request at once. -/
def State.tileDone (s : State) (n : BitVec 10) (line status : Nat) : State :=
  s.completeBlock (.cask n) blkTile none status line

/-- LOOP_START (R467). [DESIGN CHOICE, log 50] -/
def State.loopStart (s : State) (n : BitVec 10) (r : Req) : State :=
  let period := r.arg0.toNat
  if period = 0 ∨ 1000 < period then s.tileDone n r.line.toNat 5
  else if !s.engineRange (.cask n) r.arg1.toNat 24576 true then s.tileDone n r.line.toNat 4
  else
    (s.setLoop n.toNat { running := true, period := period, buffer := r.arg1, line := bv r.arg2 0 5, last := s.clk.time }).tileDone n
      r.line.toNat 0

/-- LIMIT (R467, R469, R470). [DESIGN CHOICE, log 50] -/
def State.limitSend (s : State) (n : BitVec 10) (r : Req) : State :=
  let l := fld r.arg0 0 4
  let k := tileKey l (fld r.arg0 4 6)
  let t := s.tileAt k
  if 1024 ≤ r.arg0.toNat ∨ 12 ≤ l then s.tileDone n r.line.toNat 5
  else if s.tileOwner k ≠ some n.toNat then s.tileDone n r.line.toNat 2
  else if t.state ≠ .active then s.tileDone n r.line.toNat 1
  else if t.limitOf.isSome then s.tileDone n r.line.toNat 6
  else
    (s.setTile k { t with limitOf := some (n, bv r.arg1 0 16, r.line) }).sendCtl k 0x22 (leBytes 2 (fld r.arg1 0 16)) .limit

/-- GO of the tile block: the request is taken and served; ignored while a LIMIT of the block is outstanding (R284, R467).
[DESIGN CHOICE, log 50] -/
def State.tileGo (s : State) (n : BitVec 10) : State :=
  if s.limitPending n.toNat then s
  else
    let b := s.readBlock (.cask n) blkTile
    let r := b.2
    let s1 := s.clearDone (.cask n) blkTile
    if !s1.granted (.cask n) 10 then s1.tileDone n r.line.toNat 3
    else match b.1 with
      | 1 => s1.loopStart n r
      | 2 => (s1.setLoop n.toNat {}).tileDone n r.line.toNat 0
      | 3 => s1.limitSend n r
      | _ => s1.tileDone n r.line.toNat 5

/-- A tile row: the cask writes the block and GO. -/
def State.tileRow (s : State) (n : BitVec 10) (op : Nat) (r : Req) : Host.Outcome State Fault Refusal :=
  .next (if s.canTrigger (.cask n) then (s.loadBlock (.cask n) blkTile op r).tileGo n else s)

def execLoopStart (n : BitVec 10) (r : Req) (s : State) : Host.Outcome State Fault Refusal := s.tileRow n 1 r
def execLoopStop (n : BitVec 10) (r : Req) (s : State) : Host.Outcome State Fault Refusal := s.tileRow n 2 r
def execLimit (n : BitVec 10) (r : Req) (s : State) : Host.Outcome State Fault Refusal := s.tileRow n 3 r

/-- STALE set in a record whose TIME is more than one period older than the tick (R468). [DEDUCED, log 141] -/
def State.staleRecord (s : State) (n k : Nat) : State :=
  let a := s.recordAddr n k
  if s.rdLe a 8 + (s.loopAt n).period * 100000 < s.clk.time.toNat then s.wrBytes (a + 8) [s.rd (a + 8) ||| 0x02] else s

/-- The ACTIVE tiles of a cask's loop (R467, R468). -/
def State.loopTiles (s : State) (n : Nat) : List Nat :=
  (s.tile.tiles.filter fun e => e.2.state == .active && s.tileOwner e.1 == some n).map (·.1)

/-- One pass of a loop: stale records, then SENSE_REQ to every ACTIVE tile; a pass without a tile ends at once (R468).
[DEDUCED, log 141; DESIGN CHOICE, log 48] -/
def State.loopPass (s : State) (n : Nat) : State :=
  let ks := s.loopTiles n
  let x := s.loopAt n
  let s1 := (List.range 768).foldl (fun t k => t.staleRecord n k) s
  let s2 := s1.setLoop n { x with waiting := ks, last := x.last + BitVec.ofNat 64 (x.period * 100000) }
  if ks.isEmpty then s2.raiseLine (.cask (BitVec.ofNat 10 n)) x.line.toNat
  else ks.foldl (fun t k => t.sendCtl k 0x20 [] .sense) s2

/-- LOOP_TICK: a period of the cask's loop has passed (R468). -/
def execLoopTick (n : BitVec 10) (now : Time) (s : State) : Host.Outcome State Fault Refusal :=
  .next (let x := s.loopAt n.toNat
    let s1 := s.atTime now
    if s.alive ∧ x.running ∧ x.last.toNat + x.period * 100000 ≤ s1.clk.time.toNat then s1.loopPass n.toNat else s1)

/-! ## TILE registers (R476) -/

/-- TILE_STATUS.RESULT. -/
def State.tileResult (s : State) (r : BitVec 4) : State := { s with tile := { s.tile with result := r } }

/-- TILE_CMD DISCOVER; a chain that a discovery, STUCK_LOW or UNSTABLE holds is BUSY. [DEDUCED, log 138] -/
def State.cmdDiscover (s : State) (l : Nat) : State :=
  if ¬ s.egressUp l then s.tileResult 1
  else if s.discovering l ∨ ((s.laneAt l).gen = 1 ∧ (s.chainAt l).pstate ≠ .idle) then s.tileResult 2
  else (s.tileResult 0).startDiscovery l

/-- TILE_CMD FORGET: ADDR_CLEAR to every tile, every tile of the chain GONE. [DEDUCED, log 138] -/
def State.cmdForget (s : State) (l : Nat) : State :=
  if ¬ s.egressUp l then s.tileResult 1
  else if s.discovering l then s.tileResult 2
  else ((s.tileResult 0).sendMgmt l 0xFF 0x03 []).chainGone l

/-- TILE_CMD REAUTH: a session the tile has ends, and it authenticates again (R462, R466). -/
def State.cmdReauth (s : State) (l a : Nat) : State :=
  let k := tileKey l a
  if ¬ s.egressUp l then s.tileResult 1
  else if ¬ tileHeld (s.tileAt k) then s.tileResult 3
  else if (s.tileAt k).state = .auth ∨ (s.tileAt k).wantAuth then s.tileResult 2
  else (((s.tileResult 0).tileEnd k .found 0).modTile k fun t => { t with wantAuth := true, tries := 0 }).authPump

/-- A write of TILE_CMD (R476); lanes 12-15 are no UP egress lane, and other codes do nothing. -/
def State.tileCmd (s : State) (w : Word) : State :=
  let s1 := { s with tile := { s.tile with cmd := bv w 0 14 &&& 0x3F7F } }
  let l := fld w 0 4
  match fld w 4 3 with
  | 1 => s1.cmdDiscover l
  | 2 => s1.cmdForget l
  | 3 => s1.cmdReauth l (fld w 8 6)
  | _ => s1

def execTileCmdDiscover (l : Lane) (s : State) : Host.Outcome State Fault Refusal :=
  .next (if s.ksWriter then s.tileCmd (w32 (l.val + 0x10)) else s)
def execTileCmdForget (l : Lane) (s : State) : Host.Outcome State Fault Refusal :=
  .next (if s.ksWriter then s.tileCmd (w32 (l.val + 0x20)) else s)
def execTileCmdReauth (l : Lane) (addr : BitVec 6) (s : State) : Host.Outcome State Fault Refusal :=
  .next (if s.ksWriter then s.tileCmd (w32 (l.val + 0x30 + addr.toNat * 2 ^ 8)) else s)

/-- A maker entry after a write of the word at `off`; MAKER_ID stands while VALID is 1. [DEDUCED, log 142] -/
def makerSet (m : Maker) (off : Nat) (w : Word) : Maker :=
  match off with
  | 0 => if m.valid then m else { m with id := w }
  | 4 => { m with alg := bv w 0 2, valid := bit w 4, owner := bv w 16 10 }
  | _ =>
    if 8 ≤ off ∧ off < 0x70 then
      { m with key := (List.range 4).foldl (fun t i => tset t (off - 8 + i) (bv w (8 * i) 8)) m.key }
    else m

/-- A maker-table write: clearing VALID fails that maker's tiles; a change lets tiles FAILED for another reason than TIMEOUT try again
where AUTO is 1 (R466, R476). [DEDUCED, log 142] -/
def State.makerWrite (s : State) (m off : Nat) (w : Word) : State :=
  let old := s.makerAt m
  let new := makerSet old off w
  if new = old then s
  else
    let retry := (s.tile.tiles.filter fun e => e.2.state == .failed && e.2.fail != 4 && s.autoOn (e.1 / 64)).map (·.1)
    let mine := (s.tile.tiles.filter fun e =>
      e.2.maker == some (BitVec.ofNat 3 m) && (e.2.state == .active || (e.2.state == .auth && e.2.kctl != []))).map (·.1)
    let s1 := if old.valid ∧ ¬ new.valid then mine.foldl (fun t k => t.authFail k 1) s else s
    let s2 := { s1 with tile := { s1.tile with makers := tset s1.tile.makers m new } }
    (retry.foldl (fun t k => t.modTile k fun x => if x.state = .failed then { x with wantAuth := true } else x) s2).authPump

def execTileMakerWrite (m : Fin 8) (offset : BitVec 7) (value : Word) (s : State) : Host.Outcome State Fault Refusal :=
  .next (if s.ksWriter ∧ offset.toNat % 4 = 0 then s.makerWrite m.val offset.toNat value else s)

/-- A write of TILE_CTRL: tiles found on a chain whose AUTO bit is now 1 authenticate (R462, R476). -/
def State.tileCtrl (s : State) (w : Word) : State :=
  let wake (e : Nat × Tile) : Nat × Tile :=
    (e.1, if bit w (e.1 / 64) && e.2.state == .found then { e.2 with wantAuth := true } else e.2)
  ({ s with tile := { s.tile with auto := bv w 0 12, tiles := s.tile.tiles.map wake } } : State).authPump

/-- What entry to UP starts on an egress lane whose AUTO bit is 1 (R460, R476). -/
def State.chainUp (s : State) (l : Nat) : State := if s.chainLane l ∧ s.autoOn l then s.startDiscovery l else s

end Sys2Proof.Machine
end

