-- ==== Sys2Proof/Machine/Frame.lean ====
section
/-! DEFINITION. The sealed frame path: regions, ingress segments, the secure segment buffer, re-encryption, verdicts, frame
boundaries, proof-of-play and the FRM ports (R478-R510). What makes a boundary stands in Wall.lean. -/

namespace Sys2Proof.Machine

open Sys2Proof

/-! ## The secure segment buffer (R489-R491) -/

/-- Granules held by segments and by segments in assembly. -/
def State.ssbUsed (s : State) : List Nat :=
  (s.frame.segs.flatMap fun g => g.grans.filterMap id) ++
  s.frame.asm.flatMap fun e => match e.2.accepted with
    | some (_, _, gs) => gs
    | none => []
/-- Free granules, lowest first. -/
def State.ssbFree (s : State) : List Nat := let u := s.ssbUsed; (List.range 128).filter fun i => !u.contains i

def ssbAddr (g : Nat) : Nat := ssbBase + 0x1000 * g

/-- A segment's bytes in its granules. [DEDUCED, log 146] -/
def State.ssbStore (s : State) (gs : List Nat) (bs : Bytes) : State :=
  (gs.zip (chunks 0x1000 bs)).foldl (fun t e => t.wrBytes (ssbAddr e.1) e.2) s
/-- Granules zeroized. -/
def State.ssbZero (s : State) (gs : List Nat) : State := gs.foldl (fun t g => t.clear (ssbAddr g) 0x1000) s

/-! ## Segments in assembly (R485-R489) -/

def hdrRegion (h : Bytes) : Nat := (h.getD 5 0).toNat
def hdrFrame (h : Bytes) : Nat := leNat (slice h 8 8)
def hdrOffset (h : Bytes) : Nat := leNat (slice h 0x10 4)
def hdrSegLen (h : Bytes) : Nat := leNat (slice h 0x14 4)

/-- Check 1 of R489; KSEL names KEY0 or KEY1. [DEDUCED, log 146] -/
def segHdrOk (h : Bytes) : Bool :=
  leNat (slice h 0 4) == 0x53474553 && h.getD 4 0 == 1 && decide ((h.getD 6 0).toNat ≤ 1) && h.getD 7 0 == 0 &&
    slice h 0x24 12 == zeros 12 && decide (1 ≤ hdrSegLen h) && decide (hdrSegLen h ≤ 65536)

/-- LAST_SEG of a VALID region; a failed segment raises the owner's line once per frame (R489, R507). -/
def State.segRecord (s : State) (r : Nat) (code : BitVec 4) : State :=
  let x := s.region r
  if !x.valid then s
  else if code = 0 ∨ x.segLine then s.setRegion r { x with lastSeg := code }
  else (s.setRegion r { x with lastSeg := code, segLine := true }).ownerLine r

/-- The checks of R489 on a complete header: the code, or the key, its handle and the granules. -/
def State.segCheck (s : State) (h : Bytes) : Except (BitVec 4) (Bytes × Word × List Nat) :=
  let x := s.region (hdrRegion h)
  let handle := if h.getD 6 0 = 0 then x.cur.key0 else x.cur.key1
  let gs := s.ssbFree
  let n := (hdrSegLen h + 64 + 0xFFF) / 0x1000
  if !segHdrOk h then .error 7
  else if s.ownerOff x then .error 9
  else if hdrFrame h < s.frame.frameNo.toNat + 1 then .error 3
  else if s.frame.frameNo.toNat + 2 < hdrFrame h then .error 4
  else if regionSize x < hdrOffset h + hdrSegLen h then .error 5
  else match s.keyOf (ctxOf x.owner.toNat) handle with
    | none => .error 2
    | some k => if handle = 0 then .error 2 else if gs.length < n then .error 6 else .ok (k.key, handle, gs.take n)

def State.setAsm (s : State) (i : Nat) (a : Assembly) : State := { s with frame := { s.frame with asm := tset s.frame.asm i a } }
def State.asmAt (s : State) (i : Nat) : Option Assembly := (s.frame.asm.find? fun e => e.1 == i).map (·.2)

/-- The segment in assembly is dropped and its granules zeroized. -/
def State.asmDrop (s : State) (i : Nat) : State :=
  let gs := match (s.asmAt i).bind (·.accepted) with
    | some (_, _, gs) => gs
    | none => []
  let s1 := s.ssbZero gs
  { s1 with frame := { s1.frame with asm := tdel s1.frame.asm i } }

/-- The segment in assembly is discarded with BAD_SEGMENT; nothing more is recorded of one already discarded (R488). -/
def State.asmBad (s : State) (i : Nat) : State :=
  match s.asmAt i with
  | none => s
  | some a =>
    let s1 := s.asmDrop i
    if a.dead ∨ a.bytes.length < 48 then s1 else s1.segRecord (hdrRegion a.bytes) 7

/-- The header is complete: checked once; granules reserved, or the rest discarded (R489). No segment is taken in a wind-down (R110).
[DEDUCED, log 146] -/
def State.asmHeader (s : State) (i : Nat) (a : Assembly) : State :=
  if a.bytes.length < 48 ∨ a.dead ∨ a.accepted.isSome then s.setAsm i a
  else if s.tamp.wind.isSome ∨ ¬ (s.region (hdrRegion a.bytes)).valid then s.setAsm i { a with dead := true }
  else match s.segCheck (a.bytes.take 48) with
    | .error code =>
      let s1 := (s.setAsm i { a with dead := true }).segRecord (hdrRegion a.bytes) code
      if code = 6 then { s1 with frame := { s1.frame with ssbOvf := true } } else s1
    | .ok x => s.setAsm i { a with accepted := some x }

/-- The last fragment is in: the segment goes to decryption, or its length is wrong (R488, R490). -/
def State.asmLast (s : State) (i : Nat) : State :=
  match s.asmAt i with
  | none => s
  | some a =>
    match a.accepted with
    | none => s.asmBad i
    | some (key, handle, gs) =>
      let len := hdrSegLen a.bytes
      if a.bytes.length ≠ 48 + len + 16 then s.asmBad i
      else
        let g : Segm := { region := a.bytes.getD 5 0, frame := BitVec.ofNat 64 (hdrFrame a.bytes), offset := hdrOffset a.bytes,
                          len := len, header := a.bytes.take 48, tag := a.bytes.drop (48 + len), key := key, handle := handle,
                          grans := gs.map some }
        ({ s with frame := { s.frame with asm := tdel s.frame.asm i, segs := s.frame.segs ++ [g] } } : State).pressGo

/-- Fragment bytes join the segment in assembly (R488-R490). [DEDUCED, log 146] -/
def State.asmAdd (s : State) (i : Nat) (a : Assembly) (bs : Bytes) (last : Bool) : State :=
  let s1 := s.asmHeader i { a with bytes := a.bytes ++ bs }
  let tooLong : Bool := match s1.asmAt i with
    | some b => b.accepted.isSome && decide (48 + hdrSegLen b.bytes + 16 < b.bytes.length)
    | none => false
  if tooLong then s1.asmBad i
  else
    let s2 := match (s1.asmAt i) with
      | some b => (match b.accepted with
        | some (_, _, gs) => s1.ssbStore gs b.bytes
        | none => s1)
      | none => s1
    if last then s2.asmLast i else s2

/-- A DATA packet of an ingress lane (R485, R488). [DEDUCED, log 146] -/
def State.dataFragment (s : State) (l : Nat) (p : Pkt) : State :=
  let i := 8 * l + p.vc.val
  let flags := p.body.getD 0 0
  let frag := leNat (slice p.body 2 2)
  let bs := p.body.drop 4
  if p.body.length < 4 ∨ (s.laneAt l).role ≠ 1 then s.countDrop l
  else if bit flags 0 then
    let s1 := s.asmBad i
    if frag = 0 then s1.asmAdd i {} bs (bit flags 1) else s1
  else match s.asmAt i with
    | none => s
    | some a => if frag = a.frag + 1 then s.asmAdd i { a with frag := frag } bs (bit flags 1) else s.asmBad i

/-- DATA_PACKET (R488). -/
def execDataPacket (l : Lane) (p : Pkt) (s : State) : Host.Outcome State Fault Refusal :=
  .next (s.rxPacket l p fun t => t.dataFragment l.val p)

/-! ## Decrypt-then-release (R490, R491) -/

/-- Segment `i` leaves the buffer: its granules zeroized and freed, its pipeline free. -/
def State.segDrop (s : State) (i : Nat) : State :=
  match s.frame.segs[i]? with
  | none => s
  | some g =>
    let s1 := s.ssbZero (g.grans.filterMap id)
    let s2 := match g.pipe with
      | some p => s1.setPipe p { s1.pipeAt p with use := if (s1.pipeAt p).use = PipeUse.frame then PipeUse.idle else (s1.pipeAt p).use }
      | none => s1
    { s2 with frame := { s2.frame with segs := s2.frame.segs.eraseIdx i } }

/-- A segment fails with a code (R490). -/
def State.segFail (s : State) (i r : Nat) (code : BitVec 4) : State :=
  let s1 := (s.segDrop i).segRecord r code
  if code = 1 ∧ (s1.region r).valid then s1.modRegion r fun x => { x with tagFail := satAdd1 x.tagFail } else s1

/-- The job of segment `i` has ended: NO_KEY when its key is gone, TAG_FAIL, or releasable with its plaintext in place (R490). -/
def State.segDecrypted (s : State) (i : Nat) (g : Segm) : State :=
  let r := g.region.toNat
  let gs := g.grans.filterMap id
  let ct := ((gs.flatMap fun j => s.rdBytes (ssbAddr j) 0x1000).drop 48).take g.len
  if (s.keyOf (ctxOf (s.region r).owner.toNat) g.handle).isNone then s.segFail i r 2
  else match gcmDecrypt g.key (slice g.header 0x18 12) g.header ct g.tag with
    | none => s.segFail i r 1
    | some pt =>
      let s1 := s.ssbStore gs (g.header ++ pt ++ g.tag)
      let s2 := match g.pipe with
        | some p => s1.setPipe p { s1.pipeAt p with use := .idle }
        | none => s1
      ({ s2 with frame := { s2.frame with
        segs := s2.frame.segs.modify i fun x => { x with phase := .releasable, pipe := none, key := [] } } } : State).segRecord r 0

/-- SEGMENT_DECRYPT_DONE: the oldest frame-path job on a pipeline ends (R490). -/
def execSegmentDecryptDone (s : State) : Host.Outcome State Fault Refusal :=
  .next (match s.frame.segs.findIdx? fun g => g.phase == .decrypting && g.pipe.isSome with
    | none => s
    | some i =>
      match s.frame.segs[i]? with
      | none => s
      | some g => if s.alive then (s.segDecrypted i g).pressGo else s)

/-! ## Re-encryption per tile (R491, R492, R495) -/

/-- Ciphertext bytes of a packet at most (R492). [DEDUCED, log 147] -/
def tilePkt : Nat := 992

/-- The position of a tile in its region, by key. -/
def tilePos (x : Region) (k : Nat) : Option Nat := (regionTiles x).findIdx? (· == k)

/-- The VALID region that a tile belongs to. -/
def State.regionOf (s : State) (k : Nat) : Option (Nat × Region) :=
  s.frame.regions.find? fun e => e.2.valid && (regionTiles e.2).contains k

/-- The frame engine of a lane runs (R74, R498). -/
def State.frameEngineOn (s : State) (l : Nat) : Bool := !s.clk.off.contains (224 + l)

/-- Frame data may go to a tile now: ACTIVE since a boundary, its lane UP since one (R434, R465). [DEDUCED, log 148] -/
def State.tileServed (s : State) (k : Nat) : Bool :=
  (s.tileAt k).state == .active && (s.tileAt k).lit && s.egressUp (k / 64) && (s.laneAt (k / 64)).frameOk

/-- Plaintext bytes of a region frame, when releasable segments hold them all (R490, R491). -/
def State.released (s : State) (r : Nat) (frame : Dword) (off n : Nat) : Option Bytes :=
  let gs := s.frame.segs.filter fun g => g.region.toNat == r && g.frame == frame && g.phase == .releasable
  let at' (i : Nat) : Option Byte := gs.findSome? fun g =>
    if g.offset ≤ i ∧ i < g.offset + g.len then
      let j := 48 + (i - g.offset)
      match (g.grans.getD (j / 0x1000) none) with
      | some q => some (s.rd (ssbAddr q + j % 0x1000))
      | none => none
    else none
  (List.range n).mapM fun i => at' (off + i)

/-- The prefix of frame traffic to tiles (ch. 15, before R492). -/
def tilePrefix (frame : Dword) (off : Nat) (flags : Byte) : Bytes := leBytes 8 frame.toNat ++ leBytes 4 off ++ [flags, 0, 0, 0]

/-- A sealed payload for a tile: prefix, ciphertext and tag under K_dat (R492). -/
def tileSeal (key : Bytes) (addr : Nat) (frame : Dword) (off : Nat) (flags : Byte) (pt : Bytes) : Bytes :=
  let pre := tilePrefix frame off flags
  let x := gcmEncrypt key (beBytes 8 frame.toNat ++ beBytes 4 off) (pre ++ [byte addr]) pt
  pre ++ x.1 ++ x.2

/-- A DATA packet to a tile on VC 0. -/
def State.sendData (s : State) (l : Nat) (addr : Byte) (body : Bytes) : State :=
  s.enqueue l 0 { typ := .data, addr := addr, body := body }

/-- Packets of tile `k` that are in the egress queue for the next frame, by offset. -/
def State.queuedOf (s : State) (k : Nat) : List Nat := tget s.frame.queued k []

/-- Every byte `lo` to `hi` of a region frame has been re-encrypted (R491). -/
def State.rangeDone (s : State) (x : Region) (lo hi : Nat) : Bool :=
  let tb := max 1 x.tileBytes.toNat
  let ks := regionTiles x
  (List.range ((hi + tb - 1) / tb - lo / tb)).all fun i =>
    let t := lo / tb + i
    let a := if lo ≤ t * tb then 0 else lo - t * tb
    let b := min tb (hi - t * tb)
    let done := s.queuedOf (ks.getD t 0)
    (List.range ((b + tilePkt - 1) / tilePkt - a / tilePkt)).all fun j => done.contains ((a / tilePkt + j) * tilePkt)

/-- Granules of a segment whose every byte has been re-encrypted are zeroized and freed (R491). -/
def State.segRelease (s : State) (x : Region) (g : Segm) : Segm × State :=
  let done (i : Nat) : Bool :=
    let lo := max 48 (0x1000 * i) - 48
    let hi := min (48 + g.len) (0x1000 * (i + 1)) - 48
    decide (hi ≤ lo) || s.rangeDone x (g.offset + lo) (g.offset + hi)
  let idx := (List.range g.grans.length).filter done
  ({ g with grans := idx.foldl (fun q i => q.set i none) g.grans },
    s.ssbZero (idx.filterMap fun i => g.grans.getD i none))

/-- The same for every releasable segment of a region's next frame; a segment without granules is gone. -/
def State.freeReleased (s : State) (r : Nat) : State :=
  let x := s.region r
  let y := s.frame.segs.foldl (fun (a : List Segm × State) g =>
    if g.region.toNat = r ∧ g.phase = .releasable ∧ g.frame = s.frame.frameNo + 1 then
      let z := a.2.segRelease x g
      (if z.1.grans.all (·.isNone) then a.1 else a.1 ++ [z.1], z.2)
    else (a.1 ++ [g], a.2)) ([], s)
  { y.2 with frame := { y.2.frame with segs := y.1 } }

/-- The packet at offset `off` of tile `k`'s slice is re-encrypted and queued (R491, R492, R495). [DEDUCED, log 147] -/
def State.tileReencrypt (s : State) (k off : Nat) : State :=
  match s.regionOf k with
  | none => s
  | some (r, x) =>
    match tilePos x k with
    | none => s
    | some i =>
      let tb := x.tileBytes.toNat
      let n := min tilePkt (tb - off)
      let frame := s.frame.frameNo + 1
      if off % tilePkt ≠ 0 ∨ tb ≤ off ∨ (s.queuedOf k).contains off then s
      else match s.released r frame (i * tb + off) n with
        | none => s
        | some pt =>
          let flags : Byte := if off + n = tb then 1 else 0
          let s1 := s.sendData (k / 64) (byte (k % 64)) (tileSeal (s.tileAt k).kdat (k % 64) frame off flags pt)
          let s2 := { s1 with frame := { s1.frame with queued := tset s1.frame.queued k (s1.queuedOf k ++ [off]) } }
          s2.freeReleased r

/-- TILE_REENCRYPT_DONE: from boundary B_(F-1) to the deadline of F (R491, R496). [DEDUCED, log 147] -/
def execTileReencryptDone (l : Lane) (addr : BitVec 6) (offset : Word) (s : State) : Host.Outcome State Fault Refusal :=
  .next (let k := tileKey l.val addr.toNat
    if s.alive ∧ s.frame.running ∧ ¬ s.frame.deadline ∧ s.tamp.wind.isNone ∧ s.tileServed k ∧ s.frameEngineOn l.val then
      s.tileReencrypt k offset.toNat
    else s)

/-! ## The deadline (R493, R496, R497, R499) -/

/-- Every packet of a tile's slice is in the egress queue (R496). -/
def State.sliceQueued (s : State) (x : Region) (k : Nat) : Bool :=
  (List.range ((x.tileBytes.toNat + tilePkt - 1) / tilePkt)).all fun j => (s.queuedOf k).contains (j * tilePkt)

/-- A span member with RUN = 1 that is not frame-locked has every region incomplete (R527). -/
def State.unlocked (s : State) : Bool := s.span.state != .off && !s.span.locked

/-- A region is complete for the next frame (R496, R498, R527): tiles that are not ACTIVE, or not yet due frame data, are excluded.
[DEDUCED, log 148] -/
def State.regionComplete (s : State) (x : Region) : Bool :=
  !s.unlocked &&
  ((List.range 4).all fun i =>
    let e := tget x.extents i {}
    !e.used || (s.egressUp e.lane.toNat && s.frameEngineOn e.lane.toNat)) &&
  (regionTiles x).all fun k =>
    (s.tileAt k).state != .active || !(s.tileAt k).lit || ((s.laneAt (k / 64)).frameOk && s.sliceQueued x k)

/-- A verdict and its colour (R493). -/
structure Verdict where
  code : Byte := 2
  rgb  : Bytes := [0, 0, 0]

/-- The fallback of a region; a FALLBACK value of 3 selects freely among the three (R497). [DEDUCED, log 145] -/
def State.fallbackVerdict (s : State) (x : Region) : Verdict × State :=
  let v (n : Nat) : Verdict := match n with
    | 0 => {}
    | 1 => { code := 3, rgb := [bv x.slate 16 8, bv x.slate 8 8, bv x.slate 0 8] }
    | _ => { code := 3 }
  if x.fallback = 3 then (v (s.drawNat.1 % 3), s.drawNat.2) else (v x.fallback.toNat, s)

/-- Entry into fallback: the owner's line, keystone line 10, and pending plays to be committed (R497, R504). -/
def State.enterFallback (s : State) (r : Nat) : State :=
  ((s.modRegion r fun x => { x with mode := .fallback, flush := true }).ownerLine r).ksLine lineFrame

/-- Every tile of the region is ACTIVE and due frame data (R501). -/
def State.allActive (s : State) (x : Region) : Bool := (regionTiles x).all s.tileServed

/-- The verdict of a region at D_F (R497), in a wind-down SHOW or HOLD (R499). [DEDUCED, log 148] -/
def State.regionVerdict (s : State) (r : Nat) : Verdict × State :=
  let x := s.region r
  let complete := s.regionComplete x
  let off := s.ownerOff x
  let show' (t : State) : Verdict × State :=
    ({ code := 1 }, t.modRegion r fun y => { y with mode := .show, holds := 0, showAll := t.allActive y })
  let hold (t : State) (h : Nat) : Verdict × State :=
    ({}, t.modRegion r fun y => { y with mode := .hold, holds := h, held := satAdd1 y.held, showAll := false })
  let s0 := s.setRegion r { x with showAll := false }
  if s.tamp.wind.isSome then (if complete ∧ ¬ off then show' s0 else hold s0 x.holds)
  else if x.mode = .fallback then
    (if complete ∧ ¬ off then show' s0 else s0.fallbackVerdict x)
  else if off then (s0.enterFallback r).fallbackVerdict x
  else if complete then show' s0
  else if x.holds < 3 then hold s0 (x.holds + 1)
  else (s0.enterFallback r).fallbackVerdict x

/-- One COMMIT to a tile of the next frame (R493). -/
def State.commitTile (s : State) (k : Nat) (v : Verdict) : State :=
  if s.tileServed k then
    s.sendData (k / 64) (byte (k % 64))
      (tileSeal (s.tileAt k).kdat (k % 64) (s.frame.frameNo + 1) 0xFFFFFFFF 2 (v.code :: v.rgb))
  else s

/-- The verdict of a region goes to each of its tiles. -/
def State.commitRegion (s : State) (r : Nat) : State :=
  let v := s.regionVerdict r
  (regionTiles (s.region r)).foldl (fun t k => t.commitTile k v.1) v.2

/-- A black commit to every ACTIVE tile that `p` picks (R485, R499). -/
def State.commitBlack (s : State) (p : Nat → Bool) : State :=
  (s.tile.tiles.filter fun e => p e.1).foldl (fun t e => t.commitTile e.1 { code := 3 }) s

/-- Segments for the next frame, and for frames before it, are discarded (R497 step 3). -/
def State.dropFrame (s : State) : State :=
  let old (g : Segm) : Bool := decide (g.frame.toNat ≤ s.frame.frameNo.toNat + 1)
  let s1 := s.ssbZero ((s.frame.segs.filter old).flatMap fun g => g.grans.filterMap id)
  let freed := (s.frame.segs.filter old).filterMap (·.pipe)
  let s2 := freed.foldl (fun t p => t.setPipe p { t.pipeAt p with use := .idle }) s1
  ({ s2 with frame := { s2.frame with segs := s2.frame.segs.filter fun g => !old g } } : State).pressGo

/-- The deadline of the next frame (R497): a verdict for every VALID region, black for tiles in none; in a wind-down black frames from
the second frame on (R499). -/
def State.takeDeadline (s : State) : State :=
  let s0 := { s with frame := { s.frame with deadline := true } }
  let valid := (s.frame.regions.filter fun e => e.2.valid).map (·.1)
  let black : Bool := match s.tamp.wind with
    | some w => s.frame.frameNo + 1 != w.frame
    | none => false
  let s1 :=
    if black then
      let t := s0.commitBlack fun _ => true
      let t1 := { t with tamp := { t.tamp with wind := t.tamp.wind.map fun w => { w with black := w.black + 1 } } }
      valid.foldl (fun u r => u.modRegion r fun x => { x with showAll := false }) t1
    else (valid.foldl State.commitRegion s0).commitBlack fun k => (s0.regionOf k).isNone
  s1.dropFrame

/-- FRAME_DEADLINE (R497). [DEDUCED, log 143] -/
def execFrameDeadline (s : State) : Host.Outcome State Fault Refusal :=
  .next (if s.alive ∧ s.frame.running ∧ ¬ s.frame.deadline then s.takeDeadline else s)

/-! ## The boundary (R480, R481, R484, R494, R501, R502, R504, R508) -/

/-- The FACK window of the frame shown closes: a play is counted when every tile answered SHOWN, and PEND is committed when it reaches
BATCH or is to be flushed (R501, R502, R504). [DEDUCED, log 149] -/
def State.closeWindow (s : State) (r : Nat) : State :=
  let x := s.region r
  let play := x.valid && x.showAllNow && (regionTiles x).all fun k => x.facks.contains k
  let y := if play then { x with pendPlays := x.pendPlays + 1, plays := satAdd1 x.plays } else x
  let s1 := s.setRegion r { y with showAllNow := false, facks := [], flush := false }
  if x.flush ∨ max 1 y.cur.batch.toNat ≤ y.pendPlays then s1.commitStart r else s1

/-- What takes effect in a region at a boundary: staged settings, VALID, what it shows (R484, R505, R508). [DEDUCED, log 145] -/
def regionBoundary (x : Region) : Region :=
  let x1 := { x with cur := x.staged.getD x.cur, staged := none, shown := x.mode, showAllNow := x.showAll, showAll := false,
                     segLine := false }
  match x.validNext with
  | none => x1
  | some true => { x1 with valid := true, validNext := none, mode := .idle, shown := .idle, holds := 0, lastSeg := 0 }
  | some false => { x1 with valid := false, validNext := none, mode := .idle, shown := .idle, showAllNow := false,
                            cur := {}, staged := none }

/-- FLIP on a lane, ahead of what waits on VC 0 (R494). -/
def State.sendFlip (s : State) (frame : Dword) (l : Nat) : State :=
  let c := s.vcAt l 0
  let p : TxPkt := { typ := .data, addr := 0xFF, body := tilePrefix frame 0xFFFFFFFF 4 }
  (s.setVc l 0 { c with queue := p :: c.queue }).pump l 0

/-- FLIP, the first VC 0 packet on every UP egress lane (R494). -/
def State.sendFlips (s : State) (frame : Dword) : State :=
  (List.range 12).foldl (fun t l => if t.egressUp l then t.sendFlip frame l else t) s

/-- FRAME_OUT at a level (R481). -/
def State.frameOut (s : State) (b : Bool) : State :=
  if s.frame.outPin = b then s else ({ s with frame := { s.frame with outPin := b } } : State).emit (.frameOut b)

/-- Tiles and lanes that are due frame data from this boundary on (R434, R465). [DEDUCED, log 148] -/
def State.lightTiles (s : State) : State :=
  let lit (e : Nat × Tile) : Nat × Tile := (e.1, { e.2 with lit := e.2.state == .active })
  let ok (e : Nat × LaneSt) : Nat × LaneSt := (e.1, { e.2 with frameOk := e.2.state == .up })
  { s with tile := { s.tile with tiles := s.tile.tiles.map lit }, lanes := s.lanes.map ok }

/-- A region whose VALID is cleared at this boundary has its plays committed first (R504). -/
def State.flushCleared (s : State) : State :=
  (s.frame.regions.filter fun e => e.2.validNext == some false).foldl (fun t e => t.modRegion e.1 fun x => { x with flush := true }) s

/-- The boundary at TIME `b` that makes FRAME_NO `no` (R479-R481, R484, R494, R508). -/
def State.boundaryTo (s : State) (no : Dword) (b : Time) : State :=
  let s0 := s.flushCleared
  let s1 := (s0.frame.regions.map (·.1)).foldl State.closeWindow s0
  let s2 := { s1 with frame := { s1.frame with
    frameNo := no, last := b, deadline := false, queued := []
    period := s1.frame.periodNext.getD s1.frame.period, periodNext := none
    regions := s1.frame.regions.map fun (e : Nat × Region) => (e.1, regionBoundary e.2) } }
  let s3 := s2.lightTiles.sendFlips no
  if s3.frame.outEn then s3.frameOut true else s3

/-- The next boundary in order. -/
def State.boundary (s : State) (b : Time) : State := s.boundaryTo (s.frame.frameNo + 1) b

/-- FRAME_OUT_PULSE_END: 1 µs after the rising edge (R481). -/
def execFrameOutPulseEnd (s : State) : Host.Outcome State Fault Refusal := .next (s.frameOut false)

/-! ## Proof-of-play (R500-R503) -/

/-- A FACK of the frame shown whose MAC passes (R500). [DEDUCED, log 151] -/
def State.fackAnswer (s : State) (l : Nat) (p : Pkt) : State :=
  let k := tileKey l p.addr.toNat
  let t := s.tileAt k
  if p.addr.toNat < 64 ∧ t.state = .active ∧ p.body.length = 24 ∧ leNat (p.body.take 8) = s.frame.frameNo.toNat ∧
      slice p.body 9 7 = zeros 7 ∧ p.body.drop 16 = (cmac t.kack (p.addr :: p.body.take 16)).take 8 then
    match s.regionOf k with
    | some (r, _) =>
      if p.body.getD 8 0 = 0 then s.modRegion r fun x => { x with facks := if x.facks.contains k then x.facks else x.facks ++ [k] }
      else s
    | none => s
  else s
def execFack (l : Lane) (p : Pkt) (s : State) : Host.Outcome State Fault Refusal :=
  .next (s.rxPacket l p fun t => t.fackAnswer l.val p)

/-- The counter step of a commit; AT_MAX and NVM_FAULT discard the batch (R502, R503). -/
def State.commitCount (s : State) (r : Nat) (fault : Bool) : State :=
  match (s.region r).commit with
  | none => s
  | some k =>
    if k.counted then s
    else match s.ctrAdd k.ctr k.amount fault with
      | (.ok _, s1) => s1.commitCounted r
      | (_, s1) => (s1.commitEnd r).frmFault r 8

/-- PLAY_COUNTER_COMMIT (R502). -/
def execPlayCounterCommit (r : Byte) (fault : Bool) (s : State) : Host.Outcome State Fault Refusal :=
  .next (if s.alive then s.commitCount r.toNat fault else s)

/-- A lattice job of the owner on a lane uses the object as a source or a destination (R376). [DEDUCED, log 150] -/
def State.tallyBusy (s : State) (n : Nat) (h : Word) : Bool :=
  match (s.latPage n).job with
  | some j => j.lane.isSome && (j.a == h || j.b == h || j.dst == h)
  | none => false

/-- The plaintext with `v` in slot or coefficient `i` and 0 elsewhere (R502). -/
def onePlain (n i v : Nat) : List Nat := (List.range n).map fun j => if j = i then v else 0

/-- PEND mod T added to the tally: c0 + lift (R502); TALLY_FAULT when it is no CIPHERTEXT of the owner any more, or DAMAGED (R503).
[DEDUCED, log 150] -/
def State.tallyAdd (s : State) (r : Nat) (k : RCommit) : State :=
  let n := (s.region r).owner.toNat
  match s.objOf n k.tally with
  | none => (s.commitEnd r).frmFault r 9
  | some (e, o) =>
    if o.kind ≠ 2 ∨ o.damaged ∨ o.par.n ≤ k.slot.toNat then (s.commitEnd r).frmFault r 9
    else
      let p := o.par
      let qs := p.lower o.level.toNat
      let body := s.objBody o
      let m := liftPoly p.t (ptPoly p (o.enc == 1) (onePlain p.n k.slot.toNat (k.amount % p.t)))
      let c0 := writeRns (rnsAdd qs (ctPolys o body).1 (rnsOfInts qs m))
      let head := if o.seeded then body.take 32 else []
      let new := head ++ c0 ++ body.drop (head.length + c0.length)
      ((s.commitObj e n o.incarn (o, new)).commitEnd r)

/-- PLAY_TALLY_ADD: after the counter step, once no job of the owner uses the object (R376, R502). -/
def execPlayTallyAdd (r : Byte) (s : State) : Host.Outcome State Fault Refusal :=
  .next (match (s.region r.toNat).commit with
    | none => s
    | some k =>
      if s.alive ∧ k.counted ∧ ¬ s.tallyBusy (s.region r.toNat).owner.toNat k.tally then s.tallyAdd r.toNat k else s)

/-- Pending plays of every region are committed at once: wind-down step 6 (R499, R504). [DEDUCED, log 149] -/
def State.commitAllNow (s : State) : State :=
  (s.frame.regions.map (·.1)).foldl (fun t r =>
    let one (u : State) : State :=
      let a := (u.commitStart r).commitCount r false
      match (a.region r).commit with
      | some k => a.tallyAdd r k
      | none => a
    one (one t)) s

/-! ## Region entries (R483, R484) -/

/-- A region entry word after a write; `v` is VALID as written. -/
def regionSet (x : Region) (off : Nat) (w : Word) : Region :=
  let e : Extent := { lane := bv w 0 4, first := bv w 4 6, last := bv w 10 6, used := bit w 16 }
  let ext (i : Nat) : Region := { x with extents := tset x.extents i e }
  match off with
  | 0x00 => { x with owner := bv w 0 11, fallback := bv w 13 2 }
  | 0x04 => { x with slate := bv w 0 24 }
  | 0x08 => { x with tileBytes := bv w 0 23 }
  | 0x0C => ext 0
  | 0x10 => ext 1
  | 0x14 => ext 2
  | 0x18 => ext 3
  | _ => x

/-- RANGE passes (R483). -/
def State.regionRange (s : State) (x : Region) : Bool :=
  let tb := x.tileBytes.toNat
  tb % 16 == 0 && decide (16 ≤ tb) && decide (tb ≤ 4194304) && decide (x.owner.toNat ≤ 0x400) &&
  ((List.range 4).any fun i => (tget x.extents i {}).used) &&
  (List.range 4).all fun i =>
    let e := tget x.extents i {}
    !e.used || (s.chainLane e.lane.toNat && decide (e.lane.toNat < 12) && decide (e.first.toNat ≤ e.last.toNat))

/-- OVERLAP passes: no tile named twice, none in another VALID region (R483). -/
def State.regionApart (s : State) (r : Nat) (x : Region) : Bool :=
  let ks := regionTiles x
  decide ks.Nodup && s.frame.regions.all fun e => e.1 == r || !validReads e.2 || (regionTiles e.2).all fun k => !ks.contains k

/-- CFG_ERR with ERR_CODE (R509). -/
def State.frameErr (s : State) (code : BitVec 4) : State := { s with frame := { s.frame with cfgErr := true, errCode := code } }

/-- A write of a region entry word (R483, R484). [DEDUCED, log 145] -/
def State.regionWrite (s : State) (r off : Nat) (w : Word) : State :=
  let x := s.region r
  if off % 4 ≠ 0 ∨ 0x1C ≤ off then s
  else if validReads x then
    if off = 0 ∧ ¬ bit w 12 then s.setRegion r { x with validNext := if x.valid then some false else none }
    else s.frameErr 3
  else
    let y := regionSet x off w
    if off = 0 ∧ bit w 12 then
      if ¬ s.regionRange y then (s.setRegion r y).frameErr 1
      else if ¬ s.regionApart r y then (s.setRegion r y).frameErr 2
      else s.setRegion r { y with validNext := some true }
    else s.setRegion r y

def execRegionWrite (r : Byte) (offset : BitVec 6) (value : Word) (s : State) : Host.Outcome State Fault Refusal :=
  .next (if s.ksWriter then s.regionWrite r.toNat offset.toNat value else s)

/-! ## FRM ports (R507, R508) -/

/-- Check 1 of R508. -/
def State.frmOwns (s : State) (c : Ctx) (r : Nat) : Bool :=
  validReads (s.region r) && (c == .keystone || (s.region r).owner.toNat == ctxNum c)

/-- A key handle of an APPLY: the code of its first failing check, 0 when it is 0 or passes (R508). -/
def State.frmKey (s : State) (owner : Nat) (h : Word) : Nat × Nat × Nat :=
  if h = 0 then (0, 0, 0)
  else match s.keyOf (ctxOf owner) h with
    | none => (2, 0, 0)
    | some k => (0, if isAes k.typ.toNat then 0 else 4, if bit k.policy polFrame && bit k.policy polDecrypt then 0 else 3)

/-- The tally of an APPLY is 0 or a sound CIPHERTEXT of the owner, with SLOT below N (R508). -/
def State.frmTallyOk (s : State) (owner : Nat) (x : RegSet) : Bool :=
  x.tally == 0 || match s.objOf owner x.tally with
    | some (_, o) => o.kind == 2 && !o.damaged && decide (x.slot.toNat < o.par.n)
    | none => false

/-- The first failure of R508, 0 when every check passes. -/
def State.frmCheck (s : State) (c : Ctx) (r : Nat) (x : RegSet) : Nat :=
  let owner := (s.region r).owner.toNat
  let a := s.frmKey owner x.key0
  let b := s.frmKey owner x.key1
  if !s.frmOwns c r then 1
  else if x.batch.toNat < 1 ∨ 64 < x.batch.toNat then 5
  else if a.1 ≠ 0 ∨ b.1 ≠ 0 then 2
  else if a.2.1 ≠ 0 ∨ b.2.1 ≠ 0 then 4
  else if a.2.2 ≠ 0 ∨ b.2.2 ≠ 0 then 3
  else if bit x.ctr 12 ∧ (s.regionCtr owner (fld x.ctr 0 12)).isNone then 1
  else if !s.frmTallyOk owner x then 6
  else if (s.region r).staged.isSome then 7
  else 0

/-- FRM.APPLY (R508). -/
def State.frmApply (s : State) (c : Ctx) : State :=
  let p := s.frmPage (ctxNum c)
  let r := p.reg.toNat
  let code := s.frmCheck c r p.set
  let s1 := s.setFrm (ctxNum c) { p with st := BitVec.ofNat 5 code }
  if code = 0 then s1.modRegion r fun x => { x with staged := some p.set } else s1

/-- FRM.FLUSH (R504, R508). -/
def State.frmFlush (s : State) (c : Ctx) : State :=
  let p := s.frmPage (ctxNum c)
  if s.frmOwns c p.reg.toNat then (s.setFrm (ctxNum c) { p with st := 0 }).flushRegion p.reg.toNat
  else s.setFrm (ctxNum c) { p with st := 1 }

/-- FRM.READ (R507, R508). -/
def State.frmRead (s : State) (c : Ctx) : State :=
  let p := s.frmPage (ctxNum c)
  if s.frmOwns c p.reg.toNat then s.setFrm (ctxNum c) { p with st := 0, set := (s.region p.reg.toNat).cur }
  else s.setFrm (ctxNum c) { p with st := 1 }

/-- An FRM trigger by a context with the grant (R239, R507). -/
def State.frmRow (s : State) (c : Ctx) (f : State → State) : Host.Outcome State Fault Refusal :=
  .next (if s.canTrigger c ∧ s.granted c 3 then f s else s)
def execFrmApply (c : Ctx) (s : State) : Host.Outcome State Fault Refusal := s.frmRow c fun t => t.frmApply c
def execFrmFlush (c : Ctx) (s : State) : Host.Outcome State Fault Refusal := s.frmRow c fun t => t.frmFlush c
def execFrmRead (c : Ctx) (s : State) : Host.Outcome State Fault Refusal := s.frmRow c fun t => t.frmRead c

/-- VIEW of a region (R507). -/
def regionView (x : Region) : Word :=
  let mode : Nat := match x.mode with
    | .idle => 0
    | .show => 1
    | .hold => 2
    | .fallback => 3
  w32 (mode + x.holds % 4 * 4 + x.lastSeg.toNat * 16 + x.pendPlays % 128 * 256 + flag x.staged.isSome 15)

end Sys2Proof.Machine
end

