-- ==== Sys2Proof/Machine/Span.lean ====
section
/-! DEFINITION. Span operation: enabling, links, member states, time discipline, epochs and quorum counters, span keys (R511-R540).
The frame schedule's boundaries stand in Wall.lean. -/

namespace Sys2Proof.Machine

open Sys2Proof

/-! ## Enabling (R511, R512, R517) -/

/-- Two ranges of span counters overlap. -/
def spanRangesMeet (a b : Nat × Nat) : Bool := decide (a.1 < b.1 + b.2) && decide (b.1 < a.1 + a.2)

/-- No two ranges of a list overlap. -/
def rangesApart : List (Nat × Nat) → Bool
  | [] => true
  | a :: as => as.all (fun b => !spanRangesMeet a b) && rangesApart as

/-- The conditions of R512. -/
def State.spanCfgOk (s : State) : Bool :=
  let m := s.spanM
  let ids := (List.range m).map s.spanDevice
  let used := ((List.range 1024).map s.spanRange).filter fun r => r.2 != 0
  decide (1 ≤ m) && decide (m ≤ 64) && decide ids.Nodup && ids.all (· != 0) && ids.contains Config.deviceId.toNat &&
  decide (416666 ≤ s.spanPeriod) && decide (s.spanPeriod ≤ 4166667) && decide (1 ≤ s.spanMinLevel) &&
  decide (s.spanMinLevel ≤ 15) && s.keyset.all (fun i => decide (64 ≤ i) && decide (i ≤ 8191)) && decide s.keyset.Nodup &&
  used.all (fun r => decide (1 ≤ r.1) && decide (r.1 + r.2 ≤ 512)) && rangesApart used &&
  match s.keyOf .keystone s.span.root with
  | none => false
  | some k => k.typ.toNat == 2 && polOk k.policy polDerive &&
      (kdf k.key "CHCK" (s.spanCfg 0 8 ++ zeros 8)).take 16 == s.spanCfg 0x10 16

/-- The member takes a state; a change sets SPAN_EVT.STATE (R517, R539). -/
def State.spanTo (s : State) (st : MState) : State :=
  if s.span.state = st then s else ({ s with span := { s.span with state := st } } : State).spanEvent evtState

/-- HELLO on a span lane with a fresh nonce (R516). -/
def State.sendHello (s : State) (l : Nat) : State :=
  let d := s.drbg 16
  let x := tget s.span.links l {}
  let s1 := { d.2 with span := { d.2.span with links := tset d.2.span.links l { x with nonce := d.1, ack := false } } }
  s1.spanEmit [l] 0x01 0xFF (leBytes 8 Config.deviceId.toNat ++ d.1 ++ [1, byte s.spanMinLevel, 0, 0] ++ s.span.hash)

/-- What entry to UP starts on a span lane (R516). -/
def State.spanUp (s : State) (l : Nat) : State :=
  if (s.laneAt l).role = 3 ∧ s.span.state ≠ .off then s.sendHello l else s

/-- The contexts whose span INC waits complete with NO_QUORUM (R531). -/
def State.incsFail (s : State) : State :=
  s.span.waiting.foldl (fun t w => t.ctrFinish (ctxOf w.2) 6 none)
    { s with span := { s.span with waiting := [] } }

/-- A span unit at rest keeps its registers only. -/
def spanIdle (x : Span) : Span :=
  { root := x.root, cmd := x.cmd, arg0 := x.arg0, arg1 := x.arg1, result := x.result, evt := x.evt, steps := x.steps,
    schedMiss := x.schedMiss, config := x.config, reqNo := x.reqNo, mseq := x.mseq, t4 := some 0 }

/-- SPAN_CTRL.EN set to 1 (R512). -/
def State.spanOn (s : State) : State :=
  if s.span.en then s
  else if !s.spanCfgOk then s.spanEvent evtCfg
  else
    let me := ((List.range s.spanM).find? fun m => s.spanDevice m == Config.deviceId.toNat).getD 0
    let s1 := ({ s with span := { spanIdle s.span with
      en := true, member := BitVec.ofNat 6 me, hash := sha384 (s.spanCfg 0 5152) } } : State).spanTo .seeking
    (List.range 12).foldl (fun t l => if (t.laneAt l).state = .up then t.spanUp l else t) s1

/-- SPAN_CTRL.EN set to 0: the device is OFF (R539). -/
def State.spanOff (s : State) : State :=
  if ¬ s.span.en then s else ({ s.incsFail with span := { spanIdle s.span with state := s.span.state } } : State).spanTo .off

def execSpanEnable (s : State) : Host.Outcome State Fault Refusal := .next (if s.ksWriter then s.spanOn else s)
def execSpanDisable (s : State) : Host.Outcome State Fault Refusal := .next (if s.ksWriter then s.spanOff else s)

/-! ## Receiving (R514, R515) -/

/-- The peer is heard: a peer unknown or lost is LINKED again; its EPOCH is noted (R518, R519). -/
def State.spanHeard (s : State) (m : SpanMsg) : State :=
  let p := s.peer m.src.toNat
  let back := p.state = .absent ∨ p.state = .lost ∨ p.state = .authFail
  s.setPeer m.src.toNat { p with state := if back then .linked else p.state, epoch := m.epoch }

/-- The lane and the hops of a peer's latest broadcast (R515, R519). -/
def State.spanVia (s : State) (l : Nat) (m : SpanMsg) : State :=
  let s1 := { s with span := { s.span with via := tset s.span.via m.src.toNat l } }
  s1.modPeer m.src.toNat fun p => { p with lane := BitVec.ofNat 4 l, hops := BitVec.ofNat 6 (64 - m.ttl.toNat) }

/-- A message is forwarded with TTL - 1 and a MAC of its own: a broadcast on every other lane, one for another member on its lane. -/
def State.spanForward (s : State) (l : Nat) (mtype : Byte) (m : SpanMsg) : State :=
  let n := { m with ttl := m.ttl - 1 }
  if m.dst = 0xFF then s.spanPut (s.spanLanes.filter (· ≠ l)) mtype n
  else match s.laneTowards m.dst.toNat with
    | some k => s.spanPut [k] mtype n
    | none => s

/-- The link on a lane is authenticated. -/
def State.linkAuth (s : State) (l : Nat) : Bool := s.spanLanes.contains l

/-- A message other than HELLO and HELLO_ACK that has not been seen: noted, forwarded, and delivered when it is for this member and of its
EPOCH; REPORT_REQ, REPORT and EPOCH_NEW are delivered from every EPOCH (R515). -/
def State.spanRoute (s : State) (l : Nat) (mtype : Byte) (m : SpanMsg) (f : State → State) : State :=
  let key := (m.src.toNat, m.epoch, m.mseq)
  let mine := m.dst = 0xFF ∨ m.dst.toNat = s.ownId
  let anyEpoch := mtype = 0x20 ∨ mtype = 0x21 ∨ mtype = 0x22
  if ¬ s.linkAuth l ∨ m.ttl = 0 ∨ m.src.toNat = s.ownId ∨ 64 ≤ m.src.toNat ∨ s.span.seen.contains key then s
  else
    let s1 := ({ s with span := { s.span with seen := key :: s.span.seen } } : State).spanHeard m
    let s2 := if m.dst = 0xFF then s1.spanVia l m else s1
    let s3 := if m.dst = 0xFF ∨ ¬ mine then s2.spanForward l mtype m else s2
    if mine ∧ (anyEpoch ∨ m.epoch = s.epochNow) then f s3 else s3

/-- A SPAN packet with a message: no consumer without a span lane and a span; discarded when its MAC fails; an EXCLUDED member takes
HELLO only (R514, R517). [DEDUCED, log 156] -/
def State.spanTake (s : State) (l : Nat) (mtype : Byte) (m : SpanMsg) (f : State → State) : State :=
  if (s.laneAt l).role ≠ 3 ∨ s.span.state = .off then s.countDrop l
  else match s.spanMsgKey with
    | none => s
    | some k =>
      if m.mac ≠ spanMac k (spanHead mtype m) then s
      else if mtype = 1 ∨ mtype = 2 then f s
      else if s.span.state = .excluded then s
      else s.spanRoute l mtype m f

/-- The row of a message. -/
def State.spanRow (s : State) (l : Lane) (seq : BitVec 12) (mtype : Byte) (m : SpanMsg) (f : State → State) :
    Host.Outcome State Fault Refusal :=
  .next (s.rxPacket l { seq := seq, body := spanHead mtype m ++ m.mac } fun t => t.spanTake l.val mtype m f)

/-! ## Leaders and SYNCING (R519, R537, R538) -/

/-- The member this one follows: of the ACTIVE members the lowest of the highest EPOCH; with none ACTIVE the lowest of itself and the
LINKED peers. [DEDUCED, log 152] -/
def State.spanLeader (s : State) : Option Nat :=
  let ep (m : Nat) : Nat := if m = s.ownId then s.epochNow.toNat else (s.peer m).epoch.toNat
  let act := s.spanActive
  let linked := (List.range 64).filter fun m =>
    (m = s.ownId ∧ s.span.state = .syncing) ∨ (m ≠ s.ownId ∧ (s.peer m).state = .linked)
  match (act.map ep).max? with
  | some e => (act.filter fun m => ep m = e).head?
  | none => linked.head?

/-- This member leads. [DEDUCED, log 152] -/
def State.leads (s : State) : Bool :=
  (s.span.state == .active || s.span.state == .syncing) && s.spanLeader == some s.ownId

/-- SYNCING starts from step 1: it asks every member for its records (R537, R538). [DEDUCED, log 153] -/
def State.syncStart (s : State) : State :=
  (({ s with span := { s.span with
    locked := false, holdover := false, inRange := 0, outRange := 0, gotSchedule := false, gotReports := 0 } } : State).spanTo
    .syncing).spanCast 0x20 []

/-- Frame-lock is left: SPAN_EVT.LOCK_LOST, and an ACTIVE or SYNCING member starts SYNCING (R523, R538). -/
def State.loseLock (s : State) : State :=
  let s1 := ({ s with span := { s.span with locked := false, holdover := false, inRange := 0, outRange := 0 } } : State).spanEvent
    evtLockLost
  if s1.span.state = .active ∨ s1.span.state = .syncing then s1.syncStart else s1

/-! ## Span counters (R528-R533) -/

/-- A record raised to a value (R303, R530): by cells when 64 suffice, by one fold that carries the value otherwise.
[DEDUCED, log 155] -/
def ctrRaise (r : CtrRec) (v : Nat) : CtrRec :=
  match ctrBase r, ctrVal r with
  | some b, some old =>
    if v ≤ old then r
    else if v - old ≤ 64 then ctrInc r (v - old)
    else (ctrFoldSteps r b.gen v).getLastD r
  | _, _ => r

/-- Span counter `i` raised; a new EPOCH starts the message numbers and the votes again (R514, R529). [DEDUCED, log 155] -/
def State.spanRaise (s : State) (i v : Nat) : State :=
  let s1 := s.setCtr (spanCtr i) (ctrRaise (s.ctr (spanCtr i)) v)
  if i = 0 ∧ s1.epochNow ≠ s.epochNow then { s1 with span := { s1.span with mseq := 0, votes := [] } } else s1

/-- A set of members as a bitmap. -/
def bitmapOf (ms : List Nat) : Nat := (ms.map fun m => 2 ^ m).sum
/-- The members of a bitmap. -/
def ofBitmap (w : Nat) : List Nat := (List.range 64).filter fun m => w.testBit m

/-- Values of the span counters from `first`, at most 120; a record that has diverged reports 0 (R532, R533). -/
def reportVals (vals : Nat → Nat) (first : Nat) : Bytes :=
  (List.range (min 120 (512 - first))).flatMap fun i => leBytes 8 (vals (first + i))
def State.ownVal (s : State) (i : Nat) : Nat := if s.span.divergedCtrs.contains i then 0 else s.ctrNat (spanCtr i)
/-- First counters of the 5 messages. -/
def reportFirsts : List Nat := [0, 120, 240, 360, 480]

/-- The 5 REPORT messages to a member (R532). -/
def State.sendReports (s : State) (m : Nat) : State :=
  reportFirsts.foldl (fun t f => t.spanSend m 0x21 (leBytes 2 f ++ [0, 0] ++ reportVals s.ownVal f)) s

/-- K_pair of this member and another (R534). -/
def State.pairKey (s : State) (m : Nat) : Bytes :=
  kdf (s.spanRootKey.getD []) "PAIR"
    ([byte (min s.ownId m), byte (max s.ownId m)] ++ leBytes 4 s.epochNow.toNat ++ zeros 10)

/-- A KEYS message for a filled slot: its material padded to 48 bytes and wrapped (R534). [DEDUCED, log 158] -/
def State.sendKey (s : State) (m slot : Nat) : State :=
  match s.vault.slots.find? fun e => e.1 == slot with
  | none => s
  | some (_, k) =>
    s.spanSend m 0x40 (leBytes 2 slot ++ leBytes 2 k.owner.toNat ++ [byte (k.typ.toNat + flag k.volatile 7), k.policy] ++
      leBytes 2 k.incarn.toNat ++ kwWrap (s.pairKey m) (slice k.key 0 48))

/-- Every listed slot to a member (R537 step 6). -/
def State.sendKeys (s : State) (m : Nat) : State := s.keyset.foldl (fun t i => t.sendKey m i) s

/-! ### Proposals at the leader (R529-R532) -/

/-- The own vote for a pair of counter and value, when none is held yet (R529). -/
def State.takeVote (s : State) (i : Nat) (v : Dword) : Bool × State :=
  if s.span.votes.contains (i, v) then (false, s)
  else (true, { s with span := { s.span with votes := s.span.votes ++ [(i, v)] } })

/-- EPOCH_NEW in 5 messages: EPOCH, bitmap, first counter, adopted values (R532). [DESIGN CHOICE, log 154] -/
def State.sendEpoch (s : State) (x : Forming) : State :=
  let vals (i : Nat) : Nat := if i = 0 then s.ctrNat (spanCtr 0) else (tget x.reports i 0).toNat
  reportFirsts.foldl (fun t f => t.spanCast 0x22
    (leBytes 4 s.epochNow.toNat ++ leBytes 8 (bitmapOf x.members) ++ leBytes 2 f ++ [0, 0] ++ reportVals vals f)) s

/-- A new epoch is in force: its members ACTIVE, SPAN_EVT.EPOCH, INCs under way completed with NO_QUORUM (R531, R532). -/
def State.epochSet (s : State) (members : List Nat) : State :=
  let s1 := s.incsFail
  let st (m : Nat) (p : Peer) : Peer :=
    if members.contains m then { p with state := .active } else if p.state = .active then { p with state := .linked } else p
  let s2 := (List.range 64).foldl (fun t m => if m = t.ownId then t
    else if (t.peer m).state = .absent ∧ ¬ members.contains m then t else t.modPeer m (st m)) s1
  ({ s2 with span := { s2.span with activeSet := members, proposal := none, incQueue := [], forming := none } } : State).spanEvent
    evtEpoch

/-- Q DONE are held: the requester's INC completes, or the new epoch is broadcast (R529 step 6, R532 step 5). -/
def State.proposalDone (s : State) (p : Proposal) : State :=
  let s1 := { s with span := { s.span with proposal := none } }
  if p.epoch then
    match s1.span.forming with
    | none => s1
    | some x => (s1.sendEpoch x).epochSet x.members
  else if p.requester = s.ownId then
    match s1.span.waiting.find? fun w => w.1 == p.request with
    | none => s1
    | some w => ({ s1 with span := { s1.span with waiting := s1.span.waiting.filter (· ≠ w) } } : State).ctrFinish (ctxOf w.2) 0
        (some p.new.toNat)
  else s1.spanSend p.requester 0x35 (leBytes 4 p.request.toNat ++ zeros 4 ++ leBytes 8 p.new.toNat)

/-- Q votes are held: the quorum certificate is sent, then the leader's own record programmed (R529 steps 4 and 5, R530). -/
def State.proposalCommit (s : State) (p : Proposal) : State :=
  let s1 := s.spanCast 0x33 (leBytes 4 s.epochNow.toNat ++ leBytes 2 p.counter ++ [0, 0] ++ leBytes 8 p.new.toNat ++
    leBytes 8 (bitmapOf p.votes))
  let q := { p with committed := true, dones := [s.ownId] }
  let s2 := ({ s1 with span := { s1.span with proposal := some q } } : State).spanRaise p.counter p.new.toNat
  if s.spanQ ≤ 1 then s2.proposalDone q else s2

/-- PROPOSE goes out with the leader's own vote (R529 steps 2 to 4). [DESIGN CHOICE, log 154] -/
def State.propose (s : State) (p : Proposal) : State :=
  let v := s.takeVote p.counter p.old
  let q := { p with votes := if v.1 then [s.ownId] else [] }
  let s1 := { v.2 with span := { v.2.span with proposal := some q } }
  let s2 := s1.spanCast 0x31 (leBytes 2 p.counter ++ [0, 0] ++ leBytes 8 p.old.toNat ++ leBytes 8 p.new.toNat)
  if s.spanQ ≤ q.votes.length then s2.proposalCommit q else s2

/-- The oldest queued increment is proposed, one at a time (R529). [DEDUCED, log 155] -/
def State.incPump : Nat → State → State
  | 0, s => s
  | k + 1, s =>
    match s.span.incQueue with
    | [] => s
    | (who, req, i, b) :: rest =>
      if s.span.proposal.isSome ∨ s.span.forming.isSome then s
      else
        let v := s.ctrNat (spanCtr i)
        State.incPump k (({ s with span := { s.span with incQueue := rest } } : State).propose
          { counter := i, old := BitVec.ofNat 64 v, new := BitVec.ofNat 64 (v + b), requester := who, request := req })
def State.incGo (s : State) : State := State.incPump s.span.incQueue.length s

/-! ### Epoch formation (R532, R533) -/

/-- Reports of a member count as proven: it was ACTIVE in the previous epoch, or no member was (R533). -/
def State.provenBy (s : State) (members : List Nat) (m : Nat) : Bool :=
  s.span.activeSet.contains m || members.all fun i => !s.span.activeSet.contains i

/-- The higher of the value held and another, by counter. -/
def maxReport (t : Tab Dword) (i v : Nat) : Tab Dword :=
  if (tget t i 0).toNat < v then tset t i (BitVec.ofNat 64 v) else t

/-- Every member has sent its 5 REPORTs: the records are raised to the adopted values, and SEPOCH is incremented by quorum (R532 steps
3 and 4). -/
def State.formGo (s : State) (x : Forming) : State :=
  if x.members.any fun m => m != s.ownId && decide (tget x.counts m 0 < 5) then s
  else
    let s1 := x.reports.foldl (fun t e => t.spanRaise e.1 e.2.toNat) s
    let v := s1.ctrNat (spanCtr 0)
    s1.propose { counter := 0, old := BitVec.ofNat 64 v, new := BitVec.ofNat 64 (v + 1), epoch := true, requester := s.ownId }

/-- The leader forms a new epoch among the ACTIVE members when they are at least Q (R532); increments under way end. -/
def State.formEpoch (s : State) : State :=
  let members := s.spanActive
  let s1 := { s with span := { s.span with proposal := none, incQueue := [], forming := none } }
  if s.span.state ≠ .active ∨ ¬ s.leads ∨ members.length < s.spanQ then s1
  else
    let own : Tab Dword := if s.provenBy members s.ownId then
        (List.range 512).foldl (fun t i => maxReport t i (s.ownVal i)) [] else []
    let x : Forming := { members := members, reports := own }
    let s2 := { s1 with span := { s1.span with forming := some x } }
    ((members.filter (· ≠ s.ownId)).foldl (fun t m => t.spanSend m 0x20 []) s2).formGo x

/-! ## Links (R516, R518, R536) -/

/-- Member ID of a device ID. -/
def State.memberOf (s : State) (dev : Nat) : Option Nat := (List.range s.spanM).find? fun m => s.spanDevice m == dev

/-- A link is authenticated: the peer is LINKED, or OBSERVER when the configuration hashes differ; a SEEKING member leaves that state
(R516, R517, R536). [DEDUCED, log 156] -/
def State.linkDone (s : State) (l : Nat) : State :=
  let x := tget s.span.links l {}
  if ¬ (x.hello ∧ x.ack) then s
  else
    let same := (s.peer x.peer).hash = s.span.hash
    let s1 := (s.modPeer x.peer fun p => { p with
      state := if ¬ same then .observer else if p.state = .active then .active else .linked, lane := BitVec.ofNat 4 l, hops := 1 }).spanEvent
      evtPeer
    if s1.span.state ≠ .seeking then s1 else if same then s1.syncStart else s1.spanTo .observer

/-- A verified HELLO: who sends it, whether R536 admits it, HELLO_ACK with its nonce (R516). A peer that was linked counts as LOST first
(R518), and is sent a new HELLO. [DEDUCED, log 156] -/
def State.helloIn (s : State) (l : Nat) (m : SpanMsg) : State :=
  let maxLevel := (m.body.getD 24 0).toNat
  let minLevel := (m.body.getD 25 0).toNat
  let x := tget s.span.links l {}
  if m.body.length ≠ 76 then s
  else match s.memberOf (leNat (m.body.take 8)) with
    | none =>
      let st := (s.peer m.src.toNat).state
      if m.src.toNat < 64 ∧ (st = .absent ∨ st = .lost ∨ st = .authFail) then
        (s.modPeer m.src.toNat fun p => { p with state := .excluded }).spanEvent evtPeer
      else s
    | some who =>
      if maxLevel < s.spanMinLevel then (s.modPeer who fun p => { p with state := .excluded }).spanEvent evtPeer
      else if 1 < minLevel then s.spanTo .excluded
      else
        let again := x.hello && x.ack
        let was := again && (s.peer who).state == .active
        let s1 := if again then (s.modPeer who fun p => { p with state := .lost, served := false }).spanEvent evtPeer else s
        let s2 := s1.modPeer who fun p => { p with level := bv (m.body.getD 24 0) 0 4, hash := m.body.drop 28 }
        let y : SpanLink := { (if again then {} else x) with hello := true, peer := who }
        let s3 := { s2 with span := { s2.span with links := tset s2.span.links l y } }
        let s4 := (if again then s3.sendHello l else s3).spanEmit [l] 0x02 who (slice m.body 8 16)
        let s5 := s4.linkDone l
        if was then s5.formEpoch else s5

end Sys2Proof.Machine
end

