-- ==== Sys2Proof/Machine/SpanRows.lean ====
section
/-! DEFINITION. The rows of the span: messages received, its timers, PUSH (R514-R537). -/

namespace Sys2Proof.Machine

open Sys2Proof

/-! ## Links and members (R516, R518) -/

/-- HELLO (R516). -/
def execHello (l : Lane) (seq : BitVec 12) (m : SpanMsg) (s : State) : Host.Outcome State Fault Refusal :=
  s.spanRow l seq 0x01 m fun t => t.helloIn l.val m

/-- HELLO_ACK: the nonce sent comes back (R516). -/
def State.helloAckIn (s : State) (l : Nat) (m : SpanMsg) : State :=
  let x := tget s.span.links l {}
  if x.nonce ≠ [] ∧ m.body = x.nonce then
    ({ s with span := { s.span with links := tset s.span.links l { x with ack := true } } } : State).linkDone l
  else s
def execHelloAck (l : Lane) (seq : BitVec 12) (m : SpanMsg) (s : State) : Host.Outcome State Fault Refusal :=
  s.spanRow l seq 0x02 m fun t => t.helloAckIn l.val m

/-- A span lane whose HELLO has no verified answer. -/
def State.helloOpen (s : State) (l : Nat) : Bool :=
  s.span.state != .off && (s.laneAt l).role == 3 && (s.laneAt l).state == .up && !s.linkAuth l

/-- The member at the other end of a lane: from its HELLO, else from the device ID of its training sets. -/
def State.farMember (s : State) (l : Nat) : Option Nat :=
  let x := tget s.span.links l {}
  if x.hello then some x.peer else s.memberOf (s.laneAt l).partner.toNat

/-- HELLO_TIMEOUT: no verified answer within 10 ms (R516). [DEDUCED, log 156] -/
def execHelloTimeout (l : Lane) (s : State) : Host.Outcome State Fault Refusal :=
  .next (if s.helloOpen l.val then
    match s.farMember l.val with
    | some m => (s.modPeer m fun p => { p with state := .authFail, lane := BitVec.ofNat 4 l.val }).spanEvent evtPeer
    | none => s
  else s)

/-- HELLO_RETRY_TIMER: again every 1 s (R516). -/
def execHelloRetryTimer (l : Lane) (s : State) : Host.Outcome State Fault Refusal :=
  .next (if s.helloOpen l.val then s.sendHello l.val else s)

/-- ALIVE: nothing beyond being heard (R518). -/
def execAlive (l : Lane) (seq : BitVec 12) (m : SpanMsg) (s : State) : Host.Outcome State Fault Refusal :=
  s.spanRow l seq 0x10 m fun t => t

/-- SYNCING, ACTIVE or OBSERVER (R518). -/
def State.spanTakesPart (s : State) : Bool :=
  s.span.state == .syncing || s.span.state == .active || s.span.state == .observer

/-- ALIVE_TIMER: every 1 ms (R518). -/
def execAliveTimer (s : State) : Host.Outcome State Fault Refusal :=
  .next (if s.alive ∧ s.spanTakesPart then s.spanCast 0x10 [] else s)

/-- PEER_LOST_TIMEOUT: 20 ms without a message; the ACTIVE set may have changed (R518, R532). -/
def execPeerLostTimeout (peer : Fin 64) (s : State) : Host.Outcome State Fault Refusal :=
  .next (let p := s.peer peer.val
    if s.spanTakesPart ∧ (p.state = .linked ∨ p.state = .active ∨ p.state = .observer) then
      let s1 := (s.setPeer peer.val { p with state := .lost, served := false }).spanEvent evtPeer
      let s2 := { s1 with span := { s1.span with via := tdel s1.span.via peer.val } }
      if p.state = .active then
        (if s2.leads then ({ s2 with span := { s2.span with locked := true, holdover := false } } : State) else s2).formEpoch
      else s2
    else s)

/-! ## Time (R520-R524) -/

/-- The lane to the time parent, the neighbour on the way to the leader (R519). -/
def State.parentLane (s : State) : Option Nat :=
  match s.spanLeader with
  | some m => if m = s.ownId then none else s.laneTowards m
  | none => none

/-- STAMP_MEASURE_TIMER: a measurement begins with STAMP k (R416, R520). -/
def State.measure (s : State) (l : Lane) : State :=
  let k := s.span.stampK + 1
  let s1 := { s with span := { s.span with stampK := k, t1 := s.clk.time, t4 := none } }
  (s1.modLane l.val fun x => { x with stampTx := s.clk.time, stampTxId := k }).sendCtrl l 0x04 0 0 k

def execStampMeasureTimer (now : Time) (s : State) : Host.Outcome State Fault Refusal :=
  .next (let s1 := s.atTime now
    if s1.alive ∧ s1.spanTakesPart then
      match s1.parentLane with
      | some l => if h : l < 12 then s1.measure ⟨l, h⟩ else s1
      | none => s1
    else s1)

/-- A STAMP at a span lane's authenticated link: the reply to this member's, which gives t4, or a neighbour's, answered with STAMP and
TIME_RSP (R520). [DEDUCED, log 157] -/
def State.stampAnswer (s : State) (l : Lane) (param : BitVec 16) : State :=
  if ¬ s.spanTakesPart ∨ ¬ s.linkAuth l.val then s
  else if s.span.t4.isNone ∧ s.parentLane = some l.val ∧ param = s.span.stampK then
    { s with span := { s.span with t4 := some s.clk.time } }
  else
    let t := s.clk.time
    let s1 := (s.modLane l.val fun x => { x with stampTx := t, stampTxId := param }).sendCtrl l 0x04 0 0 param
    s1.spanEmit [l.val] 0x12 (tget s.span.links l.val {}).peer (leBytes 2 param.toNat ++ [0, 0] ++ leBytes 8 t.toNat ++ leBytes 8 t.toNat)

/-- STAMP: the receive TIME and PARAM latched on every lane (R416). -/
def execStamp (l : Lane) (param : BitVec 16) (now : Time) (s : State) : Host.Outcome State Fault Refusal :=
  .next (let s1 := s.atTime now
    if (s1.laneAt l.val).state = .up then
      (s1.modLane l.val fun x => { x with stampRx := s1.clk.time, stampRxId := param }).stampAnswer l param
    else s1)

/-- 1 µs in ticks. -/
def microTicks : Int := 100

/-- TIME stepped by θ: any amount, forward or backward (R522). [DEDUCED, log 157] -/
def State.timeStep (s : State) (d : Int) : State :=
  { s with clk := { s.clk with time := BitVec.ofInt 64 ((s.clk.time.toNat : Int) + d) }
           span := { s.span with steps := satAdd1 s.span.steps, inRange := 0 } }

/-- `x / n`, rounded down or up where it is not whole, as `k` is even or odd: the spec gives no rounding. [DESIGN CHOICE, log 52] -/
def roundDiv (k : Nat) (x n : Int) : Int := x / n + (if x % n = 0 ∨ k % 2 = 0 then 0 else 1)

/-- A measured offset θ: frame-lock, steps and correction (R520-R523). [DEDUCED, log 157; DESIGN CHOICE, log 52] -/
def State.measured (s : State) (d : Int) : State :=
  let ths := d :: s.span.thetas.take 15
  let f := s.drawNat
  let mean := roundDiv f.1 (ths.sum * 10) ths.length
  let s1 := { f.2 with span := { s.span with thetas := ths, offset := BitVec.ofInt 32 mean, holdover := false } }
  let inside := -microTicks ≤ d ∧ d ≤ microTicks
  if s1.span.locked then
    if inside then { s1 with span := { s1.span with outRange := 0, inRange := s1.span.inRange + 1, correction := d } }
    else if 2 ≤ s1.span.outRange + 1 then s1.loseLock
    else { s1 with span := { s1.span with outRange := s1.span.outRange + 1, inRange := 0, correction := d } }
  else if inside then
    let n := s1.span.inRange + 1
    { s1 with span := { s1.span with inRange := n, outRange := 0, locked := decide (8 ≤ n), correction := if 8 ≤ n then d else 0 } }
  else s1.timeStep d

/-- TIME_RSP to the measurement in progress (R520). [DESIGN CHOICE, log 52] -/
def State.timeRspIn (s : State) (l : Nat) (m : SpanMsg) : State :=
  match s.span.t4 with
  | none => s
  | some t4 =>
    let t2 : Int := leNat (slice m.body 4 8)
    let t3 : Int := leNat (slice m.body 12 8)
    if s.spanTakesPart ∧ m.body.length = 20 ∧ leNat (m.body.take 2) = s.span.stampK.toNat ∧ s.parentLane = some l then
      s.drawNat.2.measured (roundDiv s.drawNat.1 ((t2 - (s.span.t1.toNat : Int)) + (t3 - (t4.toNat : Int))) 2)
    else s
def execTimeRsp (l : Lane) (seq : BitVec 12) (m : SpanMsg) (s : State) : Host.Outcome State Fault Refusal :=
  s.spanRow l seq 0x12 m fun t => t.timeRspIn l.val m

/-- TIME_RSP_TIMEOUT: 20 ms without a valid TIME_RSP (R524); a time leader needs none. -/
def execTimeRspTimeout (s : State) : Host.Outcome State Fault Refusal :=
  .next (if s.spanTakesPart ∧ ¬ s.leads then { s with span := { s.span with holdover := true } } else s)

/-- HOLDOVER_EXPIRY: 500 ms without a new parent end frame-lock, unless the member leads now (R524). -/
def execHoldoverExpiry (s : State) : Host.Outcome State Fault Refusal :=
  .next (if s.span.holdover then
    (if s.leads then { s with span := { s.span with holdover := false, locked := true } }
     else if s.span.locked then s.loseLock
     else { s with span := { s.span with holdover := false } })
  else s)

/-- One tick of TIME while a correction runs: a tick added or skipped at most every 5,000 ticks, 200 ppm (R521). The ticks TIME advances
by, and the state. [DEDUCED, log 157; DESIGN CHOICE, log 58] -/
def State.slewTick (s : State) : Nat × State :=
  if s.span.slewWait ≠ 0 then (1, { s with span := { s.span with slewWait := s.span.slewWait - 1 } })
  else if s.span.locked ∧ 0 < s.span.correction then
    (2, { s with span := { s.span with slewWait := 4999, correction := s.span.correction - 1 } })
  else if s.span.locked ∧ s.span.correction < 0 then
    (0, { s with span := { s.span with slewWait := 4999, correction := s.span.correction + 1 } })
  else (1, s)

/-! ## Schedule (R480, R526, R537) -/

/-- SCHEDULE of the leader: the boundary noted; the sender is ACTIVE; a member in SYNCING adopts FRAME_NO once, ending every tile session
when the new one is not above its own; it asks the leader for its records unless they have come (R480, R537 steps 4 and 5).
[DEDUCED, log 153, 159] -/
def State.scheduleIn (s : State) (m : SpanMsg) : State :=
  let no := leNat (m.body.take 8)
  let t := leNat (slice m.body 8 8)
  if m.body.length ≠ 20 ∨ ¬ s.spanTakesPart then s
  else
    let s1 := s.modPeer m.src.toNat fun p => { p with state := if p.state = .linked then .active else p.state }
    if s1.spanLeader ≠ some m.src.toNat then s1
    else
      let keep := s1.span.schedule.filter fun e => decide (s1.frame.frameNo.toNat < e.1.toNat) && e.1.toNat != no
      let s2 : State := { s1 with span := { s1.span with schedule := keep ++ [(BitVec.ofNat 64 no, BitVec.ofNat 64 t)] } }
      if s2.span.gotSchedule = true ∨ s2.span.state = MState.active then s2
      else
        let s3 := if no - 2 ≤ s2.frame.frameNo.toNat then
            (List.range 12).foldl (fun u l => u.chainGone l) s2 else s2
        let s4 : State := { s3 with
          span := { s3.span with gotSchedule := true }
          frame := { s3.frame with frameNo := BitVec.ofNat 64 (no - 2), last := BitVec.ofNat 64 (t - 2 * s3.spanPeriod),
                                   deadline := false } }
        if s4.span.gotReports = 0 then s4.spanSend m.src.toNat 0x20 [] else s4
def execSchedule (l : Lane) (seq : BitVec 12) (m : SpanMsg) (s : State) : Host.Outcome State Fault Refusal :=
  s.spanRow l seq 0x11 m fun t => t.scheduleIn m

/-! ## Reports and epochs (R532, R533, R537) -/

/-- REPORT_REQ: an ACTIVE member answers with its records; the leader also sends the span keys, ahead of the reports (R532 step 2, R537
steps 5 and 6). [DEDUCED, log 153] -/
def State.reportReqIn (s : State) (m : SpanMsg) : State :=
  let who := m.src.toNat
  if s.span.state ≠ .active then s
  else
    let s1 := if s.leads ∧ (s.peer who).state ≠ .active then
        (s.sendKeys who).modPeer who fun p => { p with served := true } else s
    s1.sendReports who
def execReportReq (l : Lane) (seq : BitVec 12) (m : SpanMsg) (s : State) : Host.Outcome State Fault Refusal :=
  s.spanRow l seq 0x20 m fun t => t.reportReqIn m

/-- The counters and values a REPORT or EPOCH_NEW body carries from offset `off`. -/
def carried (body : Bytes) (off : Nat) : List (Nat × Nat) :=
  let first := leNat (slice body off 2)
  (List.range ((body.length - off - 4) / 8)).filterMap fun i =>
    if first + i < 512 then some (first + i, leNat (slice body (off + 4 + 8 * i) 8)) else none

/-- REPORT: to a leader that forms an epoch, proven values count (R533); to a member in SYNCING, which raises its records (R537 step 5). -/
def State.reportIn (s : State) (m : SpanMsg) : State :=
  let who := m.src.toNat
  let vs := carried m.body 0
  match s.span.forming with
  | some x =>
    if s.span.state = .active ∧ x.members.contains who then
      let y := { x with
        counts := tset x.counts who (tget x.counts who 0 + 1)
        reports := if s.provenBy x.members who then vs.foldl (fun t e => maxReport t e.1 e.2) x.reports else x.reports }
      ({ s with span := { s.span with forming := some y } } : State).formGo y
    else s
  | none =>
    if s.span.state = .syncing then
      let s1 := s.modPeer who fun p => { p with state := if p.state = .linked then .active else p.state }
      let s2 := vs.foldl (fun t e => t.spanRaise e.1 e.2) s1
      if s2.spanLeader = some who then { s2 with span := { s2.span with gotReports := s2.span.gotReports + 1 } } else s2
    else s
def execReport (l : Lane) (seq : BitVec 12) (m : SpanMsg) (s : State) : Host.Outcome State Fault Refusal :=
  s.spanRow l seq 0x21 m fun t => t.reportIn m

/-- One adopted value: the record raised to it; a higher record has diverged and is not reported until the adopted value exceeds it
(R532, R533). -/
def State.adopt (s : State) (i v : Nat) : State :=
  let old := s.ctrNat (spanCtr i)
  if v < old then
    if s.span.divergedCtrs.contains i then s
    else ({ s with span := { s.span with diverged := true, divergedCtrs := s.span.divergedCtrs ++ [i] } } : State).spanEvent evtDiverged
  else
    let s1 := if old < v then { s with span := { s.span with divergedCtrs := s.span.divergedCtrs.filter (· ≠ i) } } else s
    s1.spanRaise i v

/-- EPOCH_NEW of an epoch not below the own one: records, members, the event (R532). An OBSERVER takes no part (R536). -/
def State.epochIn (s : State) (m : SpanMsg) : State :=
  let e := leNat (m.body.take 4)
  let members := ofBitmap (leNat (slice m.body 4 8))
  if m.body.length < 16 ∨ e < s.epochNow.toNat ∨ ¬ (s.span.state = .active ∨ s.span.state = .syncing) then s
  else
    let fresh := s.span.activeSet ≠ members ∨ leNat (slice m.body 12 2) = 0
    let s1 := (carried m.body 12).foldl (fun t x => t.adopt x.1 x.2) s
    if fresh then s1.epochSet members else s1
def execEpochNew (l : Lane) (seq : BitVec 12) (m : SpanMsg) (s : State) : Host.Outcome State Fault Refusal :=
  s.spanRow l seq 0x22 m fun t => t.epochIn m

/-! ## Increments (R528-R531) -/

/-- INC_REQ at the leader: queued in order of arrival (R529 step 1). [DEDUCED, log 155] -/
def State.incReqIn (s : State) (m : SpanMsg) : State :=
  let i := leNat (m.body.take 2)
  let b := leNat (slice m.body 2 2)
  if s.span.state = .active ∧ s.leads ∧ m.body.length = 8 ∧ 1 ≤ i ∧ i < 512 ∧ 1 ≤ b ∧ b ≤ 64 then
    ({ s with span := { s.span with incQueue := s.span.incQueue ++ [(m.src.toNat, wordAt m.body 4, i, b)] } } : State).incGo
  else s
def execIncReq (l : Lane) (seq : BitVec 12) (m : SpanMsg) (s : State) : Host.Outcome State Fault Refusal :=
  s.spanRow l seq 0x30 m fun t => t.incReqIn m

/-- PROPOSE: VOTE goes back when the record equals v and no vote is held (R529 step 3). [DESIGN CHOICE, log 154] -/
def State.proposeIn (s : State) (m : SpanMsg) : State :=
  let i := leNat (m.body.take 2)
  let v := leNat (slice m.body 4 8)
  if s.span.state = .active ∧ m.body.length = 20 ∧ i < 512 ∧ s.ctrNat (spanCtr i) = v then
    let x := s.takeVote i (BitVec.ofNat 64 v)
    if x.1 then x.2.spanSend m.src.toNat 0x32 (leBytes 2 i ++ [0, 0] ++ leBytes 8 v) else s
  else s
def execPropose (l : Lane) (seq : BitVec 12) (m : SpanMsg) (s : State) : Host.Outcome State Fault Refusal :=
  s.spanRow l seq 0x31 m fun t => t.proposeIn m

/-- VOTE: once Q are held, COMMIT (R529 step 4). -/
def State.voteIn (s : State) (m : SpanMsg) : State :=
  let who := m.src.toNat
  match s.span.proposal with
  | none => s
  | some p =>
    if m.body.length = 12 ∧ leNat (m.body.take 2) = p.counter ∧ leNat (slice m.body 4 8) = p.old.toNat ∧ ¬ p.committed ∧
        s.spanActive.contains who ∧ ¬ p.votes.contains who then
      let q := { p with votes := p.votes ++ [who] }
      let s1 := { s with span := { s.span with proposal := some q } }
      if s.spanQ ≤ q.votes.length then (s1.proposalCommit q).incGo else s1
    else s
def execVote (l : Lane) (seq : BitVec 12) (m : SpanMsg) (s : State) : Host.Outcome State Fault Refusal :=
  s.spanRow l seq 0x32 m fun t => t.voteIn m

/-- COMMIT: a certificate that names at least Q ACTIVE members of this EPOCH; the record is programmed and DONE sent (R529 step 5,
R530). [DESIGN CHOICE, log 154] -/
def State.commitIn (s : State) (m : SpanMsg) : State :=
  let e := leNat (m.body.take 4)
  let i := leNat (slice m.body 4 2)
  let v := leNat (slice m.body 8 8)
  let named := (ofBitmap (leNat (slice m.body 16 8))).filter s.spanActive.contains
  if s.span.state = .active ∧ m.body.length = 24 ∧ e = s.epochNow.toNat ∧ i < 512 ∧ s.spanQ ≤ named.length then
    (s.spanRaise i v).spanSend m.src.toNat 0x34 (leBytes 2 i ++ [0, 0] ++ leBytes 8 v)
  else s
def execCommit (l : Lane) (seq : BitVec 12) (m : SpanMsg) (s : State) : Host.Outcome State Fault Refusal :=
  s.spanRow l seq 0x33 m fun t => t.commitIn m

/-- DONE: once Q are held, the increment or the epoch completes (R529 step 6). -/
def State.doneIn (s : State) (m : SpanMsg) : State :=
  let who := m.src.toNat
  match s.span.proposal with
  | none => s
  | some p =>
    if m.body.length = 12 ∧ leNat (m.body.take 2) = p.counter ∧ leNat (slice m.body 4 8) = p.new.toNat ∧ p.committed ∧
        s.spanActive.contains who ∧ ¬ p.dones.contains who then
      let q := { p with dones := p.dones ++ [who] }
      let s1 := { s with span := { s.span with proposal := some q } }
      if s.spanQ ≤ q.dones.length then (s1.proposalDone q).incGo else s1
    else s
def execDone (l : Lane) (seq : BitVec 12) (m : SpanMsg) (s : State) : Host.Outcome State Fault Refusal :=
  s.spanRow l seq 0x34 m fun t => t.doneIn m

/-- INC_RSP: the requester's CTR.ST reads OK (R529 step 6). -/
def State.incRspIn (s : State) (m : SpanMsg) : State :=
  match s.span.waiting.find? fun w => w.1 == wordAt m.body 0 with
  | none => s
  | some w =>
    if m.body.length = 16 then
      ({ s with span := { s.span with waiting := s.span.waiting.filter (· ≠ w) } } : State).ctrFinish (ctxOf w.2) 0
        (some (leNat (slice m.body 8 8)))
    else s
def execIncRsp (l : Lane) (seq : BitVec 12) (m : SpanMsg) (s : State) : Host.Outcome State Fault Refusal :=
  s.spanRow l seq 0x35 m fun t => t.incRspIn m

/-- An INC of a span counter by a context: NO_QUORUM at once unless this member is ACTIVE among at least Q, else it goes to the leader
(R529 step 1, R531, R536). [DESIGN CHOICE, log 154] -/
def State.spanInc (s : State) (c : Ctx) (i b : Nat) : State :=
  if ¬ s.spanQuorum then s.ctrFinish c 6 none
  else
    let req := s.span.reqNo
    let op : CtrOp := { counter := spanCtr i, inc := some b, span := true }
    let s1 := s.modRegs c fun r => { r with ctr := { r.ctr with op := some op, st := 1 } }
    let s2 := { s1 with span := { s1.span with reqNo := req + 1, waiting := s1.span.waiting ++ [(req, ctxNum c)] } }
    if s2.leads then
      ({ s2 with span := { s2.span with incQueue := s2.span.incQueue ++ [(s2.ownId, req, i, b)] } } : State).incGo
    else match s2.spanLeader with
      | some m => s2.spanSend m 0x30 (leBytes 2 i ++ leBytes 2 b ++ leBytes 4 req.toNat)
      | none => s2

/-- SPAN_INC_TIMEOUT: step 6 not reached within 5 ms (R531); a leader gives up the context's own proposal. [DEDUCED, log 155] -/
def execSpanIncTimeout (c : Ctx) (s : State) : Host.Outcome State Fault Refusal :=
  .next (match s.span.waiting.find? fun w => w.2 == ctxNum c with
    | none => s
    | some w =>
      let mine (p : Proposal) : Bool := p.requester == s.ownId && p.request == w.1 && !p.epoch
      let s1 := { s with span := { s.span with
        waiting := s.span.waiting.filter (· ≠ w)
        proposal := s.span.proposal.filter (!mine ·)
        incQueue := s.span.incQueue.filter fun q => !(q.1 == s.ownId && q.2.1 == w.1) } }
      (s1.ctrFinish c 6 none).incGo)

/-! ## Span keys (R534, R535) -/

/-- A slot of the span key set replaced, its old key gone as R289 says (R534). -/
def State.installKey (s : State) (slot : Nat) (k : VSlot) : State :=
  let s1 := match s.vault.slots.find? fun e => e.1 == slot with
    | some (_, old) => s.dropKey slot old.owner.toNat
    | none => s
  { s1 with vault := { s1.vault with slots := tset s1.vault.slots slot k } }

/-- KEYS: one slot from another member (R534, R537 step 6). [DEDUCED, log 158] -/
def State.keysIn (s : State) (m : SpanMsg) : State :=
  let b := m.body
  let slot := leNat (b.take 2)
  let typ := bv (b.getD 4 0) 0 7
  if ¬ (s.span.state = .active ∨ s.span.state = .syncing) ∨ b.length ≠ 64 ∨ ¬ s.keyset.contains slot then s
  else match kwUnwrap (s.pairKey m.src.toNat) (b.drop 8), materialLen typ.toNat with
    | some key, some n => s.installKey slot
        { owner := BitVec.ofNat 11 (leNat (slice b 2 2)), typ := typ, volatile := bit (b.getD 4 0) 7, policy := b.getD 5 0,
          incarn := BitVec.ofNat 16 (leNat (slice b 6 2)), key := key.take n }
    | _, _ => s
def execKeys (l : Lane) (seq : BitVec 12) (m : SpanMsg) (s : State) : Host.Outcome State Fault Refusal :=
  s.spanRow l seq 0x40 m fun t => t.keysIn m

/-- KEY_DEL: R289 applies here (R535). -/
def State.keyDelIn (s : State) (m : SpanMsg) : State :=
  let slot := leNat (m.body.take 2)
  match s.vault.slots.find? fun e => e.1 == slot with
  | some (_, k) =>
    if (s.span.state = .active ∨ s.span.state = .syncing) ∧ s.keyset.contains slot then s.dropKey slot k.owner.toNat else s
  | none => s
def execKeyDel (l : Lane) (seq : BitVec 12) (m : SpanMsg) (s : State) : Host.Outcome State Fault Refusal :=
  s.spanRow l seq 0x41 m fun t => t.keyDelIn m

/-- SPAN_RESULT. -/
def State.spanResult (s : State) (r : BitVec 4) : State := { s with span := { s.span with result := r } }

/-- PUSH: the source's key, its own or a cask's, copied to the listed slot here and sent to every other ACTIVE member (R534).
[DEDUCED, log 158] -/
def State.spanPush (s : State) : State :=
  let h := s.span.arg0
  let slot := s.span.arg1.toNat
  match s.vault.slots.find? fun e => e.1 == fld h 0 13 && e.2.incarn == bv h 16 16 with
  | none => s.spanResult 1
  | some (_, k) =>
    if ¬ s.keyset.contains slot then s.spanResult 2
    else if ¬ s.spanQuorum then s.spanResult 3
    else if s.span.push.isSome then s.spanResult 4
    else
      let d := s.drbg 2
      let inc := leNat d.1 % 65535 + 1
      let s1 := d.2.installKey slot { k with incarn := BitVec.ofNat 16 inc }
      let s2 := (s1.spanActive.filter (· ≠ s1.ownId)).foldl (fun t m => t.sendKey m slot) s1
      { s2 with span := { s2.span with push := some slot } }
/-- A write of SPAN_CMD (R539). [DEDUCED, log 175] -/
def State.spanCommand (s : State) (cmd : BitVec 4) : State :=
  let s1 := { s with span := { s.span with cmd := cmd } }
  if cmd = 1 then s1.spanPush else s1
def execSpanCmdPush (s : State) : Host.Outcome State Fault Refusal :=
  .next (if s.ksWriter then s.spanCommand 1 else s)

/-- SPAN_PUSH_DONE: every ACTIVE member has installed the key (R534). -/
def execSpanPushDone (s : State) : Host.Outcome State Fault Refusal :=
  .next (if s.span.push.isSome then ({ s with span := { s.span with push := none } } : State).spanResult 0 else s)

end Sys2Proof.Machine
end

