-- ==== Sys2Proof/Machine/Training.lean ====
section
/-! DEFINITION. Training: received training sets, the partner checks, and entry to UP (R415, R417, R427-R431). -/

namespace Sys2Proof.Machine

open Sys2Proof

/-! ## CRC-16 (R415) -/

/-- One bit of the CRC: polynomial 0x1021, no reflection. -/
def crc16Bit (c : BitVec 16) : BitVec 16 := if c.msb then (c <<< 1) ^^^ 0x1021 else c <<< 1
/-- One byte of the CRC, its most significant bit first. -/
def crc16Byte (c : BitVec 16) (b : Byte) : BitVec 16 :=
  (List.range 8).foldl (fun x _ => crc16Bit x) (c ^^^ (b.zeroExtend 16 <<< 8))
/-- CRC-16 with initial value 0xFFFF and no final complement. -/
def crc16 (bs : Bytes) : BitVec 16 := bs.foldl crc16Byte 0xFFFF

/-! ## The training set (R427) -/

/-- The 16 bytes of a set, byte 0 first. -/
def tsBytes (set : BitVec 128) : Bytes := leBytes 16 set.toNat
/-- A valid TS1 or TS2: a known TSID and the right CRC. [DESIGN CHOICE, log 44] -/
def tsValid (set : BitVec 128) : Bool :=
  (fld set 0 8 == 1 || fld set 0 8 == 2) && (crc16 ((tsBytes set).take 14)).toNat == fld set 112 16
def tsSecond (set : BitVec 128) : Bool := fld set 0 8 == 2
def tsGen (set : BitVec 128) : Nat := fld set 8 8
def tsVcs (set : BitVec 128) : Nat := fld set 16 8
def tsRole (set : BitVec 128) : Nat := fld set 24 8

/-- The partner role that pairs with a lane's role (R428). -/
def pairedRole (role : Nat) : Nat :=
  match role with
  | 1 => 9
  | 2 => 8
  | _ => 3

/-- The agreed count V: the largest count of R406 that neither end exceeds (R428). -/
def agreedVcs (gen mine theirs : Nat) : Option Nat :=
  [8, 7, 6, 5, 4, 3, 2, 1].find? fun v => vcsAllowed gen v && decide (v ≤ mine) && decide (v ≤ theirs)

/-- The first check of R428 that the partner's set fails, as a CAUSE. -/
def tsCheck (x : LaneSt) (set : BitVec 128) : Option (BitVec 4) :=
  if tsGen set ≠ x.gen.toNat then some 1
  else if tsRole set ≠ pairedRole x.role.toNat then some 2
  else if (agreedVcs x.gen.toNat x.vcs.toNat (tsVcs set)).isNone then some 3
  else none

/-! ## Entry to UP -/

/-- A virtual channel on entry to UP: SEQ 0 both ways (R417). -/
def vcEnterUp (c : VcState) : VcState := { c with txSeq := 0, exp := 0, nakOut := false, sinceAck := 0 }

/-- The lane enters UP: V agreed, the partner latched, UP event and keystone line 8, queued packets sent; a chain is searched, a span
lane says hello (R428, R431, R432, R460, R516). -/
def State.laneUp (s : State) (l : Nat) (set : BitVec 128) : State :=
  let x := s.laneAt l
  let s1 := s.setLane l { x with
    state := .up, v := (agreedVcs x.gen.toNat x.vcs.toNat (tsVcs set)).getD 0, attempt := 0, evtUp := true,
    tsCount := 0, ts2 := false, ts2Count := 0, locked := false,
    partner := bv set 32 64, partnerRole := bv set 24 8, partnerLane := bv set 96 8, partnerVcs := bv set 16 4,
    vc := x.vc.map fun (e : Nat × VcState) => (e.1, vcEnterUp e.2) }
  let s2 := (List.range 8).foldl (fun t v => t.pump l v) (s1.ksLine lineLink)
  (s2.chainUp l).spanUp l

/-- A check of R428 fails: CAUSE and FAILED, then WAIT, or the next attempt of a retrain (R428, R429, R431). -/
def State.trainFailed (s : State) (l : Nat) (cause : BitVec 4) : State :=
  let s1 := (s.modLane l fun x => { x with cause := cause, evtFail := true }).ksLine lineLink
  if (s1.laneAt l).state = .retrain then s1.retrainFailed l else s1.laneTo l .wait

/-- A valid set in TRAIN, or in RETRAIN once lock is regained: 8 in a row and the checks, then 8 TS2 in a row (R428).
[DESIGN CHOICE, log 44] -/
def State.trainStep (s : State) (l : Nat) (set : BitVec 128) : State :=
  let x := s.laneAt l
  if x.ts2 then
    if ¬ tsSecond set then s.setLane l { x with ts2Count := 0 }
    else if x.ts2Count + 1 < 8 then s.setLane l { x with ts2Count := x.ts2Count + 1 }
    else match tsCheck x set with
      | some c => s.trainFailed l c
      | none => s.laneUp l set
  else if x.tsCount + 1 < 8 then s.setLane l { x with tsCount := x.tsCount + 1 }
  else match tsCheck x set with
    | some c => s.trainFailed l c
    | none => s.setLane l { x with tsCount := 0, ts2 := true, ts2Count := 0 }

/-- A set that is not valid breaks the run of consecutive sets. [DESIGN CHOICE, log 44] -/
def State.trainBreak (s : State) (l : Nat) : State := s.modLane l fun x => { x with tsCount := 0, ts2Count := 0 }

/-- TRAINING_SET: a received set advances training, or starts a retrain of an UP lane, without RETRAIN packets (R426, R428, R429). -/
def execTrainingSet (l : Lane) (set : BitVec 128) (s : State) : Host.Outcome State Fault Refusal :=
  .next (let x := s.laneAt l.val
    match x.state with
    | .train => if tsValid set then s.trainStep l.val set else s.trainBreak l.val
    | .retrain => if ¬ x.locked then s else if tsValid set then s.trainStep l.val set else s.trainBreak l.val
    | .up => if tsValid set then s.laneTo l.val .retrain else s
    | _ => s)

end Sys2Proof.Machine
end

