-- ==== Sys2Proof/Machine/Wall.lean ====
section
/-! DEFINITION. What makes a frame boundary: FRAME_CFG and FRAME_PERIOD, TIME, FRAME_IN, the span's schedule; the end of a wind-down
(R110, R478-R481, R499, R525-R527, R537). -/

namespace Sys2Proof.Machine

open Sys2Proof

/-! ## The next boundary (R479, R525, R526) -/

/-- The period in force: the span's in a span (R478, R525). -/
def State.framePeriod (s : State) : Nat := if s.span.en then s.spanPeriod else s.frame.period.toNat

/-- The boundary that the schedule gives the next frame. -/
def State.scheduled (s : State) : Option Time :=
  (s.span.schedule.find? fun e => e.1 == s.frame.frameNo + 1).map (·.2)

/-- The boundaries follow the span's schedule: the member is frame-locked or leads (R526, R527). -/
def State.onSchedule (s : State) : Bool := s.span.en && (s.span.locked || s.leads)

/-- The previous boundary + PERIOD. -/
def State.lastPlus (s : State) : Nat := s.frame.last.toNat + s.framePeriod

/-- TIME of the next boundary (R479, R526, R527). [DEDUCED, log 151] -/
def State.nextBoundary (s : State) : Nat :=
  if s.onSchedule then ((s.scheduled.map (·.toNat)).getD s.lastPlus) else s.lastPlus

/-- Two times no further apart than 0.5 % of a period. -/
def near (a b period : Nat) : Bool := decide ((a - b) * 200 ≤ period) && decide ((b - a) * 200 ≤ period)

/-! ## The span at a boundary (R525, R537) -/

/-- SCHEDULE for the frame after the next, which the leader keeps too (R525). -/
def State.sendSchedule (s : State) (t : Nat) : State :=
  let no := s.frame.frameNo.toNat + 2
  let keep := s.span.schedule.filter fun e => decide (s.frame.frameNo.toNat < e.1.toNat) && e.1.toNat != no
  ({ s with span := { s.span with schedDue := false, schedule := keep ++ [(BitVec.ofNat 64 no, BitVec.ofNat 64 t)] } } : State).spanCast
    0x11 (leBytes 8 no ++ leBytes 8 t ++ leBytes 4 s.spanPeriod)

/-- The leader sets FLYWHEEL, and the frame after the next comes a period after the next (R525). [DEDUCED, log 159] -/
def State.flySchedule (s : State) : State :=
  (({ s with frame := { s.frame with flywheel := true } } : State).ksLine lineFrame).sendSchedule (s.nextBoundary + s.spanPeriod)

/-- The leader's SCHEDULE at a boundary: at once with SRC = 0, or on the edge of FRAME_IN with SRC = 1 (R525). [DEDUCED, log 159] -/
def State.leaderSchedule (s : State) : State :=
  if ¬ s.frame.src then s.sendSchedule (s.nextBoundary + s.spanPeriod)
  else match s.frame.edge with
    | some e =>
      let s1 := { s with frame := { s.frame with edge := none } }
      if near e.toNat s.frame.last.toNat s.spanPeriod then
        ({ s1 with frame := { s1.frame with flywheel := false } } : State).sendSchedule (e.toNat + 2 * s.spanPeriod)
      else { s1 with span := { s1.span with schedDue := true } }
    | none => { s with span := { s.span with schedDue := true } }

/-- A member in SYNCING that leads, or is locked with schedule and records, is ACTIVE (R537 step 7). [DEDUCED, log 152, 175] -/
def State.syncDone (s : State) : State :=
  if s.span.state = .syncing ∧ (s.leads = true ∨ (s.span.locked = true ∧ s.span.gotSchedule = true ∧ 5 ≤ s.span.gotReports)) then
    (s.spanTo .active).formEpoch
  else s

/-- Members that the leader has served count as ACTIVE from this boundary, and a new epoch forms (R532, R537 step 7).
[DEDUCED, log 153] -/
def State.admitServed (s : State) : State :=
  let up (p : Peer) : Bool := p.served && p.state == .linked
  if s.span.state = .active ∧ s.leads = true ∧ s.span.peers.any (fun e => up e.2) then
    (({ s with span := { s.span with
      peers := s.span.peers.map fun (e : Nat × Peer) =>
        (e.1, if up e.2 then { e.2 with state := PeerState.active, served := false } else e.2) } } : State).spanEvent evtPeer).formEpoch
  else s

/-- What a boundary is to a span member (R525, R537). [DEDUCED, log 152] -/
def State.spanBoundary (s : State) : State :=
  if ¬ s.span.en then s
  else
    let s1 := s.syncDone.admitServed
    if s1.leads ∧ s1.span.state = .active then
      ({ s1 with span := { s1.span with locked := true } } : State).leaderSchedule
    else s1

/-- The next boundary, at TIME `t`. A frame-locked member without a SCHEDULE for it counts the miss (R526); a period of 0 stops the
frame path (R478). [DEDUCED, log 143] -/
def State.takeBoundary (s : State) (t : Nat) : State :=
  let s1 := if s.span.en ∧ s.span.locked ∧ ¬ s.leads ∧ s.scheduled.isNone then
      { s with span := { s.span with schedMiss := satAdd1 s.span.schedMiss } } else s
  let s2 := if s1.span.schedDue then s1.flySchedule else s1
  let s3 := (s2.boundary (BitVec.ofNat 64 t)).spanBoundary
  if s3.framePeriod = 0 then { s3 with frame := { s3.frame with running := false } } else s3

/-! ## FRAME_CFG and FRAME_PERIOD (R478, R479) -/

/-- The frame path starts once RUN is 1 and there is a period; with SRC = 0, and in a span, the first boundary is now (R479, R527).
[DEDUCED, log 144] -/
def State.frameStart (s : State) : State :=
  if ¬ s.frame.run ∨ s.frame.running ∨ s.framePeriod = 0 then s
  else
    let s1 := { s with frame := { s.frame with running := true, first := true, edge := none, deadline := false } }
    if s1.frame.src ∧ ¬ s1.span.en then s1 else s1.takeBoundary s1.clk.time.toNat

/-- A write of FRAME_CFG. [DEDUCED, log 144] -/
def State.frameCfg (s : State) (w : Word) : State :=
  let s1 := { s with frame := { s.frame with run := bit w 0, src := bit w 1, outEn := bit w 2 } }
  let s2 := if s1.frame.run then s1 else
    { s1 with frame := { s1.frame with running := false, periodNext := none,
                                       period := s1.frame.periodNext.getD s1.frame.period } }
  let s3 := if s2.frame.run ∧ s2.frame.outEn then s2 else s2.frameOut false
  s3.frameStart

def execFrameCfgWrite (value : Word) (s : State) : Host.Outcome State Fault Refusal :=
  .next (if s.ksWriter then s.frameCfg value else s)

/-- A write of FRAME_PERIOD: 0, or 416,666 to 4,166,667; it applies from the next boundary while the path runs (R478).
[DEDUCED, log 144] -/
def State.framePeriodSet (s : State) (w : Word) : State :=
  let v := fld w 0 23
  if v ≠ 0 ∧ (v < 416666 ∨ 4166667 < v) then s.frameErr 4
  else if s.frame.running then { s with frame := { s.frame with periodNext := some (bv w 0 23) } }
  else ({ s with frame := { s.frame with period := bv w 0 23 } } : State).frameStart

def execFramePeriodWrite (value : Word) (s : State) : Host.Outcome State Fault Refusal :=
  .next (if s.ksWriter then s.framePeriodSet value else s)

/-! ## Boundaries (R479, R525-R527) -/

/-- FRAME_BOUNDARY: TIME has reached the next boundary. With SRC = 1 outside a span an edge makes it; a span member whose frame path
does not run still passes the span's boundary (R537). [DEDUCED, log 143] -/
def execFrameBoundary (now : Time) (s : State) : Host.Outcome State Fault Refusal :=
  .next (let s1 := s.atTime now
    if ¬ s1.alive then s1
    else if ¬ s1.frame.running then
      (if s1.frame.run then s1.frameStart else s1.spanBoundary)
    else if (¬ s1.frame.src ∨ s1.span.en) ∧ s1.nextBoundary ≤ s1.clk.time.toNat then s1.takeBoundary s1.nextBoundary
    else s1)

/-- An edge of FRAME_IN that is not accepted (R479). -/
def State.edgeRejected (s : State) : State := { s with frame := { s.frame with inRej := satAdd1 s.frame.inRej } }

/-- An edge at the leader of a span with SRC = 1: near the last boundary it is the edge that SCHEDULE waits for, near the next one it is
kept for that boundary (R525). [DEDUCED, log 151, 159] -/
def State.spanEdge (s : State) (wide : Bool) : State :=
  let t := s.clk.time.toNat
  if wide ∧ s.span.schedDue ∧ near t s.frame.last.toNat s.spanPeriod then
    ({ s with frame := { s.frame with flywheel := false } } : State).sendSchedule (t + 2 * s.spanPeriod)
  else if wide ∧ near t s.nextBoundary s.spanPeriod then { s with frame := { s.frame with edge := some s.clk.time } }
  else s.edgeRejected

/-- FRAME_IN_EDGE (R479); in a span only the leader samples FRAME_IN (R480, R525). -/
def execFrameInEdge (now : Time) (wide : Bool) (s : State) : Host.Outcome State Fault Refusal :=
  .next (let s1 := s.atTime now
    if ¬ s1.alive ∨ ¬ s1.frame.running ∨ ¬ s1.frame.src then s1
    else if s1.span.en then (if s1.leads then s1.spanEdge wide else s1)
    else if wide ∧ (s1.frame.first ∨ near s1.clk.time.toNat s1.lastPlus s1.framePeriod) then
      let s2 := { s1 with frame := { s1.frame with first := false, flywheel := false } }
      s2.takeBoundary s1.clk.time.toNat
    else s1.edgeRejected)

/-- FRAME_IN_TIMEOUT: no edge by FRAME_PERIOD + 0.5 %: Nelvo makes the boundary itself, or the leader the schedule (R479, R525). -/
def execFrameInTimeout (now : Time) (s : State) : Host.Outcome State Fault Refusal :=
  .next (let s1 := s.atTime now
    let t := s1.clk.time.toNat
    if ¬ s1.alive ∨ ¬ s1.frame.running ∨ ¬ s1.frame.src then s1
    else if s1.span.en then
      (if s1.leads ∧ s1.span.schedDue ∧ s1.frame.last.toNat + s1.spanPeriod / 200 ≤ t then s1.flySchedule else s1)
    else if ¬ s1.frame.first ∧ s1.lastPlus + s1.framePeriod / 200 ≤ t then
      (({ s1 with frame := { s1.frame with flywheel := true } } : State).ksLine lineFrame).takeBoundary
        (s1.lastPlus + s1.framePeriod / 200)
    else s1)

/-! ## The end of a wind-down (R110, R499) -/

/-- WIND_DOWN_END: pending plays are committed, DARK is sent, and what waits for the wind-down proceeds (R110 steps 5 and 6). -/
def execWindDownEnd (s : State) : Host.Outcome State Fault Refusal :=
  .next (match s.tamp.wind with
    | none => s
    | some w => s.commitAllNow.sendDark.windEnd w)

end Sys2Proof.Machine
end

