-- ==== Sys2Proof/Machine/RegsWall.lean ====
section
/-! DEFINITION. Control blocks LINK, TILE, FRAME, SPAN and HOST: for each the registers it holds, what a read gives, what a write
does, and which of them keystone code alone reaches (R442, R476, R509, R539, R564). -/

namespace Sys2Proof.Machine

open Sys2Proof

/-! ## LINK (R442) -/

def lstateCode : LState → Nat
  | .down => 0
  | .cal => 1
  | .wait => 2
  | .train => 3
  | .up => 4
  | .retrain => 5

/-- The lane and the offset in it of an offset of the block, below LINK_SUMMARY. -/
def linkLane (off : Nat) : Nat := off / 0x1000
def linkOff (off : Nat) : Nat := off % 0x1000

def linkKs (off : Nat) : Bool :=
  decide (linkLane off < 12) && (linkOff off == 0 || linkOff off == 4 || within (linkOff off) 0x80 0x9C)

/-- LINK_STATUS: VCS while UP, GEN once the lane sends at it. -/
def linkStatus (x : LaneSt) : Word :=
  let gen := if x.state = .down ∨ x.state = .cal then 0 else x.gen.toNat
  w32 (lstateCode x.state + (if x.state = .up then x.v else 0) * 2 ^ 4 + gen * 2 ^ 8 + x.attempt.toNat * 2 ^ 10 +
    x.cause.toNat * 2 ^ 12 + flag x.polinv 16 + flag x.cfgErr 17)

/-- LINK_CREDIT of VC `v`: free credits and partition size (R423). -/
def linkCredit (x : LaneSt) (v : Nat) : Word :=
  let size := vcSize x.v v
  w32 ((size - vcHeld (x.vcAt v)) + size * 2 ^ 16)

def laneRead (x : LaneSt) (o : Nat) : Word :=
  if within o 0x80 0x9C then (if o = 0x80 then 0x7FE else (x.vcAt (regIdx o 0x80)).owner.zeroExtend 32)
  else if within o 0xC0 0xDC then linkCredit x (regIdx o 0xC0)
  else match o with
  | 0x00 => w32 (x.role.toNat + x.gen.toNat * 4 + x.vcs.toNat * 2 ^ 4 + x.ffe.toNat * 2 ^ 8)
  | 0x08 => linkStatus x
  | 0x0C => w32 (flag x.evtUp 0 + flag x.evtLeft 1 + flag x.evtFail 2)
  | 0x10 => x.cntCrc
  | 0x14 => x.cntReplay
  | 0x18 => x.cntDrop
  | 0x1C => x.cntBroken
  | 0x20 => loW x.partner
  | 0x24 => hiW x.partner
  | 0x28 => w32 (x.partnerRole.toNat + x.partnerLane.toNat * 2 ^ 8 + x.partnerVcs.toNat * 2 ^ 16)
  | 0x30 => loW x.stampTx
  | 0x38 => loW x.stampRx
  | 0x40 => w32 (x.stampTxId.toNat + x.stampRxId.toNat * 2 ^ 16)
  | _ => 0

/-- LINK_SUMMARY. -/
def State.linkSummary (s : State) : Word :=
  w32 (((List.range 12).map fun l => flag ((s.laneAt l).state == .up) l + flag (s.laneAt l).evtFail (12 + l)).sum)

def State.linkRead (s : State) (off : Nat) : Word :=
  if off = 0xC000 then s.linkSummary
  else if linkLane off < 12 then laneRead (s.laneAt (linkLane off)) (linkOff off)
  else 0

/-- A write of LINK_CTRL: TRAIN, DOWN, RETRAIN for each bit that is 1, in this order. [DESIGN CHOICE, log 171] -/
def State.linkCtrl (s : State) (l : Lane) (w : Word) : State :=
  let s1 := if bit w 0 then s.linkTrain l.val else s
  let s2 := if bit w 1 then s1.laneDown l.val else s1
  if bit w 2 then s2.linkRetrain l else s2

def State.linkWrite (s : State) (off : Nat) (w : Word) : State :=
  if h : linkLane off < 12 then
    let l : Lane := ⟨linkLane off, h⟩
    let o := linkOff off
    if within o 0x84 0x9C then
      s.setVc l.val (regIdx o 0x80) { s.vcAt l.val (regIdx o 0x80) with owner := bv w 0 11 }
    else match o with
    | 0x00 => s.linkCfg l.val w
    | 0x04 => s.linkCtrl l w
    | 0x08 => if bit w 17 then s.modLane l.val fun x => { x with cfgErr := false } else s
    | 0x0C => s.modLane l.val fun x =>
        { x with evtUp := x.evtUp && !bit w 0, evtLeft := x.evtLeft && !bit w 1, evtFail := x.evtFail && !bit w 2 }
    | _ => s
  else s

/-! ## TILE (R476) -/

def tileKs (off : Nat) : Bool := within off 0 4 || within off 0x100 0x4FC

def presCode : PresState → Nat
  | .idle => 0
  | .searching => 1
  | .waiting => 2
  | .stuckLow => 3
  | .unstable => 4
  | .off => 5

/-- TILE_CHAIN of a lane. -/
def State.chainWord (s : State) (l : Nat) : Word :=
  let c := s.chainAt l
  let active := ((s.chainTiles l).filter fun k => (s.tileAt k).state == .active).length
  w32 (presCode c.pstate + c.restarts * 2 ^ 3 + active * 2 ^ 7 + flag c.enum.isSome 14 +
    flag (s.freeAddr l).isNone 15)

/-- A word of a maker entry. -/
def makerWord (m : Maker) (o : Nat) : Word :=
  if o = 0 then m.id
  else if o = 4 then w32 (m.alg.toNat + flag m.valid 4 + m.owner.toNat * 2 ^ 16)
  else if within o 8 0x6C then w32 (leNat ((List.range 4).map fun i => tget m.key (o - 8 + i) 0))
  else 0

/-- A word of TILE_INFO. -/
def infoWord (t : Tile) (i : Nat) : Word :=
  match i with
  | 0 => loW t.id
  | 1 => hiW t.id
  | 2 => w32 (tstateCode t.state + t.fail.toNat * 2 ^ 3 + (t.maker.getD 0).toNat * 2 ^ 7)
  | _ => t.model

def State.tileRead (s : State) (off : Nat) : Word :=
  if within off 0x40 0x6C then s.chainWord (regIdx off 0x40)
  else if within off 0x100 0x4FC then makerWord (s.makerAt ((off - 0x100) / 0x80)) (off % 0x80)
  else if within off 0x1000 0x3FFC then infoWord (s.tileAt ((off - 0x1000) / 16)) (off / 4 % 4)
  else match off with
  | 0x00 => s.tile.auto.zeroExtend 32
  | 0x04 => s.tile.cmd.zeroExtend 32
  | 0x08 => s.tile.result.zeroExtend 32
  | 0x0C => w32 (s.tile.change.toNat + s.tile.alert.toNat * 2 ^ 12)
  | _ => 0

def State.tileWrite (s : State) (off : Nat) (w : Word) : State :=
  if within off 0x100 0x4FC then s.makerWrite ((off - 0x100) / 0x80) (off % 0x80) w
  else match off with
  | 0x00 => s.tileCtrl w
  | 0x04 => s.tileCmd w
  | 0x0C => { s with tile := { s.tile with
      change := w1c s.tile.change (bv w 0 12), alert := w1c s.tile.alert (bv w 12 12) } }
  | _ => s

/-! ## FRAME (R509) -/

def frameKs (off : Nat) : Bool :=
  within off 0 4 || (within off 0x1000 0x4FFC && decide (off % 64 < 0x1C))

/-- A word of an extent. -/
def extentWord (e : Extent) : Word :=
  w32 (e.lane.toNat + e.first.toNat * 2 ^ 4 + e.last.toNat * 2 ^ 10 + flag e.used 16)

/-- A word of a region entry; VALID reads as a pending write will leave it (R484). -/
def regionWord (x : Region) (o : Nat) : Word :=
  match o with
  | 0x00 => w32 (x.owner.toNat + flag (validReads x) 12 + x.fallback.toNat * 2 ^ 13)
  | 0x04 => x.slate.zeroExtend 32
  | 0x08 => x.tileBytes.zeroExtend 32
  | 0x0C => extentWord (tget x.extents 0 {})
  | 0x10 => extentWord (tget x.extents 1 {})
  | 0x14 => extentWord (tget x.extents 2 {})
  | 0x18 => extentWord (tget x.extents 3 {})
  | 0x20 => regionView x
  | 0x24 => x.plays
  | 0x28 => x.held
  | 0x2C => x.tagFail
  | _ => 0

/-- Boundaries occur (R478). -/
def State.frameRuns (s : State) : Bool := s.frame.running && s.framePeriod != 0

/-- TIME of the next boundary, 0 while none occur. -/
def State.frameNext (s : State) : Dword := if s.frameRuns then BitVec.ofNat 64 s.nextBoundary else 0

def State.frameBlkRead (s : State) (off : Nat) : Word :=
  if within off 0x1000 0x4FFC then regionWord (s.region ((off - 0x1000) / 64)) (off % 64)
  else match off with
  | 0x00 => w32 (flag s.frame.run 0 + flag s.frame.src 1 + flag s.frame.outEn 2)
  | 0x04 => (s.frame.periodNext.getD s.frame.period).zeroExtend 32
  | 0x08 => w32 (flag s.frameRuns 0 + flag s.frame.flywheel 1 + flag s.frame.cfgErr 2 + flag s.frame.ssbOvf 3 +
      s.frame.errCode.toNat * 2 ^ 4 + s.ssbFree.length * 2 ^ 8)
  | 0x10 => loW s.frame.frameNo
  | 0x18 => loW s.frameNext
  | 0x1C => hiW s.frameNext
  | 0x20 => s.frame.inRej
  | _ => 0

def State.frameBlkWrite (s : State) (off : Nat) (w : Word) : State :=
  if within off 0x1000 0x4FFC then s.regionWrite ((off - 0x1000) / 64) (off % 64) w
  else match off with
  | 0x00 => s.frameCfg w
  | 0x04 => s.framePeriodSet w
  | 0x08 => { s with frame := { s.frame with
      cfgErr := s.frame.cfgErr && !bit w 2, ssbOvf := s.frame.ssbOvf && !bit w 3 } }
  | _ => s

/-! ## SPAN (R539) -/

def spanKs (off : Nat) : Bool := off == 0 || within off 0x10 0x1C || within off 0x1000 0x241C

def mstateCode : MState → Nat
  | .off => 0
  | .seeking => 1
  | .syncing => 2
  | .active => 3
  | .observer => 4
  | .excluded => 5

def peerCode : PeerState → Nat
  | .absent => 0
  | .linked => 1
  | .active => 2
  | .lost => 3
  | .observer => 4
  | .excluded => 5
  | .authFail => 6

/-- SPAN_STATUS: LEADER says that this member leads, LEADER_ID who does; protocol level 1 is in use while the unit is on. -/
def State.spanStatus (s : State) : Word :=
  let x := s.span
  w32 (mstateCode x.state + flag x.locked 3 + flag s.leads 4 + flag s.spanQuorum 5 + flag x.holdover 6 + flag x.diverged 7 +
    x.member.toNat * 2 ^ 8 + (s.spanLeader.getD 0 % 64) * 2 ^ 14 + (if x.state = .off then 0 else 1) * 2 ^ 20)

def peerWord (p : Peer) : Word :=
  w32 (peerCode p.state + p.hops.toNat * 2 ^ 4 + p.lane.toNat * 2 ^ 10 + p.level.toNat * 2 ^ 14)

def State.spanRead (s : State) (off : Nat) : Word :=
  if within off 0x40 0x6C then wordAt s.span.hash (off - 0x40)
  else if within off 0x100 0x1FC then peerWord (s.peer (regIdx off 0x100))
  else if within off 0x1000 0x241C then w32 (leNat (s.spanCfg (off - 0x1000) 4))
  else match off with
  | 0x00 => w32 (flag s.span.en 0)
  | 0x04 => s.spanStatus
  | 0x08 => s.epochNow
  | 0x0C => s.span.offset
  | 0x10 => s.span.root
  | 0x14 => s.span.cmd.zeroExtend 32
  | 0x18 => s.span.arg0
  | 0x1C => s.span.arg1
  | 0x20 => s.span.result.zeroExtend 32
  | 0x24 => s.span.evt.zeroExtend 32
  | 0x28 => s.span.steps
  | 0x2C => s.span.schedMiss
  | _ => 0

/-- Four bytes of the configuration record from offset `o`. -/
def State.spanCfgWrite (s : State) (o : Nat) (w : Word) : State :=
  let put (t : Tab Byte) (i : Nat) : Tab Byte := tset t (o + i) ((leBytes 4 w.toNat).getD i 0)
  { s with span := { s.span with config := (List.range 4).foldl put s.span.config } }

/-- A write of the record window or SPAN_ROOT is ignored while EN is 1, and sets SPAN_EVT.CFG (R512). -/
def State.spanWrite (s : State) (off : Nat) (w : Word) : State :=
  if within off 0x1000 0x241C then (if s.span.en then s.spanEvent evtCfg else s.spanCfgWrite (off - 0x1000) w)
  else match off with
  | 0x00 => if bit w 0 then s.spanOn else s.spanOff
  | 0x10 => if s.span.en then s.spanEvent evtCfg else { s with span := { s.span with root := w } }
  | 0x14 => s.spanCommand (bv w 0 4)
  | 0x18 => { s with span := { s.span with arg0 := w } }
  | 0x1C => { s with span := { s.span with arg1 := w } }
  | 0x24 => { s with span := { s.span with evt := w1c s.span.evt (bv w 0 6) } }
  | _ => s

/-! ## HOST (R564) -/

def hostKs (off : Nat) : Bool :=
  off == 0 || off == 0x10 || off == 0x14 || within off 0x40 0x5C || within off 0x1000 0x1FFC

/-- [DESIGN CHOICE, log 54] -/
def State.hostRead (s : State) (off : Nat) : Word :=
  if within off 0x40 0x5C then (tget s.host.grants (regIdx off 0x40) 0).zeroExtend 32
  else if within off 0x1000 0x1FFC then (s.cask (regIdx off 0x1000)).hostCfg.zeroExtend 32
  else if within off 0x3000 0x3080 then bitWord s.host.owed.contains (32 * regIdx off 0x3000)
  else match off with
  | 0x00 => w32 (s.host.ksPath.toNat + flag s.host.attnEn 2 + s.host.portEn.toNat * 2 ^ 3)
  | 0x04 => w32 (flag s.host.up 0 + s.host.rate.toNat * 2 + s.host.width.toNat * 2 ^ 3 + flag s.host.bme 5 +
      flag s.host.msixEn 6 + flag s.host.claim.isSome 7)
  | 0x08 => s.host.evt.zeroExtend 32
  | 0x10 => w32 (s.host.bar0.toNat * 2 ^ 16)
  | 0x14 => s.host.i2cAddr.zeroExtend 32
  | 0x18 => s.host.cntFrameErr
  | 0x1C => s.host.cntI2c
  | 0x20 => s.host.cntLost
  | _ => 0

/-- A write of HOST_CFG; a port whose enable is 0 stops answering, and a partial frame on it is gone (R74, R564).
[DEDUCED, log 167] -/
def State.hostCfgWrite (s : State) (w : Word) : State :=
  let en : BitVec 3 := bv w 3 3
  let s1 := { s with host := { s.host with ksPath := bv w 0 2, attnEn := bit w 2, portEn := en } }
  let s2 := if bit en 0 then s1 else s1.pcieDown
  let s3 := if bit en 1 then s2 else { s2 with host := { s2.host with spi := {} } }
  if bit en 2 then s3 else { s3 with host := { s3.host with i2c := {} } }

/-- Bits of HOST_CASKCFG. -/
def caskCfgMask : BitVec 14 := 0x3F3F

def State.hostWrite (s : State) (off : Nat) (w : Word) : State :=
  if within off 0x40 0x5C then { s with host := { s.host with grants := tset s.host.grants (regIdx off 0x40) (bv w 0 22) } }
  else if within off 0x1000 0x1FFC then
    s.modCask (regIdx off 0x1000) fun k => { k with hostCfg := bv w 0 14 &&& caskCfgMask }
  else match off with
  | 0x00 => s.hostCfgWrite w
  | 0x08 => { s with host := { s.host with evt := w1c s.host.evt (bv w 0 6) } }
  | 0x10 => { s with host := { s.host with bar0 := bv w 16 16 } }
  | 0x14 => { s with host := { s.host with i2cAddr := bv w 0 7 } }
  | _ => s

end Sys2Proof.Machine
end

