-- ==== Sys2Proof/Machine/Registers.lean ====
section
/-! DEFINITION. The control space: which block and register an address names, who may reach it, the HI latches, access violations,
and the row of a register write (R4-R8, R244, R589-R593). -/

namespace Sys2Proof.Machine

open Sys2Proof

/-! ## Addresses (R589-R591) -/

def ctrlBase : Nat := 0x40000000
def ctrlEnd : Nat := 0x40160000
/-- An address of the control space. -/
def inCtrl (a : Nat) : Bool := decide (ctrlBase ≤ a) && decide (a < ctrlEnd)
/-- Number of the block an address lies in, and the offset in it. -/
def ctrlBlk (a : Nat) : Nat := (a - ctrlBase) / 0x10000
def ctrlOff (a : Nat) : Nat := a % 0x10000

/-- A register of keystone code and of a debugger at FULL (R4, R8). [DEDUCED, log 170] -/
def regKs (a : Nat) : Bool :=
  let o := ctrlOff a
  match ctrlBlk a with
  | 0 => sysKs o
  | 1 => clkKs o
  | 2 => pwrKs o
  | 3 => lcsKs o
  | 4 => tampKs o
  | 5 => vaultKs o
  | 6 => nvmKs o
  | 7 => caskKs o
  | 8 => schedKs o
  | 9 => evtKs o
  | 10 => decKs o
  | 12 => latKs o
  | 15 => linkKs o
  | 16 => tileKs o
  | 17 => frameKs o
  | 18 => spanKs o
  | 19 => hostKs o
  | 21 => dbgKs o
  | _ => false

/-! ## HI latches (R593) -/

/-- The set of latches of a requester. -/
def latchOf : Requester → Nat
  | .keystone => 0
  | .debugger => 1
  | .host => 2

def State.latches' (s : State) (who : Requester) : Latches := tget s.latches (latchOf who) {}
def State.setLatches (s : State) (who : Requester) (x : Latches) : State :=
  { s with latches := tset s.latches (latchOf who) x }

/-- A read of a HI half gives what the same requester latched. -/
def State.hiRead (s : State) (who : Requester) (a : Nat) : Option Word :=
  let x := s.latches' who
  let o := ctrlOff a
  match ctrlBlk a with
  | 20 => if o = 4 then some x.time else none
  | 17 => if o = 0x14 then some x.frameNo else none
  | 15 =>
    if 12 ≤ linkLane o then none
    else if linkOff o = 0x34 then some (tget x.stampTx (linkLane o) 0)
    else if linkOff o = 0x3C then some (tget x.stampRx (linkLane o) 0)
    else none
  | _ => none

/-- A read of a LO half latches HI for its requester. -/
def State.loLatch (s : State) (who : Requester) (a : Nat) : State :=
  let x := s.latches' who
  let o := ctrlOff a
  match ctrlBlk a with
  | 20 => if o = 0 then s.setLatches who { x with time := hiW s.clk.time } else s
  | 17 => if o = 0x10 then s.setLatches who { x with frameNo := hiW s.frame.frameNo } else s
  | 15 =>
    if 12 ≤ linkLane o then s
    else if linkOff o = 0x30 then
      s.setLatches who { x with stampTx := tset x.stampTx (linkLane o) (hiW (s.laneAt (linkLane o)).stampTx) }
    else if linkOff o = 0x38 then
      s.setLatches who { x with stampRx := tset x.stampRx (linkLane o) (hiW (s.laneAt (linkLane o)).stampRx) }
    else s
  | _ => s

/-! ## Blocks -/

/-- A register's value, HI halves of latched pairs apart. -/
def State.blkRead (s : State) (a : Nat) : Word :=
  let o := ctrlOff a
  match ctrlBlk a with
  | 0 => s.sysRead o
  | 1 => s.clkRead o
  | 2 => s.pwrRead o
  | 3 => s.lcsRead o
  | 4 => s.tampRead o
  | 5 => s.vaultRead o
  | 6 => s.nvmRead o
  | 7 => s.caskRead o
  | 8 => s.schedRead o
  | 9 => s.evtRead o
  | 10 => s.decRead o
  | 11 => s.pressRead o
  | 12 => s.latRead o
  | 15 => s.linkRead o
  | 16 => s.tileRead o
  | 17 => s.frameBlkRead o
  | 18 => s.spanRead o
  | 19 => s.hostRead o
  | 20 => if o = 0 then loW s.clk.time else 0
  | 21 => s.dbgRead o
  | _ => 0

/-- A word written to a register, by its access code and its effect. -/
def State.blkWrite (s : State) (a : Nat) (w : Word) : State :=
  let o := ctrlOff a
  match ctrlBlk a with
  | 0 => s.sysWrite o w
  | 1 => s.clkWrite o w
  | 2 => s.pwrWrite o w
  | 3 => s.lcsWrite o w
  | 4 => s.tampWrite o w
  | 5 => s.vaultWrite o w
  | 6 => s.nvmWrite o w
  | 7 => s.caskWrite o w
  | 8 => s.schedWrite o w
  | 9 => s.evtWrite o w
  | 10 => s.decWrite o w
  | 11 => s.pressWrite o w
  | 12 => s.latWrite o w
  | 15 => s.linkWrite o w
  | 16 => s.tileWrite o w
  | 17 => s.frameBlkWrite o w
  | 18 => s.spanWrite o w
  | 19 => s.hostWrite o w
  | 21 => s.dbgWrite o w
  | _ => s

/-! ## Access violations (R8, R44, R244, R245) -/

/-- An access violation of a source, 1 PCIe to 4 TAP: recorded, counted, and told to keystone code on line 2. -/
def State.violation (s : State) (source : BitVec 3) (write : Bool) (a : Word) : State :=
  ({ s with caskBlk := { s.caskBlk with
      violSource := source, violWrite := write, violCount := satAdd1 s.caskBlk.violCount, violNew := true,
      violAddr := a } } : State).ksLine lineViolation

/-- A requester reaches KS fields. -/
def State.reachesKs (s : State) : Requester → Bool
  | .keystone => true
  | .debugger => s.dbg.level == .full
  | .host => false

/-- The SOURCE of a requester's violations. [DEDUCED, log 98] -/
def sourceOf : Requester → BitVec 3
  | .host => 1
  | _ => 4

/-- A read of the aligned word at `a` of the control space by `who`. [DEDUCED, log 170] -/
def State.regRead (s : State) (who : Requester) (a : Word) : Word × State :=
  if regKs a.toNat ∧ ¬ s.reachesKs who then (0, s.violation (sourceOf who) false a)
  else ((s.hiRead who a.toNat).getD (s.blkRead a.toNat), s.loLatch who a.toNat)

/-- A write of the aligned word at `a` of the control space by `who`. [DEDUCED, log 170, 172] -/
def State.regWrite (s : State) (who : Requester) (a w : Word) : State :=
  if regKs a.toNat ∧ ¬ s.reachesKs who then s.violation (sourceOf who) true a
  else s.blkWrite a.toNat w

/-! ## The row -/

/-- Debug levels in order (R40). -/
def levelGe (l m : DbgLevel) : Bool := decide (levelCode m ≤ levelCode l)

/-- Whether a requester can make a register access at all now. -/
def State.requesterOn (s : State) : Requester → Bool
  | .keystone => s.ksRunning
  | .debugger => s.alive && s.tapUp && levelGe s.dbg.level .control
  | .host => s.hostServes

/-- REGISTER_WRITE: a write of a control register by keystone code, a debugger or host software (R4-R8, R590, R591).
[DEDUCED, log 64, 172] -/
def execRegisterWrite (who : Requester) (addr value : Word) (s : State) : Host.Outcome State Fault Refusal :=
  .next (if s.requesterOn who ∧ inCtrl addr.toNat ∧ addr.toNat % 4 = 0 then s.regWrite who addr value else s)

end Sys2Proof.Machine
end

