-- ==== Sys2Proof/Machine/Ctxt.lean ====
section
/-! DEFINITION. A context as its moves see it: data accesses, fetches and the prefetch window, taking an exception, waits, and the end
of a move (R142-R161, R170-R173, R175-R187, R211-R226, R251-R255, R586-R588). -/

namespace Sys2Proof.Machine

open Sys2Proof

/-! ## Exception codes (R156) -/

def excIllegalGuard : Nat := 0x01
def excIllegalForm : Nat := 0x02
def excBadPort : Nat := 0x03
def excClassDenied : Nat := 0x04
def excMacroUndefined : Nat := 0x05
def excFetchFault : Nat := 0x06
def excDataAlign : Nat := 0x07
def excDataSeg : Nat := 0x08
def excCodeWrite : Nat := 0x09
def excDelaySlot : Nat := 0x0A
def excMemEcc : Nat := 0x0B
def excTrap : Nat := 0x0C
def excStackFault : Nat := 0x0E
def excHaltDouble : Nat := 0x0F
def excEvent : Nat := 0x20

/-! ## Data accesses (R151, R173, R212, R221-R224, R586) -/

/-- Kinds of data access. -/
inductive Acc where
  | load | store | atomic
  deriving DecidableEq, Repr

/-- An access inside a segment of a cask: R for reads, W for writes; a code segment without W raises CODE_WRITE.
[DEDUCED, log 96] -/
def segAccess (k : Cask) (g : Seg) (a n : Nat) (acc : Acc) : Option Nat :=
  if acc ≠ .store ∧ ¬ g.r then some excDataSeg
  else if acc = .load ∨ g.w then (if acc ≠ .load ∧ a < flashEnd then some excDataSeg else none)
  else if inSeg k.code a n then some excCodeWrite
  else some excDataSeg

/-- A cask's data access: the segment that holds it, or its own page. [DEDUCED, log 96] -/
def caskAccess (k : Cask) (c a n : Nat) (acc : Acc) : Option Nat :=
  match (caskSegs k).find? fun g => inSeg g a n with
  | some g => segAccess k g a n acc
  | none => if inRange a n (pagesBase + 0x1000 * c) 0x1000 then none else some excDataSeg

/-- The life-cycle states in which keystone code reaches the vat and the segment buffer (R212). -/
def State.labState (s : State) : Bool := s.life.state == .testOpen || s.life.state == .analysis

/-- The staging buffer is in use (R212, R559). -/
def State.inStaging (s : State) (a : Nat) : Bool := s.host.staged && decide (sramBase ≤ a) && decide (a < sramBase + 0x110000)

/-- A data access of keystone code (R212, R297). -/
def State.ksAccess (s : State) (a n : Nat) (acc : Acc) : Option Nat :=
  let ok : Bool :=
    if inRange a n sramBase sramSize then !s.inSealed a n && !s.inStaging a
    else if inRange a n flashBase (flashEnd - flashBase) then
      acc == .load && !s.nvm.eraseQueue.contains (sectorOf a)
    else if inRange a n vatBase vatSize || inRange a n ssbBase ssbSize then s.labState
    else inCtrl a || inRange a n pagesBase 0x401000
  if ok then none else some excDataSeg

/-- The exception that a data access of `n` bytes at `a` raises: alignment, then segments (R156). -/
def State.dataFault (s : State) (c : Ctx) (a : Word) (n : Nat) (acc : Acc) : Option Nat :=
  if a.toNat % n ≠ 0 then some excDataAlign
  else match c with
  | .keystone => s.ksAccess a.toNat n acc
  | .cask m => caskAccess (s.cask m.toNat) m.toNat a.toNat n acc

/-! ## Pages and control space behind an access (R283, R547, R588, R591) -/

/-- A read at offset `off` of page `p`. [DEDUCED, log 161] -/
def State.pageRead (s : State) (p off n : Nat) : Nat :=
  if within off 0xEE0 0xEFF then (if n = 4 then (s.ifaceRead p off).toNat else 0)
  else if off < 0xF80 then s.rdLe (pagesBase + 0x1000 * p + off) n
  else 0

/-- A write of the owner into a request block: the words up to STATUS stand in the block, GO submits it. -/
def State.blockWrite (s : State) (c : Ctx) (off : Nat) (bs : Bytes) : State :=
  let o := off % 0x20
  if o < 0x18 then s.wrBytes (pageAddr c off) bs
  else if o < 0x1C then s
  else match off / 0x20 with
  | 0x78 => s.nvmGo c
  | 0x79 => s.vaultGo c
  | 0x7A => s.pkeGo c
  | _ => match c with
    | .cask n => s.tileGo n
    | .keystone => (s.clearDone c blkTile).completeBlock c blkTile none 2 (s.readBlock c blkTile).2.line.toNat

/-- A write at offset `off` of page `p` by `c`: the owner, or keystone code in another page (R212, R547, R588). -/
def State.pageWrite (s : State) (c : Ctx) (p off : Nat) (bs : Bytes) : State :=
  if off < 0xEE0 then s.wrBytes (pagesBase + 0x1000 * p + off) bs
  else if p ≠ ctxNum c then s
  else if off < 0xF00 then (if off = 0xEE4 ∧ bs.length = 4 then s.c2hStore p (w32 (leNat bs)) else s)
  else if off < 0xF80 then s.blockWrite c off bs
  else s

/-- The value that a permitted load of `n` bytes returns. -/
def State.dataRead (s : State) (c : Ctx) (a : Word) (n : Nat) : Nat × State :=
  let i := a.toNat
  if c = .keystone ∧ inCtrl i then
    (if n = 4 then ((s.regRead .keystone a).1.toNat, (s.regRead .keystone a).2) else (0, s))
  else if pagesBase ≤ i then (s.pageRead ((i - pagesBase) / 0x1000) (i % 0x1000) n, s)
  else (s.rdLe i n, s)

/-- A permitted store of the bytes `bs` where `c` may store, by `who`: `c` itself, or the debugger for `none`. -/
def State.dataWriteBy (s : State) (who : Option Ctx) (c : Ctx) (a : Word) (bs : Bytes) : State :=
  let i := a.toNat
  if c = .keystone ∧ inCtrl i then (if bs.length = 4 then s.regWrite .keystone a (w32 (leNat bs)) else s)
  else if pagesBase ≤ i then s.pageWrite c ((i - pagesBase) / 0x1000) (i % 0x1000) bs
  else s.store who i bs
def State.dataWrite (s : State) (c : Ctx) (a : Word) (bs : Bytes) : State := s.dataWriteBy (some c) c a bs

/-! ## Fetch and the prefetch window (R149-R155, R213, R223) -/

/-- A move word may issue from `a`. -/
def State.fetchOk (s : State) (c : Ctx) (a : Word) : Bool :=
  a.toNat % 4 == 0 &&
  (match c with
   | .keystone => s.openSram a.toNat 4
   | .cask n => let g := (s.cask n.toNat).code
     g.x && inSeg g a.toNat 4 && inRange a.toNat 4 sramBase sramSize)

/-- The word in memory at `a`. -/
def State.memWord (s : State) (a : Word) : Word := w32 (s.rdLe a.toNat 4)

/-- Words held, with their addresses. -/
abbrev Held := List (Word × Word)

/-- The valid words of the window; a string operation in progress also keeps those held when its trigger issued.
[DEDUCED, log 82] -/
def windowOf (r : Regs) : Held := if r.str.busy then r.window else r.window.take r.winValid

/-- The word that context `c` fetches at `a`: the one in memory, or an old one that another requester has changed since the last SYNC of
`c` (R153-R155). [DEDUCED, log 81] -/
def State.fetchWord (s : State) (c : Ctx) (a : Word) : Word :=
  let old := ((tget s.stale (ctxNum c) []).filter fun e => e.1 == a.toNat).map (·.2)
  (choose (Config.fetchPick s.draw a.toNat) (s.memWord a :: old)).getD 0

/-- The word at `a`: the copy held, else the one fetched (R152). [DEDUCED, log 82] -/
def State.heldWord (s : State) (c : Ctx) (h : Held) (a : Word) : Word :=
  match h.find? fun e => e.1 == a with
  | some e => e.2
  | none => s.fetchWord c a

/-- The choices of words to fetch in a move are new ones (R155). [DEDUCED, log 81] -/
def State.freshFetch (s : State) (c : Ctx) : State := if tget s.stale (ctxNum c) [] = [] then s else s.drawNat.2

/-- The word that follows the one at `a` in execution order, a repeat's loop-back included (R149, R185). -/
def succWord (r : Rpt) (a : Word) : Word :=
  if r.cnt ≠ 0 ∧ a + 4 = r.fin then (if r.cnt = 1 then r.fin else r.beg) else a + 4

/-- What a context holds while its move of `len` words issues: its own words and the next two (R149).
[DEDUCED, log 82] -/
def State.preHold (s : State) (c : Ctx) (len : Nat) : Held :=
  let r := s.regs c
  let h := windowOf r
  let seqNext := if len = 2 then succWord r.rpt (succWord r.rpt r.pc) else succWord r.rpt r.pc
  let first := r.delay.getD seqNext
  let second := succWord r.rpt first
  h ++ [(first, s.heldWord c h first), (second, s.heldWord c h second)]

/-! ## Exceptions (R157-R161, R187, R214, R218) -/

/-- The frame of an exception (R157). -/
def frameOf (r : Regs) (code port : Nat) (addr : Word) : Frame4 :=
  { pc := r.pc, cause := w32 (code + flag (r.delay.isSome && decide (code < excEvent)) 8 + port * 2 ^ 16), addr := addr,
    rpt := r.rpt.cnt }

/-- The stack holds the 16 bytes from `a` (R158 step 3, R160, R213). -/
def State.stackHolds (s : State) (c : Ctx) (a : Nat) (write : Bool) : Bool :=
  match c with
  | .keystone => s.openSram a 16
  | .cask n => inSeg (s.cask n.toNat).stack a 16 && (!write || (s.cask n.toNat).stack.w)

/-- The frame goes to the fallback frame: the cask is FAULTED and leaves its slot; the keystone halts (R158 steps 2 and 3, R159, R161,
R214, R218). -/
def State.toFallback (s : State) (c : Ctx) (f : Frame4) (fault : Nat) : State :=
  let s1 := s.modRegs c fun r => { r with fallback := f, fbValid := true, fault := byte fault }
  match c with
  | .keystone => { s1 with ks := { s1.ks with dead := true } }
  | .cask n =>
    let s2 := s1.modCask n.toNat fun k => { k with state := .faulted, leaving := k.slot.isSome }
    ({ s2 with caskBlk := { s2.caskBlk with
        faulted := n.toNat :: s2.caskBlk.faulted.filter (· ≠ n.toNat) } } : State).ksLine lineCaskFault

/-- Handler mode is entered: frame on the stack, g30 below it, results set aside, execution at SYS.EVEC (R145, R158 step 4, R187).
[DEDUCED, log 79] -/
def State.enterHandler (s : State) (c : Ctx) (f : Frame4) : State :=
  let sp := getG (s.regs c) 30 - 16
  let bs := leBytes 4 f.pc.toNat ++ leBytes 4 f.cause.toNat ++ leBytes 4 f.addr.toNat ++ leBytes 4 f.rpt.toNat
  (s.store (some c) sp.toNat bs).modRegs c fun r =>
    { setG r 30 sp with
      pc := r.sys.evec, window := [], winValid := 0, delay := none
      sys := { r.sys with handler := true }
      aside := some { p := r.mul.p, mpend := r.mul.pend, r := r.lsu.r, lpend := r.lsu.pend } }

/-- An exception is taken (R158, R159). A string operation yields (R192); the repeat count goes to the frame and is cleared (R187).
[DEDUCED, log 83] -/
def State.takeException (s : State) (c : Ctx) (code port : Nat) (addr : Word) : State :=
  let r := s.regs c
  let f := frameOf r code port addr
  let inDelay : Bool := r.delay.isSome && decide (code < excEvent)
  let s1 := s.modRegs c fun x =>
    { x with
      str := { x.str with busy := false }
      rpt := { x.rpt with cnt := 0 }
      sys := { x.sys with epend := if inDelay then x.delay.getD 0 else x.sys.epend } }
  let sp := getG r 30
  if code = excHaltDouble ∨ (r.sys.handler ∧ code < excEvent) then s1.toFallback c f excHaltDouble
  else if r.sys.evec = 0 then s1.toFallback c f code
  else if sp.toNat % 4 ≠ 0 ∨ ¬ s1.stackHolds c (sp - 16).toNat true then s1.toFallback c f excStackFault
  else s1.enterHandler c f

/-! ## Events and waits (R176-R182, R216, R251-R255) -/

/-- The lowest line that would be delivered now (R251). [DEDUCED, log 78] -/
def State.evtLine (s : State) (c : Ctx) : Option Nat :=
  let r := s.regs c
  if r.sys.handler ∨ r.delay.isSome then none
  else (List.range 32).find? fun i => bit (s.pendOf c &&& r.evt.ien) i

/-- A line is delivered: cleared in EVT.PEND, taken as an EVENT exception. -/
def State.deliver (s : State) (c : Ctx) (line : Nat) : State :=
  (s.setPend c (s.pendOf c &&& ~~~ oneHot line)).takeException c (excEvent + line) 0 0

/-- A 32-bit target is reached (R179). -/
def reached32 (now t : Word) : Bool := decide ((now - t).toNat < 2 ^ 31)

/-- The time part of a timed wait's condition. -/
def State.timeUp (s : State) (w : Wait) : Bool :=
  match w.kind with
  | .time => reached32 (loW s.clk.time) (loW w.target)
  | .time64 => decide (w.target.toNat ≤ s.clk.time.toNat)
  | _ => false

/-- The condition of a wait holds (R175, R176, R180). -/
def State.waitHolds (s : State) (c : Ctx) (w : Wait) : Bool :=
  match w.kind with
  | .wait | .waitc => w.mask == 0 || (s.pendOf c &&& w.mask) != 0
  | .time | .time64 => s.timeUp w || (s.pendOf c &&& (s.regs c).tmr.wmask) != 0
  | _ => false

/-- A wait ends: GOT or WHY as they now are; WAITC clears the lines in GOT (R175, R177, R180). -/
def State.endWait (s : State) (c : Ctx) (w : Wait) : State :=
  let p := s.pendOf c
  let clear (r : Regs) : Regs := { r with wait := {} }
  match w.kind with
  | .wait => s.modRegs c fun r => clear { r with evt := { r.evt with got := p &&& w.mask } }
  | .waitc => (s.setPend c (p &&& ~~~ w.mask)).modRegs c fun r => clear { r with evt := { r.evt with got := p &&& w.mask } }
  | .time | .time64 =>
    let why := flag (s.timeUp w) 0 + flag ((p &&& (s.regs c).tmr.wmask) != 0) 1
    s.modRegs c fun r => clear { r with tmr := { r.tmr with why := BitVec.ofNat 2 why } }
  | _ => s.modRegs c clear

/-- A cask is RUNNING (R216). -/
def State.setRunning (s : State) (c : Ctx) : State :=
  match c with
  | .keystone => s
  | .cask n => s.modCask n.toNat fun k => if k.state = .ready ∨ k.state = .waiting then { k with state := .running } else k

/-- A cask blocks: WAITING, and it leaves its slot when a candidate waits for one (R216, R260). -/
def State.setWaiting (s : State) (c : Ctx) : State :=
  match c with
  | .keystone => s
  | .cask n => (s.modCask n.toNat fun k => { k with state := .waiting }).leaveIfWanted n.toNat

/-- The context waits for `w`. -/
def State.startWait (s : State) (c : Ctx) (w : Wait) : State := (s.modRegs c fun r => { r with wait := w }).setWaiting c

/-- A wait move: it does not block when its condition already holds (R176, R179). -/
def State.waitFor (s : State) (c : Ctx) (w : Wait) : State := if s.waitHolds c w then s.endWait c w else s.startWait c w

/-- A wait that ends by its condition or by an event to deliver (R177). [DEDUCED, log 78] -/
def State.waitOver (s : State) (c : Ctx) : Bool :=
  let w := (s.regs c).wait
  (w.kind != .none && w.kind != .ctr) && (s.waitHolds c w || (s.evtLine c).isSome)

/-! ## The end of a move (R137, R144-R146, R149, R174, R184-R186, R195) -/

/-- Where execution goes after a move: on, to a branch target after the delay slot, or at once to an address. -/
inductive Flow where
  | seq
  | branch (target : Word)
  | jump (target : Word)
  | sync
  deriving DecidableEq, Repr

/-- The move at `pc` of `len` words includes the word at END − 4 of a repeat (R185). -/
def lastOfBody (r : Rpt) (pc : Word) (len : Nat) : Bool :=
  r.cnt != 0 && (r.fin - 4 == pc || (len == 2 && r.fin - 4 == pc + 4))

/-- The repeat unit after a move, and the address the repeat sends execution to, if any. [DEDUCED, log 88] -/
def rptStep (r : Rpt) (pc : Word) (len : Nat) (branches : Bool) : Rpt × Option Word :=
  if branches then
    (if r.beg.toNat ≤ pc.toNat ∧ pc.toNat < r.fin.toNat then { r with cnt := 0 } else r, none)
  else if lastOfBody r pc len then
    ({ r with cnt := r.cnt - 1 }, some (if r.cnt = 1 then r.fin else r.beg))
  else (r, none)

/-- A move of `len` words that issued in state `s0` and took effect as `s1` is complete: the next move, the delays, the window.
[DEDUCED, log 82] -/
def State.retire (s0 s1 : State) (c : Ctx) (len : Nat) (fl : Flow) : State :=
  let r0 := s0.regs c
  let r1 := s1.regs c
  let held := s0.preHold c len
  let branches : Bool := match fl with
    | .branch _ => true
    | _ => false
  let rp := rptStep r1.rpt r0.pc len branches
  let seqNext := r0.pc + w32 (4 * len)
  let next := match fl with
    | .jump a => a
    | .branch _ => seqNext
    | _ => r0.delay.getD (rp.2.getD seqNext)
  let delay := match fl with
    | .branch t => some t
    | _ => none
  let second := delay.getD (succWord rp.1 next)
  let win : Held := if fl = .sync then [] else [(next, s1.heldWord c held next), (second, s1.heldWord c held second)]
  let s2 := if fl = .sync then s1.setStale (ctxNum c) [] else s1
  s2.setRegs c { r1 with
    pc := next, delay := delay, rpt := rp.1, window := win, winValid := win.length
    sys := { r1.sys with moves := r1.sys.moves + 1 }
    mul := mulTick r1.mul, lsu := lsuTick r1.lsu }

/-- BR.ERET with a frame in the stack: return PC, RPT count, g30, handler mode, the delay slot, the results set aside (R145, R160).
[DEDUCED, log 79] -/
def State.eret (s : State) (c : Ctx) (f : Word) : State :=
  let w (i : Nat) : Word := s.memWord (f + w32 (4 * i))
  s.modRegs c fun r =>
    let r1 := setG r 30 (f + 16)
    let r2 := { r1 with
      pc := w 0, window := [], winValid := 0
      delay := if bit (w 1) 8 then some r.sys.epend else none
      rpt := { r.rpt with cnt := w 3 }
      sys := { r.sys with handler := false, moves := r.sys.moves + 1 }
      aside := none }
    match r.aside with
    | some x => { r2 with mul := { r.mul with p := x.p, pend := x.mpend }, lsu := { r.lsu with r := x.r, pend := x.lpend } }
    | none => r2

end Sys2Proof.Machine
end

