-- ==== Sys2Proof/Machine/DebugAccess.lean ====
section
/-! DEFINITION. DBG_ACCESS: who may reach what, reads, writes, halt and resume (R40-R44, R216, R225, R244, R260). -/

namespace Sys2Proof.Machine

open Sys2Proof

/-! ## Targets and rights (R40, R43, R57) -/

/-- What TARGET names. -/
inductive DbgTarget where
  | cask (n : Nat)
  | keystone
  | control
  | nothing
  deriving DecidableEq, Repr

/-- [DEDUCED, log 23] -/
def dbgTarget (t : BitVec 11) : DbgTarget :=
  if t.toNat < 0x400 then .cask t.toNat
  else if t = 0x400 then .keystone
  else if t = 0x7FF then .control
  else .nothing

/-- A cask is in range: in OWNED by the session's range and its own consent, in TEST_OPEN and ANALYSIS always (R43).
[DEDUCED, log 20] -/
def State.caskInRange (s : State) (n : Nat) : Bool :=
  match s.life.state with
  | .owned =>
    (s.cask n).regs.sys.consent && (s.dbg.session.any fun x => decide (x.first.toNat ≤ n) && decide (n ≤ x.last.toNat))
      && (s.dbg.session.any fun x => x.last != 0xFFFF)
  | .testOpen | .analysis => true
  | _ => false

/-- The level permits an operation on a target and address that needs level `need`: the keystone and the physical map outside the
control blocks need FULL (R40). [DEDUCED, log 20, 21] -/
def State.dbgPermits (s : State) (t : DbgTarget) (addr : Word) (need : DbgLevel) : Bool :=
  match t with
  | .cask n => levelGe s.dbg.level need && s.caskInRange n
  | .keystone => levelGe s.dbg.level .full && keystoneState s.life.state
  | .control => levelGe s.dbg.level (if inCtrl addr.toNat then need else .full)
  | .nothing => false

/-- A KS field of the control space, out of reach below FULL (R8). [DEDUCED, log 21] -/
def State.dbgKsHidden (s : State) (t : DbgTarget) (addr : Word) : Bool :=
  t == .control && inCtrl addr.toNat && regKs addr.toNat && !s.reachesKs .debugger

/-- The data register with DATA captured. -/
def dbgDr (op : Nat) (target : BitVec 11) (addr data : Word) : Nat :=
  op * 2 ^ 78 + target.toNat * 2 ^ 67 + addr.toNat * 2 ^ 32 + data.toNat

/-- DBG_ACCESS captures DATA. -/
def State.dbgCapture (s : State) (op : Nat) (target : BitVec 11) (addr data : Word) : State :=
  s.tapLoad 0x22 (dbgDr op target addr data) 80

/-- A refused operation: no effect, DATA 0, an access violation of source 4 (R44). -/
def State.dbgRefused (s : State) (op : Nat) (target : BitVec 11) (addr : Word) : State :=
  (s.violation 4 (op == 1) addr).dbgCapture op target addr 0

/-- A permitted operation whose captured DATA the spec does not state. [DEDUCED, log 22] -/
def State.dbgDone (s : State) (op : Nat) (target : BitVec 11) (addr : Word) : State :=
  let d := s.drawNat
  d.2.dbgCapture op target addr (w32 d.1)

/-! ## Views -/

/-- A debugger reads the word at `a` of a cask's view: registers at the offsets of its context block, then segments and page;
`none` outside them. [DEDUCED, log 25; DESIGN CHOICE, log 24] -/
def State.dbgCaskRead (s : State) (n a : Nat) : Option Word :=
  let k := s.cask n
  if a % 4 ≠ 0 then none
  else if a < 0x040 then some (descWord k a)
  else if a < 0x200 then some (blockWord k.regs a)
  else if (caskSegs k).any fun g => inSeg g a 4 then some (s.memWord (w32 a))
  else if inRange a 4 (pagesBase + 0x1000 * n) 0x1000 then some (w32 (s.pageRead n (a % 0x1000) 4))
  else none

/-- A debugger writes it: descriptors only while the cask is DISABLED, never the flash (R173, R227). In OWNED a halted cask whose
consent is cleared goes on (R64). [DEDUCED, log 22; DESIGN CHOICE, log 24] -/
def State.dbgCaskWrite (s : State) (n a : Nat) (v : Word) : State :=
  let k := s.cask n
  if a % 4 ≠ 0 then s
  else if a < 0x040 then (if k.state = .disabled then s.setCask n (descSet k a v) else s)
  else if a < 0x200 then
    let x := { k with regs := blockSet k.regs a v }
    s.setCask n (if s.life.state = .owned ∧ ¬ x.regs.sys.consent then resumeCask x else x)
  else if (caskSegs k).any fun g => inSeg g a 4 then (if a < flashEnd then s else s.store none a (leBytes 4 v.toNat))
  else if inRange a 4 (pagesBase + 0x1000 * n) 0x1000 then s.pageWrite (.cask (BitVec.ofNat 10 n)) n (a % 0x1000) (leBytes 4 v.toNat)
  else s

/-- The physical map as keystone code reaches it, control registers with the debugger's own latches (R8, R212, R593). -/
def State.dbgMapRead (s : State) (a : Word) : Option Word × State :=
  if a.toNat % 4 ≠ 0 then (none, s)
  else if inCtrl a.toNat then (some (s.regRead .debugger a).1, (s.regRead .debugger a).2)
  else if (s.ksAccess a.toNat 4 .load).isSome then (none, s)
  else (some (w32 (s.dataRead .keystone a 4).1), s)

/-- [DEDUCED, log 22] -/
def State.dbgMapWrite (s : State) (a v : Word) : State :=
  if a.toNat % 4 ≠ 0 then s
  else if inCtrl a.toNat then s.regWrite .debugger a v
  else if (s.ksAccess a.toNat 4 .store).isSome then s
  else s.dataWriteBy none .keystone a (leBytes 4 v.toNat)

/-- What a read captures, `none` where the target holds nothing at the address. [DESIGN CHOICE, log 24] -/
def State.dbgRead' (s : State) (t : DbgTarget) (addr : Word) : Option Word × State :=
  match t with
  | .cask n => (s.dbgCaskRead n addr.toNat, s)
  | .keystone =>
    if addr.toNat < 0x200 ∧ addr.toNat % 4 = 0 then
      (some (if addr.toNat < 0x40 then 0 else blockWord s.ks.regs addr.toNat), s)
    else s.dbgMapRead addr
  | .control => s.dbgMapRead addr
  | .nothing => (none, s)

/-- [DESIGN CHOICE, log 24] -/
def State.dbgWrite' (s : State) (t : DbgTarget) (addr v : Word) : State :=
  match t with
  | .cask n => s.dbgCaskWrite n addr.toNat v
  | .keystone =>
    if addr.toNat < 0x200 then
      (if 0x40 ≤ addr.toNat ∧ addr.toNat % 4 = 0 then s.modRegs .keystone fun r => blockSet r addr.toNat v else s)
    else s.dbgMapWrite addr v
  | .control => s.dbgMapWrite addr v
  | .nothing => s

/-! ## Halt and resume (R216, R260) -/

/-- A cask is halted; a READY, RUNNING or WAITING cask only. It leaves its slot, and a string operation yields (R192, R216, R260).
[DEDUCED, log 27] -/
def haltCask (k : Cask) : Cask :=
  if k.state = .ready ∨ k.state = .running ∨ k.state = .waiting then
    { k with state := .halted, before := if k.state = .waiting then .waiting else .ready, leaving := k.slot.isSome
             regs := { k.regs with str := { k.regs.str with busy := false } } }
  else k

/-- A target is halted. [DEDUCED, log 27] -/
def State.dbgHalt (s : State) (t : DbgTarget) : State :=
  match t with
  | .cask n => s.modCask n haltCask
  | .keystone =>
    ({ s with dbg := { s.dbg with keystoneHalted := true, haltAt := if s.dbg.keystoneHalted then s.dbg.haltAt else s.clk.time } } :
      State).modRegs .keystone fun r => { r with str := { r.str with busy := false } }
  | _ => s

/-- A target goes on; in TEST_OPEN and ANALYSIS keystone code loaded through the TAP starts with the registers it has (R31).
[DEDUCED, log 26] -/
def State.dbgResume (s : State) (t : DbgTarget) : State :=
  match t with
  | .cask n => s.modCask n resumeCask
  | .keystone =>
    let s1 := s.unhaltKs
    if s1.labState ∧ ¬ s1.ks.running then { s1 with ks := { s1.ks with running := true } } else s1
  | _ => s

/-! ## The rows -/

/-- A DBG_ACCESS operation that the TAP serves: refused, or carried out. -/
def State.dbgAccess (s : State) (op : Nat) (target : BitVec 11) (addr : Word) (ok : Bool) (f : State → State) :
    Host.Outcome State Fault Refusal :=
  .next (if ¬ s.tapServes then s.tapUnserved else if ok then f s else s.dbgRefused op target addr)

/-- DBG_ACCESS_READ at OBSERVE and above (R40, R44). -/
def execDbgAccessRead (target : BitVec 11) (addr : Word) (s : State) : Host.Outcome State Fault Refusal :=
  let t := dbgTarget target
  s.dbgAccess 0 target addr (s.dbgPermits t addr .observe && !s.dbgKsHidden t addr) fun u =>
    let r := u.dbgRead' t addr
    match r.1 with
    | some v => r.2.dbgCapture 0 target addr v
    | none => r.2.dbgDone 0 target addr

/-- DBG_ACCESS_WRITE at CONTROL and above (R40, R44). -/
def execDbgAccessWrite (target : BitVec 11) (addr data : Word) (s : State) : Host.Outcome State Fault Refusal :=
  let t := dbgTarget target
  s.dbgAccess 1 target addr (s.dbgPermits t addr .control && !s.dbgKsHidden t addr) fun u =>
    (u.dbgWrite' t addr data).dbgDone 1 target addr

/-- A context that can be halted: a cask or the keystone. [DEDUCED, log 23] -/
def isContext (t : DbgTarget) : Bool :=
  match t with
  | .cask _ | .keystone => true
  | _ => false

/-- DBG_ACCESS_HALT at CONTROL and above (R40, R43). -/
def execDbgAccessHalt (target : BitVec 11) (addr : Word) (s : State) : Host.Outcome State Fault Refusal :=
  let t := dbgTarget target
  s.dbgAccess 2 target addr (isContext t && s.dbgPermits t addr .control) fun u => (u.dbgHalt t).dbgDone 2 target addr

/-- DBG_ACCESS_RESUME (R40, R216); the moved DATA is not used. -/
def execDbgAccessResume (target : BitVec 11) (addr _data : Word) (s : State) : Host.Outcome State Fault Refusal :=
  let t := dbgTarget target
  s.dbgAccess 3 target addr (isContext t && s.dbgPermits t addr .control) fun u => (u.dbgResume t).dbgDone 3 target addr

end Sys2Proof.Machine
end

