-- ==== Sys2Proof/Machine/HostPorts.lean ====
section
/-! DEFINITION. Host ports: BAR0 and the doorbells of PCI Express, protocol v1 over SPI, I2C and the device page, its commands, the
claim and the replacement image (R541-R563). -/

namespace Sys2Proof.Machine

open Sys2Proof

/-! ## PCI Express (R542-R550) -/

/-- The endpoint can serve: its port is enabled and clocked, and host ports serve (R74, R541, R564). [DEDUCED, log 167] -/
def State.pcieOn (s : State) : Bool :=
  s.hostServes && bit s.host.portEn 0 && !s.clk.off.contains 192 && !s.clk.off.contains 193

/-- A BAR access is served while the link is up. -/
def State.barOn (s : State) : Bool := s.pcieOn && s.host.up

/-- PCIE_LINK_UP: the link has trained. -/
def execPcieLinkUp (rate width : BitVec 2) (s : State) : Host.Outcome State Fault Refusal :=
  .next (if s.pcieOn then
    ({ s with host := { s.host with up := true, rate := rate, width := width, linkUp := true } } : State).hostEvent 0x01
  else s)

/-- PCIE_LINK_DOWN, PERSTN_ASSERT and PCIE_FLR (R546). -/
def execPcieLinkDown (s : State) : Host.Outcome State Fault Refusal := .next s.pcieDown
/-- [PRESUMED, log 162] -/
def execPerstnAssert (s : State) : Host.Outcome State Fault Refusal := .next s.pcieDown
/-- [PRESUMED, log 162] -/
def execPcieFlr (s : State) : Host.Outcome State Fault Refusal :=
  .next (if s.host.up then s.endpointReset 0x04 else s)

/-- An enabled grant covers BAR0 offset `x` in a direction (R544, R564). -/
def grantCovers (x : Nat) (write : Bool) (g : BitVec 22) : Bool :=
  decide (fld g 0 10 ≤ x / 64) && decide (x / 64 ≤ fld g 10 10) && (if write then bit g 21 else bit g 20)
def State.granted0 (s : State) (x : Nat) (write : Bool) : Bool :=
  (List.range 8).any fun i => grantCovers x write (tget s.host.grants i 0)

/-- A granted access at control-space address `a`: aligned words act, everything else reads 0 (R591). [DEDUCED, log 168] -/
def State.bar0Do (s : State) (a : Word) (size : Width) (write : Option Word) : Word × State :=
  if size ≠ .word ∨ a.toNat % 4 ≠ 0 ∨ ¬ inCtrl a.toNat then (0, s)
  else match write with
  | some w => (0, s.regWrite .host a w)
  | none => s.regRead .host a

/-- What leaves Nelvo for a read. -/
def State.reply (s : State) (via : HostVia) (bs : Bytes) : State := s.emit (.host via bs)

/-- PCIE_BAR0_ACCESS: only inside a grant; else it reads 0 and is a violation (R544). [DEDUCED, log 168] -/
def execPcieBar0Access (offset : BitVec 16) (size : Width) (write : Option Word) (s : State) :
    Host.Outcome State Fault Refusal :=
  .next (if s.barOn then
    let a := w32 (s.host.bar0.toNat * 2 ^ 16 + offset.toNat)
    let r := if s.granted0 offset.toNat write.isSome then s.bar0Do a size write
      else (0, s.violation 1 write.isSome a)
    if write.isSome then r.2 else r.2.reply .pcie (leBytes (widthBytes (widthCode size)) r.1.toNat)
  else s)

/-- MSIX_OWED_SEND: the host has enabled and unmasked an owed vector on a link that is up; the message is sent (R545).
[DEDUCED, log 163] -/
def execMsixOwedSend (vector : Fin 1025) (s : State) : Host.Outcome State Fault Refusal :=
  .next (if s.barOn ∧ s.host.owed.contains vector.val then
    let h := { s.host with bme := true, msixEn := true, linkUp := true, owed := s.host.owed.filter (· ≠ vector.val)
                           unmasked := vector.val :: s.host.unmasked.filter (· ≠ vector.val) }
    ({ s with host := h } : State).emit (.msix vector.val)
  else s)

/-! ## Protocol v1 frames (R552-R554) -/

/-- The command codes and whether they go to the device (R553). -/
def v1Known (cmd : Byte) (target : Nat) : Bool :=
  if target = 0x7FF then [0x01, 0x02, 0x03, 0x20, 0x21, 0x22].contains cmd.toNat
  else decide (target ≤ 0x400) && [0x10, 0x11, 0x12, 0x13].contains cmd.toNat

/-- The payload lengths a command takes (R553). [DESIGN CHOICE, log 56] -/
def v1LenOk (cmd : Byte) (n : Nat) : Bool :=
  match cmd.toNat with
  | 0x03 => n == 2
  | 0x10 => decide (2 ≤ n)
  | 0x11 => n == 4
  | 0x12 => n == 4
  | 0x20 => decide (4 ≤ n)
  | 0x01 | 0x02 | 0x13 | 0x21 | 0x22 => n == 0
  | _ => true

/-- A response frame (R552). -/
def v1Resp (status : Nat) (target seq : BitVec 16) (payload : Bytes) : Bytes :=
  let head := [0x5A, byte status] ++ leBytes 2 target.toNat ++ leBytes 2 payload.length ++ leBytes 2 seq.toNat ++ payload
  head ++ leBytes 2 (crc16 head).toNat

/-- The path number of HOSTPATH that a frame arrives on. [DEDUCED, log 160] -/
def viaPath : HostVia → Nat
  | .pcie => 1
  | _ => 2

/-- A path serves now (R541, R564). [DEDUCED, log 167] -/
def State.viaOn (s : State) : HostVia → Bool
  | .pcie => s.barOn
  | .spi => s.hostServes && bit s.host.portEn 1 && !s.clk.off.contains 194
  | .i2c => s.hostServes && bit s.host.portEn 2 && !s.clk.off.contains 195

/-! ## Staging buffer, claim, replacement (R559-R562) -/

def stagingSize : Nat := 0x110000
def State.stagingByte (s : State) (off n : Nat) : Bytes := s.rdBytes (sramBase + off) n

/-- The buffer is zeroized when a claim or replacement ends. -/
def State.stagingEnd (s : State) : State :=
  let s1 := s.clear sramBase stagingSize
  { s1 with host := { s1.host with staged := false } }

/-- The image staged at `off`, header, body and block. -/
def State.stagedImage (s : State) (off : Nat) : Bytes :=
  let h := s.stagingByte off 64
  let n := min (imgLength h) 0x100000
  let b := s.stagingByte (off + 64 + n) 8
  s.stagingByte off (64 + n + hybridLen (bit (b.getD 5 0) 0))

/-- The response status of an image check (R561 step 3). [DEDUCED, log 165] -/
def imageStatus (code : Nat) : Nat :=
  match code with
  | 0 => 0x00
  | 1 => 0x09
  | 2 => 0x0C
  | _ => 0x08

/-- The image area: 65 sectors of the keystone, erased and written (R561 step 4). -/
def State.writeImage (s : State) (sector : Nat) (img : Bytes) : State :=
  let own := (List.range 65).foldl (fun t i => tset t (sector + i) (0x400 : BitVec 11)) s.nvm.sectOwn
  let s1 := (s.clear (sectorAddr sector) (65 * 0x4000)).wrBytes (sectorAddr sector) img
  { s1 with nvm := { s1.nvm with sectOwn := own }
            life := { s1.life with imageSector := sector, imageLen := img.length } }

/-- The claim record is well formed (R560). [DEDUCED, log 165] -/
def claimForm (r : Bytes) : Bool :=
  wordAt r 0 == 0x4C435A4B && r.getD 4 0 == 1 && r.getD 5 0 == 0 && decide (leNat (slice r 6 2) ≤ 895)

/-- OWN_CLAIM: R561 steps 1 to 5, and the response code. [DEDUCED, log 165] -/
def State.claim (s : State) (via : HostVia) : Nat × State :=
  let r := s.stagingByte 0 0x1020
  let img := s.stagedImage 0x3000
  let keys := slice r 0x10 2056
  let check := imageStatus (s.imageCheck (some keys) img)
  if !claimForm r then (0x08, s.stagingEnd)
  else if leNat (slice r 8 8) ≠ Config.deviceId.toNat then (0x0A, s.stagingEnd)
  else if !hybridOk s.life.authority none false 3 r (s.stagingByte 0x1020 5472) then (0x09, s.stagingEnd)
  else if check ≠ 0 then (check, s.stagingEnd)
  else
    let s1 := s.writeImage (leNat (slice r 6 2)) img
    let s2 := { s1 with
      life := { s1.life with state := .owned, ownerKeys := some keys, debugKeys := some (slice r 0x818 2056) }
      host := { s1.host with claim := some via } }
    (0x00, s2.stagingEnd)

/-- IMAGE_REPLACE: the staged image checked with the stored owner key and written (R562). -/
def State.replaceImage (s : State) (via : HostVia) : Nat × State :=
  let img := s.stagedImage 0
  let check := imageStatus (s.imageCheck s.life.ownerKeys img)
  if check ≠ 0 then (check, s.stagingEnd)
  else
    let s1 := s.writeImage s.life.imageSector img
    (0x00, ({ s1 with host := { s1.host with claim := some via } } : State).stagingEnd)

/-- R561 step 6: the cold reset once the response has been read, or after 100 ms. [DEDUCED, log 165] -/
def State.claimReset (s : State) : State := s.requestReset .cold false
def State.claimRead (s : State) (via : HostVia) : State := if s.host.claim = some via then s.claimReset else s

/-- [DEDUCED, log 165] -/
def execClaimResetTimer (s : State) : Host.Outcome State Fault Refusal :=
  .next (if s.alive ∧ s.host.claim.isSome then s.claimReset else s)

/-! ## The commands (R553, R554, R559) -/

/-- A command that the state does not allow now: LC_PENDING, BUSY or NOT_NOW (R554 step 4, R559). -/
def State.v1State (s : State) (cmd : Nat) : Option Nat :=
  let st := s.life.state
  let replacing : Bool := st == .owned && s.pwr.bootResult != 0
  let open' : Bool := match cmd with
    | 0x03 => st == .personal || st == .owned
    | 0x20 => st == .personal || replacing
    | 0x21 => st == .personal
    | 0x22 => replacing
    | _ => true
  if cmd = 0x01 then none
  else if st = .analysisPending then some 0x06
  else if s.host.claim.isSome ∧ ¬ (0x10 ≤ cmd ∧ cmd ≤ 0x13) then some 0x05
  else if open' then none else some 0x07

/-- The effect of a command that passed its checks: status, response payload, state. [DEDUCED, log 161, 166] -/
def State.v1Effect (s : State) (via : HostVia) (cmd : Nat) (n : Nat) (p : Bytes) : Nat × Bytes × State :=
  let off := leNat (slice p 0 2)
  match cmd with
  | 0x01 => (0, leBytes 4 s.lcsStatus.toNat ++ leBytes 4 (s.pwrRead 0).toNat ++ leBytes 4 (s.pwrRead 0x1C).toNat ++
      leBytes 4 (s.tampRead 0).toNat, s)
  | 0x02 => (0, leBytes 8 Config.deviceId.toNat ++ leBytes 4 0x4E310A01 ++ [2, 0, 0, 0], s)
  | 0x03 => (0, (((s.life.identKeys.getD []).take 2049).drop off).take 1024, s)
  | 0x10 =>
    if off + (p.length - 2) ≤ 0xEE0 then (0, [], s.wrBytes (pagesBase + 0x1000 * n + off) (p.drop 2)) else (0x0B, [], s)
  | 0x11 =>
    let len := leNat (slice p 2 2)
    if len ≤ 1024 ∧ off + len ≤ 0xEE0 then (0, s.rdBytes (pagesBase + 0x1000 * n + off) len, s) else (0x0B, [], s)
  | 0x12 => (0, [], s.h2cStore n (wordAt p 0))
  | 0x13 =>
    (0, leBytes 4 (s.pageIf n).c2h.toNat ++ leBytes 4 (s.pageIf n).c2hCnt.toNat ++ leBytes 4 (s.pstat n).toNat,
      s.setPageIf n { s.pageIf n with attn := false })
  | 0x20 =>
    let o := leNat (slice p 0 4)
    if o + (p.length - 4) ≤ stagingSize then
      let s1 := s.wrBytes (sramBase + o) (p.drop 4)
      (0, [], { s1 with host := { s1.host with staged := true } })
    else (0x0B, [], s)
  | 0x21 => ((s.claim via).1, [], (s.claim via).2)
  | 0x22 => ((s.replaceImage via).1, [], (s.replaceImage via).2)
  | _ => (0x02, [], s)

/-- A frame that arrived whole: the checks of R554 from step 2 on, in order, then the command. -/
def State.v1Run (s : State) (via : HostVia) (cmd : Byte) (f : V1Frame) : Nat × Bytes × State :=
  let n := f.target.toNat
  if !v1Known cmd n then (0x02, [], s)
  else if n ≤ 0x400 ∧ s.pagePath n ≠ viaPath via then (0x03, [], s)
  else match s.v1State cmd.toNat with
    | some code => (code, [], s)
    | none =>
      if (cmd = 0x10 ∨ cmd = 0x12) ∧ n < 1024 ∧ ¬ s.caskLive n then (0x04, [], s)
      else s.v1Effect via cmd.toNat n f.payload

/-- The response becomes readable: held by its port, or written to the device page with its doorbell (R556, R559). -/
def State.v1Put (s : State) (via : HostVia) (seq : BitVec 16) (bs : Bytes) : State :=
  match via with
  | .spi => { s with host := { s.host with spi := { s.host.spi with resp := some bs } } }
  | .i2c => { s with host := { s.host with i2c := { s.host.i2c with resp := some bs } } }
  | .pcie =>
    let put (t : Tab Byte × Nat) (b : Byte) : Tab Byte × Nat := (tset t.1 t.2 b, t.2 + 1)
    let s1 := { s with host := { s.host with devMem := (bs.foldl put (s.host.devMem, 0x800)).1 } }
    s1.c2hStore devPageNo (seq.zeroExtend 32)

/-- A response that has not been read gives way to a new frame, and counts as lost (R556). -/
def State.v1Fresh (s : State) (via : HostVia) : State :=
  let lost (p : V1Port) : Word := if p.resp.isSome then satAdd1 s.host.cntLost else s.host.cntLost
  match via with
  | .spi => { s with host := { s.host with cntLost := lost s.host.spi, spi := { s.host.spi with resp := none } } }
  | .i2c => { s with host := { s.host with cntLost := lost s.host.i2c, i2c := { s.host.i2c with resp := none } } }
  | .pcie => s

/-- A whole frame with a good SYNC, LEN and CRC. [DESIGN CHOICE, log 54] -/
def State.v1Frame (s : State) (via : HostVia) (cmd : Byte) (f : V1Frame) : State :=
  let s1 := s.v1Fresh via
  let r := s1.v1Run via cmd f
  r.2.2.v1Put via f.seq (v1Resp r.1 f.target f.seq r.2.1)

/-- A bad frame: BAD_FRAME, counted, told to keystone code (R554 step 1, R564, R565). [DESIGN CHOICE, log 56] -/
def State.v1Bad (s : State) (via : HostVia) (target seq : BitVec 16) : State :=
  let s1 := s.v1Fresh via
  let s2 := { s1 with host := { s1.host with cntFrameErr := satAdd1 s1.host.cntFrameErr } }
  (s2.hostEvent 0x20).v1Put via seq (v1Resp 0x01 target seq [])

/-- A command frame by its fields: LEN out of range or not the command's is a bad frame. [DESIGN CHOICE, log 56] -/
def State.v1Take (s : State) (via : HostVia) (cmd : Byte) (f : V1Frame) : State :=
  if 1024 < f.payload.length ∨ (v1Known cmd f.target.toNat ∧ ¬ v1LenOk cmd f.payload.length) then
    s.v1Bad via f.target f.seq
  else s.v1Frame via cmd f

/-- LEN of the bytes of a frame, and whether they are all there. -/
def v1Len (bs : Bytes) : Nat := leNat (slice bs 4 2)
/-- [DEDUCED, log 164] -/
def v1Whole (bs : Bytes) : Bool := decide (8 ≤ bs.length) && decide (10 + v1Len bs ≤ bs.length)

/-- The bytes of a frame that arrived whole (R552, R554 step 1). [DEDUCED, log 164] -/
def State.v1Bytes (s : State) (via : HostVia) (bs : Bytes) : State :=
  let n := v1Len bs
  let target : BitVec 16 := BitVec.ofNat 16 (leNat (slice bs 2 2))
  let seq : BitVec 16 := BitVec.ofNat 16 (leNat (slice bs 6 2))
  if bs.getD 0 0 ≠ 0xA5 ∨ bs.length ≠ 10 + n ∨ leNat (slice bs (8 + n) 2) ≠ (crc16 (bs.take (8 + n))).toNat then
    s.v1Bad via target seq
  else s.v1Take via (bs.getD 1 0) { target := target, seq := seq, payload := slice bs 8 n }

/-- The rows of the commands: a whole frame arrives on a path that serves. -/
def State.v1Row (s : State) (via : HostVia) (cmd : Byte) (f : V1Frame) : Host.Outcome State Fault Refusal :=
  .next (if s.viaOn via then s.v1Take via cmd f else s)

def execStatus (via : HostVia) (f : V1Frame) (s : State) : Host.Outcome State Fault Refusal := s.v1Row via 0x01 f
def execIdent (via : HostVia) (f : V1Frame) (s : State) : Host.Outcome State Fault Refusal := s.v1Row via 0x02 f
def execPubkeys (via : HostVia) (f : V1Frame) (s : State) : Host.Outcome State Fault Refusal := s.v1Row via 0x03 f
def execMbWrite (via : HostVia) (f : V1Frame) (s : State) : Host.Outcome State Fault Refusal := s.v1Row via 0x10 f
def execMbRead (via : HostVia) (f : V1Frame) (s : State) : Host.Outcome State Fault Refusal := s.v1Row via 0x11 f
def execRing (via : HostVia) (f : V1Frame) (s : State) : Host.Outcome State Fault Refusal := s.v1Row via 0x12 f
def execPoll (via : HostVia) (f : V1Frame) (s : State) : Host.Outcome State Fault Refusal := s.v1Row via 0x13 f
def execStage (via : HostVia) (f : V1Frame) (s : State) : Host.Outcome State Fault Refusal := s.v1Row via 0x20 f
def execOwnClaim (via : HostVia) (f : V1Frame) (s : State) : Host.Outcome State Fault Refusal := s.v1Row via 0x21 f
def execImageReplace (via : HostVia) (f : V1Frame) (s : State) : Host.Outcome State Fault Refusal := s.v1Row via 0x22 f

/-! ## Doorbells (R548-R551) -/

/-- The page number of a page of BAR2. -/
def pageNo : PageId → Nat
  | .ctx c => ctxNum c
  | .device => devPageNo

/-- The command frame in the device page, as long as its LEN says. [DEDUCED, log 160] -/
def State.devFrame (s : State) : Bytes :=
  let b (n : Nat) : Bytes := (List.range n).map fun i => tget s.host.devMem i 0
  b (10 + min 1025 (v1Len (b 8)))

/-- H2C_WRITE: a host write of a page's doorbell over BAR2; on the device page it starts the command frame (R548, R551, R559).
[DEDUCED, log 160] -/
def execH2cWrite (page : PageId) (value : Word) (s : State) : Host.Outcome State Fault Refusal :=
  .next (if ¬ s.barOn then s
    else match page with
    | .device => (s.h2cStore devPageNo value).v1Bytes .pcie s.devFrame
    | .ctx c =>
      if s.pagePath (ctxNum c) = 1 ∧ s.life.state ≠ .analysisPending then s.h2cStore (ctxNum c) value else s)

/-- C2H_WRITE: the page's owner writes its doorbell to the host (R549). -/
def execC2hWrite (page : PageId) (value : Word) (s : State) : Host.Outcome State Fault Refusal :=
  .next (match page with
    | .device => s
    | .ctx c => if s.canTrigger c then s.c2hStore (ctxNum c) value else s)

/-- DEVICE_PAGE_RESPONSE_READ: the host reads the response frame at 0x800 (R559, R561). -/
def execDevicePageResponseRead (s : State) : Host.Outcome State Fault Refusal :=
  .next (if s.barOn then
    let b (n : Nat) : Bytes := (List.range n).map fun i => tget s.host.devMem (0x800 + i) 0
    (s.reply .pcie (b (10 + min 1024 (v1Len (b 8))))).claimRead .pcie
  else s)

/-! ## SPI target (R555, R556) -/

def State.setSpi (s : State) (p : V1Port) : State := { s with host := { s.host with spi := p } }
def State.setI2c (s : State) (p : V1Port) : State := { s with host := { s.host with i2c := p } }

/-- The status byte: BUSY, RESP_READY, ATTN, ERR. A command of this model completes in the command that brings it, so that BUSY
reads 0. [DESIGN CHOICE, log 54] -/
def State.portStatus (s : State) (p : V1Port) : Byte := byte (flag p.resp.isSome 1 + flag s.attn 2 + flag p.err 3)

/-- SPI_WRITE_FRAME: opcode 0x02 or 0x32 and the bytes of a command frame. -/
def execSpiWriteFrame (_quad : Bool) (bytes : List Byte) (s : State) : Host.Outcome State Fault Refusal :=
  .next (if s.viaOn .spi then s.setSpi { s.host.spi with rx := s.host.spi.rx ++ bytes, open' := true } else s)

/-- SPI_CS_RISE: the frame ends; one that is incomplete is discarded with ERR. -/
def execSpiCsRise (s : State) : Host.Outcome State Fault Refusal :=
  .next (if s.viaOn .spi ∧ s.host.spi.open' then
    let bs := s.host.spi.rx
    let s1 := s.setSpi { s.host.spi with rx := [], open' := false }
    if v1Whole bs then s1.v1Bytes .spi bs else s1.setSpi { s1.host.spi with err := true }
  else s)

/-- SPI_READ_STATUS: the status byte; ERR clears. -/
def execSpiReadStatus (s : State) : Host.Outcome State Fault Refusal :=
  .next (if s.viaOn .spi then
    (s.reply .spi [s.portStatus s.host.spi]).setSpi { s.host.spi with err := false }
  else s)

/-- SPI_READ_RESPONSE: the response frame; with none, what the line carries is a free value. [DEDUCED, log 164] -/
def execSpiReadResponse (s : State) : Host.Outcome State Fault Refusal :=
  .next (if s.viaOn .spi then
    match s.host.spi.resp with
    | some bs => ((s.reply .spi bs).setSpi { s.host.spi with resp := none }).claimRead .spi
    | none => (s.drawBytes 1).2.reply .spi (s.drawBytes 1).1
  else s)

/-! ## I2C target (R557, R558) -/

/-- I2C_WRITE_TRANSACTION: one command frame, ended by STOP; other addresses and the general call are ignored. [DEDUCED, log 164] -/
def execI2cWriteTransaction (addr : BitVec 7) (bytes : List Byte) (s : State) : Host.Outcome State Fault Refusal :=
  .next (if s.viaOn .i2c ∧ addr = s.host.i2cAddr ∧ addr ≠ 0 then
    (if v1Whole bytes then s.v1Bytes .i2c bytes else s.setI2c { s.host.i2c with err := true })
  else s)

/-- I2C_READ_TRANSACTION: the status byte, then the response frame when there is one. [DEDUCED, log 164] -/
def execI2cReadTransaction (s : State) : Host.Outcome State Fault Refusal :=
  .next (if s.viaOn .i2c then
    let p := s.host.i2c
    let s1 := (s.reply .i2c (s.portStatus p :: p.resp.getD [])).setI2c { p with resp := none, err := false }
    if p.resp.isSome then s1.claimRead .i2c else s1
  else s)

/-- I2C_STUCK_TIMEOUT: SDA or SCL low for 25 ms; a partial frame is discarded and the episode counted (R558). -/
def execI2cStuckTimeout (s : State) : Host.Outcome State Fault Refusal :=
  .next (if s.viaOn .i2c then
    let s1 := s.setI2c { s.host.i2c with rx := [], open' := false }
    ({ s1 with host := { s1.host with cntI2c := satAdd1 s1.host.cntI2c } } : State).hostEvent 0x10
  else s)

end Sys2Proof.Machine
end

