-- ==== Sys2Proof/Machine/Units.lean ====
section
/-! DEFINITION. The ports of a context as a move reads and writes them, triggers apart (R164-R203, R320, R371, R435, R507, R595). -/

namespace Sys2Proof.Machine

open Sys2Proof

/-! ## FEAT (R202, R203, R595) -/

/-- The bits `lo` to `lo + n - 1` that hold `f`. -/
def bitsOf (lo n : Nat) (f : Nat → Bool) : Nat := ((List.range n).map fun i => flag (f i) (lo + i)).sum

/-- A macro is valid and permitted to the context (R202, R207). -/
def macroSeen (s : State) (c : Ctx) (i : Nat) : Bool :=
  (s.mac i).valid && match c with
    | .keystone => true
    | .cask n => bit (s.mac i).classes (s.cask n.toNat).cls.toNat

/-- Lanes of a role. -/
def lanesOfRole (s : State) (r : BitVec 2) : Nat := ((List.range 12).filter fun l => (s.laneAt l).role == r).length

/-- A FEAT port. [DEDUCED, log 89] -/
def featRead (s : State) (c : Ctx) (p : Nat) : Word :=
  match p with
  | 0x4C0 => 0x4E310A01
  | 0x4C1 => w32 (0x81FF + bitsOf 9 6 (s.granted c))
  | 0x4C2 => w32 (((List.range 16).filter s.coreOn).length % 32 + 4 * 2 ^ 5 + 1024 * 2 ^ 8 + 31 * 2 ^ 19)
  | 0x4C3 => w32 (bitsOf 0 32 (macroSeen s c))
  | 0x4C4 => w32 (bitsOf 0 32 fun i => macroSeen s c (32 + i))
  | 0x4C5 => w32 (bitsOf 0 7 (fun _ => s.granted c 0) + flag (s.granted c 1) 7 + bitsOf 8 8 fun _ => s.granted c 9)
  | 0x4C6 => w32 (lanesOfRole s 1 + lanesOfRole s 2 * 2 ^ 4 + lanesOfRole s 3 * 2 ^ 8 + 3 * 2 ^ 12 +
      flag (s.span.state != .off) 14)
  | 0x4C7 => 0x03FF3C0F
  | _ => 0

/-! ## RNG (R200, R201) -/

/-- The core whose buffer a context reads. -/
def State.coreOf (s : State) (c : Ctx) : Nat :=
  match c with
  | .keystone => 0
  | .cask n => slotCore ((s.cask n.toNat).slot.getD 0)

/-- A read of RNG.W: the buffer's next word, refilled with 16 words of DRBG output when it is empty; 0 after a health failure.
[DEDUCED, log 87] -/
def State.rngRead (s : State) (c : Ctx) : Word × State :=
  if s.vault.rngFail then (0, s.modRegs c fun r => { r with rngSt := true })
  else
    let k := s.coreOf c
    let put (t : State) (ws : List Word) : State :=
      ({ t with rng := { t.rng with buffers := tset t.rng.buffers k ws } } : State).modRegs c fun r => { r with rngSt := false }
    match tget s.rng.buffers k [] with
    | w :: ws => (w, put s ws)
    | [] =>
      let d := s.drbg 64
      (wordAt d.1 0, put d.2 ((List.range 15).map fun i => wordAt d.1 (4 * i + 4)))

/-! ## Reads of core units (R166-R203) -/

/-- A source port of a core unit that reads at once and changes nothing. -/
def State.coreRead (s : State) (c : Ctx) (p : Nat) : Word :=
  let r := s.regs c
  if p < 0x20 then getG r p
  else if 0x4C0 ≤ p then featRead s c p
  else match p with
  | 0x100 => r.alu.a
  | 0x101 => r.alu.r
  | 0x102 => boolWord r.alu.c
  | 0x140 => r.mul.a
  | 0x141 => loW r.mul.p
  | 0x142 => hiW r.mul.p
  | 0x180 => r.lsu.sd
  | 0x182 => r.lsu.base
  | 0x183 => r.lsu.cmp
  | 0x1C8 => r.pc
  | 0x200 => s.pendOf c
  | 0x201 => r.evt.ien
  | 0x202 => r.evt.got
  | 0x203 => r.evt.sst.setWidth 32
  | 0x240 => loW s.clk.time
  | 0x241 => r.tmr.hi
  | 0x242 => r.tmr.thi
  | 0x243 => r.tmr.wmask
  | 0x244 => r.tmr.why.setWidth 32
  | 0x245 => r.tmr.aline.setWidth 32
  | 0x280 => r.rpt.n
  | 0x281 => r.rpt.cnt
  | 0x282 => r.rpt.beg
  | 0x283 => r.rpt.fin
  | 0x2C0 => r.str.src
  | 0x2C1 => r.str.dst
  | 0x2C2 => r.str.len
  | 0x2C3 => r.str.val.setWidth 32
  | 0x2C4 => boolWord r.str.r
  | 0x2C5 => r.str.op.setWidth 32
  | 0x302 => r.sys.evec
  | 0x303 => r.sys.epend
  | 0x304 => w32 (ctxNum c)
  | 0x305 => match c with
    | .keystone => 8
    | .cask n => (s.cask n.toNat).cls.setWidth 32
  | 0x306 => match c with
    | .keystone => 0
    | .cask n => w32 ((s.cask n.toNat).slot.getD 0)
  | 0x307 => boolWord r.sys.handler
  | 0x308 => boolWord (r.sys.consent && c != .keystone)
  | 0x309 => r.sys.moves
  | 0x440 => r.ctr.sel.setWidth 32
  | 0x441 => r.ctr.lo
  | 0x442 => r.ctr.hi
  | 0x443 => r.ctr.st.setWidth 32
  | 0x481 => boolWord r.rngSt
  | _ => 0

/-! ## Reads of the engine pages (R320, R371, R435, R507) -/

def cryRead (x : PressPage) (p : Nat) : Word :=
  match p with
  | 0x340 => x.key
  | 0x341 => x.key2
  | 0x342 => x.mode
  | 0x343 => x.src
  | 0x344 => x.dst
  | 0x345 => x.len
  | 0x346 => x.aad
  | 0x347 => x.alen
  | 0x348 => x.iv
  | 0x349 => x.tag
  | 0x34A => x.nfix
  | 0x34B => x.nctr.setWidth 32
  | 0x34C => w32 (x.result.toNat + flag x.job.isSome 5 + flag x.refused 6)
  | 0x34D => x.olen
  | _ => 0

def latPortRead (x : LatPage) (p : Nat) : Word :=
  match p with
  | 0x380 => x.op
  | 0x381 => x.a
  | 0x382 => x.b
  | 0x383 => x.dst
  | 0x384 => x.sk
  | 0x385 => x.kaddr
  | 0x386 => x.addr
  | 0x387 => x.len
  | 0x388 => x.arg
  | 0x389 => boolWord x.cfg
  | 0x38A => x.rkey
  | 0x38C => w32 (x.result.toNat + flag x.job.isSome 8 + flag x.refused 9 + flag x.refreshed 10)
  | 0x38D => x.r
  | 0x38E => x.lvl.setWidth 32
  | _ => 0

def lnkRead (x : LnkPage) (p : Nat) : Word :=
  match p with
  | 0x3C0 => x.dest
  | 0x3C1 => x.src
  | 0x3C2 => x.len.setWidth 32
  | 0x3C3 => x.rbuf
  | 0x3C4 => x.rcap.setWidth 32
  | 0x3C5 => x.cfg.setWidth 32
  | 0x3C6 => w32 (x.result.toNat + flag x.job.isSome 5 + flag x.refused 6)
  | 0x3C7 => x.rlen.setWidth 32
  | _ => 0

def State.frmPortRead (s : State) (x : FrmPage) (p : Nat) : Word :=
  match p with
  | 0x400 => x.reg.setWidth 32
  | 0x401 => x.set.key0
  | 0x402 => x.set.key1
  | 0x403 => x.set.ctr.setWidth 32
  | 0x404 => x.set.batch.setWidth 32
  | 0x405 => x.set.tally
  | 0x406 => x.set.slot.setWidth 32
  | 0x407 => x.set.line.setWidth 32
  | 0x408 => x.st.setWidth 32
  | 0x409 => regionView (s.region x.reg.toNat)
  | 0x40A => loW s.frame.frameNo
  | 0x40B => x.fnoHi
  | _ => 0

/-! ## Sources of a move -/

/-- What a source port gives: a value with the state after the read and, for the result of a load that met an ECC error, that load's
address; or a stall, with the state while it lasts. -/
inductive SrcRes where
  | value (v : Word) (after : State) (ecc : Option Word)
  | stall (after : State)
  deriving DecidableEq, Repr

/-- A wait for the counter operation in flight (R197, R230). -/
def State.ctrStall (s : State) (c : Ctx) : State := s.startWait c { kind := .ctr }

/-- A move reads source port `p` (R140 lists them), with the latches of TMR.LO and FRM.FNOLO, the stalls of LSU.R and CTR, and
RNG.W. -/
def State.portRead (s : State) (c : Ctx) (p : Nat) : SrcRes :=
  let r := s.regs c
  let n := ctxNum c
  if within p 0x441 0x443 ∧ r.ctr.op.isSome then .stall (s.ctrStall c)
  else if p = 0x181 then
    (if lsuStalls r.lsu then .stall s
     else .value r.lsu.r.value s (if r.lsu.r.ecc then some r.lsu.r.addr else none))
  else if p = 0x240 then
    .value (s.coreRead c p) (s.modRegs c fun x => { x with tmr := { x.tmr with hi := hiW s.clk.time } }) none
  else if p = 0x480 then .value (s.rngRead c).1 (s.rngRead c).2 none
  else if within p 0x340 0x37F then .value (cryRead (s.cry n) p) s none
  else if within p 0x380 0x3BF then .value (latPortRead (s.latPage n) p) s none
  else if within p 0x3C0 0x3FF then .value (lnkRead (s.lnkPage n) p) s none
  else if within p 0x400 0x43F then
    .value (s.frmPortRead (s.frmPage n) p)
      (if p = 0x40A then s.setFrm n { s.frmPage n with fnoHi := hiW s.frame.frameNo } else s) none
  else .value (s.coreRead c p) s none

/-! ## Writes of ports that are no triggers -/

/-- A core unit's RW port; a write to SRC, DST, LEN or VAL of STR sets OP to 0 (R193). -/
def coreWrite (r : Regs) (c : Ctx) (p : Nat) (v : Word) : Regs :=
  if p < 0x20 then setG r p v
  else match p with
  | 0x100 => { r with alu := { r.alu with a := v } }
  | 0x140 => { r with mul := { r.mul with a := v } }
  | 0x180 => { r with lsu := { r.lsu with sd := v } }
  | 0x182 => { r with lsu := { r.lsu with base := v } }
  | 0x183 => { r with lsu := { r.lsu with cmp := v } }
  | 0x201 => { r with evt := { r.evt with ien := v } }
  | 0x242 => { r with tmr := { r.tmr with thi := v } }
  | 0x243 => { r with tmr := { r.tmr with wmask := v } }
  | 0x245 => { r with tmr := { r.tmr with aline := bv v 0 9 &&& 0x11F } }
  | 0x280 => { r with rpt := { r.rpt with n := v } }
  | 0x281 => { r with rpt := { r.rpt with cnt := v } }
  | 0x282 => { r with rpt := { r.rpt with beg := v } }
  | 0x283 => { r with rpt := { r.rpt with fin := v } }
  | 0x2C0 => { r with str := { r.str with src := v, op := 0 } }
  | 0x2C1 => { r with str := { r.str with dst := v, op := 0 } }
  | 0x2C2 => { r with str := { r.str with len := v, op := 0 } }
  | 0x2C3 => { r with str := { r.str with val := bv v 0 8, op := 0 } }
  | 0x302 => { r with sys := { r.sys with evec := v } }
  | 0x303 => { r with sys := { r.sys with epend := v } }
  | 0x308 => if c = .keystone then r else { r with sys := { r.sys with consent := bit v 0 } }
  | 0x440 => { r with ctr := { r.ctr with sel := bv v 0 16 &&& 0x8FFF } }
  | _ => r

/-- A CRY port: a KEY that changes restarts the GEN count, a write of NCTR ends the reservation (R335, R336). -/
def cryWrite (x : PressPage) (p : Nat) (v : Word) : PressPage :=
  match p with
  | 0x340 => { x with key := v, gen := if v = x.key then x.gen else 0 }
  | 0x341 => { x with key2 := v }
  | 0x342 => { x with mode := v }
  | 0x343 => { x with src := v }
  | 0x344 => { x with dst := v }
  | 0x345 => { x with len := v }
  | 0x346 => { x with aad := v }
  | 0x347 => { x with alen := v }
  | 0x348 => { x with iv := v }
  | 0x349 => { x with tag := v }
  | 0x34A => { x with nfix := v }
  | 0x34B => { x with nctr := bv v 0 12, resv := none }
  | _ => x

def latPortWrite (x : LatPage) (p : Nat) (v : Word) : LatPage :=
  match p with
  | 0x380 => { x with op := v &&& 0x003F00FF }
  | 0x381 => { x with a := v }
  | 0x382 => { x with b := v }
  | 0x383 => { x with dst := v }
  | 0x384 => { x with sk := v }
  | 0x385 => { x with kaddr := v }
  | 0x386 => { x with addr := v }
  | 0x387 => { x with len := v }
  | 0x388 => { x with arg := v }
  | 0x389 => { x with cfg := bit v 0 }
  | 0x38A => { x with rkey := v }
  | _ => x

def lnkWrite (x : LnkPage) (p : Nat) (v : Word) : LnkPage :=
  match p with
  | 0x3C0 => { x with dest := v &&& 0xFFFFFF7F }
  | 0x3C1 => { x with src := v }
  | 0x3C2 => { x with len := bv v 0 11 }
  | 0x3C3 => { x with rbuf := v }
  | 0x3C4 => { x with rcap := bv v 0 11 }
  | 0x3C5 => { x with cfg := bv v 0 23 }
  | _ => x

def frmWrite (x : FrmPage) (p : Nat) (v : Word) : FrmPage :=
  match p with
  | 0x400 => { x with reg := bv v 0 8 }
  | 0x401 => { x with set := { x.set with key0 := v } }
  | 0x402 => { x with set := { x.set with key1 := v } }
  | 0x403 => { x with set := { x.set with ctr := bv v 0 13 } }
  | 0x404 => { x with set := { x.set with batch := bv v 0 7 } }
  | 0x405 => { x with set := { x.set with tally := v } }
  | 0x406 => { x with set := { x.set with slot := bv v 0 15 } }
  | 0x407 => { x with set := { x.set with line := bv v 0 6 } }
  | _ => x

end Sys2Proof.Machine
end

