-- ==== Sys2Proof/Machine/Moves.lean ====
section
/-! DEFINITION. What a move does: its encoding checks, its source, the effect of every trigger, and the rows of moves and of waits
(R128-R141, R146-R161, R166-R187, R195-R198, R247-R253). -/

namespace Sys2Proof.Machine

open Sys2Proof

/-! ## The move (R128-R133) -/

/-- Where a move's value comes from. -/
inductive MvSrc where
  | port (p : Nat)
  | value (v : Word)
  | mac (p index : Nat)
  deriving DecidableEq, Repr

/-- A move: guard, source, WIDTH, destination port, words. -/
structure Mv where
  guard : Nat := 0
  src   : MvSrc
  width : Nat := 0
  dst   : Nat
  len   : Nat := 1
  deriving DecidableEq, Repr

/-- The move a word spells, given the word after it; an exception code for an illegal guard or form (R131, R156). -/
def moveOf (w next : Word) : Except Nat Mv :=
  if mvGuard w = 8 then .error excIllegalGuard
  else match mvForm w with
  | 0 => .ok { guard := mvGuard w, src := .port (mvSrc w), width := mvWidth w, dst := mvDst w }
  | 1 => .ok { guard := mvGuard w, src := .value (mvImm w), width := mvWidth w, dst := mvDst w }
  | 2 =>
    if mvSrc w ≠ 0 then .error excIllegalForm
    else .ok { guard := mvGuard w, src := .value next, width := mvWidth w, dst := mvDst w, len := 2 }
  | _ =>
    if 0x20 ≤ mvReg w ∨ mvWidth w ≠ 0 then .error excIllegalForm
    else .ok { guard := mvGuard w, src := .mac (mvSrc w) (mvMacro w), dst := mvReg w }

/-! ## Encoding checks (R134, R140, R141, R147, R156, R165) -/

/-- The source port a move names. -/
def srcPort : MvSrc → Option Nat
  | .port p => some p
  | .value _ => none
  | .mac p _ => some p

/-- The context may name the port (R165). -/
def State.portPermitted (s : State) (c : Ctx) (p : Nat) : Bool := (portGrant p).all (s.granted c)

/-- The failure of a move in the order of R156, with the port of BAD_PORT or CLASS_DENIED; `none` as the port of a macro that the
class does not permit. BR.ERET outside a handler is refused when it executes. [DEDUCED, log 75, 76] -/
def State.encFault (s : State) (c : Ctx) (m : Mv) : Option (Nat × Option Nat) :=
  let r := s.regs c
  let src := srcPort m.src
  match src.filter (!portReads ·) with
  | some p => some (excBadPort, some p)
  | none =>
    if ¬ portWrites m.dst ∨ (m.dst = 0x1C2 ∧ ¬ r.sys.handler ∧ guardOk (getG r) m.guard) then some (excBadPort, some m.dst)
    else match src.filter (!s.portPermitted c ·) with
    | some p => some (excClassDenied, some p)
    | none =>
      if ¬ s.portPermitted c m.dst then some (excClassDenied, some m.dst)
      else match m.src with
      | .mac _ i =>
        if ¬ (s.mac i).valid then some (excMacroUndefined, some 0)
        else if ¬ macroSeen s c i then some (excClassDenied, none)
        else none
      | _ => if isBranch m.dst ∧ r.delay.isSome then some (excDelaySlot, some 0) else none

/-! ## Effects of a destination -/

/-- What the destination of a move does: the state after it and where execution goes on; a state in which the move does not retire;
an exception with its fault address; a stall on the counter unit. -/
inductive Eff where
  | done (s : State) (fl : Flow)
  | hold (s : State)
  | fault (code : Nat) (addr : Word)
  | stall
  deriving DecidableEq, Repr

/-- An effect on the registers, with execution going on. -/
def State.onRegs (s : State) (c : Ctx) (f : Regs → Regs) : Eff := .done (s.modRegs c f) .seq

/-- LSU triggers (R133, R151, R170-R173). A load's value is read when it issues; one from flash arrives later (R143).
[DEDUCED, log 80] -/
def State.lsuTrigger (s : State) (c : Ctx) (p width : Nat) (v : Word) : Eff :=
  let r := s.regs c
  let a := if p = 0x192 ∨ p = 0x193 then r.lsu.base + v else v
  let n := if 0x194 ≤ p then 4 else widthBytes width
  let acc : Acc := if p = 0x190 ∨ p = 0x192 then .load else if p = 0x191 ∨ p = 0x193 then .store else .atomic
  match s.dataFault c a n acc with
  | some code => .fault code a
  | none =>
    let x := s.dataRead c a n
    let put (t : State) (v : Word) : Eff :=
      t.onRegs c fun y => { y with lsu := lsuLoad y.lsu { value := v, addr := a } (decide (flashEnd ≤ a.toNat)) }
    match acc with
    | .load => put x.2 (widen width (w32 x.1))
    | .store => .done (s.dataWrite c a (leBytes n r.lsu.sd.toNat)) .seq
    | .atomic =>
      let old := w32 x.1
      if p = 0x194 ∨ old = r.lsu.cmp then put (x.2.dataWrite c a (leBytes 4 r.lsu.sd.toNat)) old else put x.2 old

/-- The address of the move after a delay slot at `a` (R137). -/
def State.linkAddr (s : State) (c : Ctx) (held : Held) (a : Word) : Word :=
  a + (if mvForm (s.heldWord c held a) = 2 then 8 else 4)

/-- BR triggers (R137, R146, R160, R174). -/
def State.brTrigger (s : State) (c : Ctx) (p len : Nat) (v : Word) : Eff :=
  let r := s.regs c
  let t := if p = 0x1C3 ∨ p = 0x1C4 then r.pc + v else v
  if p = 0x1C2 then
    (if v.toNat % 4 ≠ 0 ∨ ¬ s.stackHolds c v.toNat false then .fault excHaltDouble 0 else .hold (s.eret c v))
  else if p = 0x1C1 ∨ p = 0x1C4 then
    .done (s.modRegs c fun x => setG x 31 (s.linkAddr c (s.preHold c len) (r.pc + w32 (4 * len)))) (.branch t)
  else .done s (.branch t)

/-- A send grant (R248, R250). -/
def State.sendGranted (s : State) (c : Ctx) (toKs : Bool) (m line : Nat) : Bool :=
  match c with
  | .keystone => !toKs || decide (16 ≤ line)
  | .cask n =>
    let k := s.cask n.toNat
    if toKs then k.toKs && decide (16 ≤ line)
    else m == n.toNat || (k.group != 0 && k.group == (s.cask m).group && bit (s.cask m).rxmask line)

/-- EVT.SEND (R175, R178, R248-R250). [DEDUCED, log 91] -/
def State.evtSend (s : State) (c : Ctx) (v : Word) : State :=
  let toKs := bit v 10
  let m := fld v 0 10
  let line := fld v 16 5
  let target : Ctx := if toKs then .keystone else .cask (BitVec.ofNat 10 m)
  let st : BitVec 2 := if ¬ s.sendGranted c toKs m line then 1 else if ¬ s.ctxLive target then 2 else 0
  let s1 := s.modRegs c fun r => { r with evt := { r.evt with sst := st } }
  if st = 0 then s1.raiseLine target line else s1

/-- EVT triggers (R175-R178). -/
def State.evtTrigger (s : State) (c : Ctx) (p : Nat) (v : Word) : Eff :=
  match p with
  | 0x210 => .done (s.waitFor c { kind := .wait, mask := v }) .seq
  | 0x211 => .done (s.waitFor c { kind := .waitc, mask := v }) .seq
  | 0x212 => .done (s.setPend c (s.pendOf c &&& ~~~ v)) .seq
  | _ => .done (s.evtSend c v) .seq

/-- TMR triggers (R179-R181). -/
def State.tmrTrigger (s : State) (c : Ctx) (p : Nat) (v : Word) : Eff :=
  let until32 (t : Word) : Eff := .done (s.waitFor c { kind := .time, target := t.setWidth 64 }) .seq
  match p with
  | 0x250 => until32 v
  | 0x251 => until32 (loW s.clk.time + (if v.toNat < 2 ^ 31 then v else 0x7FFFFFFF))
  | 0x252 => .done (s.waitFor c { kind := .time64, target := dword (s.regs c).tmr.thi v }) .seq
  | _ => s.onRegs c fun r => { r with tmr := { r.tmr with armed := true, target := v } }

/-- RPT.GO (R184, R186). -/
def State.rptGo (s : State) (c : Ctx) (len : Nat) (v : Word) : Eff :=
  let r := s.regs c
  if r.delay.isSome then s.onRegs c fun x => { x with rpt := { x.rpt with cnt := 0 } }
  else
    let words := if fld v 0 10 = 0 then 1024 else fld v 0 10
    let beg := r.pc + w32 (4 * len)
    let fin := beg + w32 (4 * words)
    .done (s.modRegs c fun x => { x with rpt := { x.rpt with cnt := r.rpt.n, beg := beg, fin := fin } })
      (if r.rpt.n = 0 then .jump fin else .seq)

/-- A STR trigger: it resumes the operation that OP names or starts afresh; LEN 0 completes it at once (R188, R189, R193).
[DEDUCED, log 85] -/
def State.strTrigger (s : State) (c : Ctx) (op : BitVec 3) (len : Nat) : Eff :=
  let x := (s.regs c).str
  let y : Str := if x.op = op then x else { x with op := op, r := false }
  if x.len = 0 then s.onRegs c fun r => { r with str := { y with op := 0, r := (op == 4 || op == 5) && y.r } }
  else
    let held := s.preHold c len
    .hold (s.modRegs c fun r => { r with window := held, str := { y with busy := true, long := len == 2 } })

/-- SYS triggers (R154, R195). -/
def State.sysTrigger (s : State) (c : Ctx) (p : Nat) (v : Word) : Eff :=
  match p with
  | 0x300 => .done s .sync
  | 0x301 => .fault excTrap v
  | _ => match c with
    | .keystone => .done s .seq
    | .cask n => .done (s.endSlice n.toNat) .seq

/-- The counter SEL names, the flag for a span counter of a cask's increment, or `none` where the context does not own it
(R196, R309, R310, R528). [DEDUCED, log 86] -/
def State.ctrSelected (s : State) (c : Ctx) (inc : Bool) : Option Nat :=
  let sel := (s.regs c).ctr.sel
  let i := fld sel 0 12
  match c with
  | .keystone =>
    if bit sel 15 then (if inc then none else some (spanCtr (fld sel 0 9)))
    else if inc ∧ ¬ (128 ≤ i ∧ i ≤ 255) then none
    else some i
  | .cask n =>
    if bit sel 15 then
      let g := s.spanRange n.toNat
      if s.granted c 11 ∧ i < g.2 then some (spanCtr (g.1 + i)) else none
    else s.caskCtr n.toNat i

/-- CTR triggers: refused at once, or an operation in flight; an increment of a span counter goes to the span (R196-R198, R529).
[DEDUCED, log 86] -/
def State.ctrTrigger (s : State) (c : Ctx) (inc : Option Nat) : Eff :=
  let fail (st : BitVec 3) : Eff := s.onRegs c fun r => { r with ctr := { r.ctr with st := st } }
  if (s.regs c).ctr.op.isSome then .stall
  else match s.ctrSelected c inc.isSome with
  | none => fail 2
  | some k => match inc with
    | none => s.onRegs c fun r => { r with ctr := { r.ctr with st := 1, op := some { counter := k } } }
    | some b =>
      if b < 1 ∨ 64 < b then fail 3
      else if spanCtr 0 ≤ k then .done (s.spanInc c (k - spanCtr 0) b) .seq
      else s.onRegs c fun r => { r with ctr := { r.ctr with st := 1, op := some { counter := k, inc := some b } } }

/-- Triggers of the engine units. -/
def State.engineTrigger (s : State) (c : Ctx) (p : Nat) : State :=
  match p with
  | 0x350 => s.cryGo c
  | 0x351 => s.cryCancel c
  | 0x390 => s.latGo c
  | 0x391 => s.latCancelJob c
  | 0x3D0 => s.lnkSubmit c
  | 0x3D1 => s.lnkCancel c
  | 0x410 => s.frmApply c
  | 0x411 => s.frmFlush c
  | 0x412 => s.frmRead c
  | _ => s

/-- The value `v` is written to destination port `p` by a move of `len` words: an RW port or a trigger (R139, R140). -/
def State.portWrite (s : State) (c : Ctx) (p width len : Nat) (v : Word) : Eff :=
  let n := ctxNum c
  if within p 0x110 0x126 then s.onRegs c fun r => { r with alu := aluRun (aluOps.getD (p - 0x110) .add) r.alu v }
  else if within p 0x150 0x152 then s.onRegs c fun r => { r with mul := mulRun (mulOps.getD (p - 0x150) .s) r.mul v }
  else if within p 0x190 0x195 then s.lsuTrigger c p width v
  else if isBranch p then s.brTrigger c p len v
  else if within p 0x210 0x213 then s.evtTrigger c p v
  else if within p 0x250 0x253 then s.tmrTrigger c p v
  else if p = 0x290 then s.rptGo c len v
  else if within p 0x2D0 0x2D5 then s.strTrigger c (BitVec.ofNat 3 (p - 0x2CF)) len
  else if p = 0x300 ∨ p = 0x301 ∨ p = 0x30A then s.sysTrigger c p v
  else if p = 0x450 then s.ctrTrigger c none
  else if p = 0x451 then s.ctrTrigger c (some v.toNat)
  else if within p 0x340 0x34B then .done (s.setCry n (cryWrite (s.cry n) p v)) .seq
  else if within p 0x380 0x38A then .done (s.setLat n (latPortWrite (s.latPage n) p v)) .seq
  else if within p 0x3C0 0x3C5 then .done (s.setLnk n (lnkWrite (s.lnkPage n) p v)) .seq
  else if within p 0x400 0x407 then .done (s.setFrm n (frmWrite (s.frmPage n) p v)) .seq
  else if 0x340 ≤ p ∧ p < 0x440 then .done (s.engineTrigger c p) .seq
  else s.onRegs c fun r => coreWrite r c p v

/-! ## Issue (R130, R134, R135, R149-R158) -/

/-- WIDTH converts the value, but for the loads and stores whose access it selects (R132, R133, R170). -/
def converts (p : Nat) : Bool := !within p 0x190 0x193

/-- A move reads its source: a port, an immediate value, or a port whose value runs through a macro (R131, R205). -/
def State.mvRead (s : State) (c : Ctx) : MvSrc → SrcRes
  | .port p => s.portRead c p
  | .value v => .value v s none
  | .mac p i => match s.portRead c p with
    | .value v t e => .value (macroOut (s.macUops i) (getG (s.regs c)) v) t e
    | x => x

/-- A move that passed its checks and executes: source, conversion or macro, destination; data faults rank before MEM_ECC, and that
before TRAP (R156). -/
def State.execMv (s : State) (c : Ctx) (m : Mv) : State :=
  match s.mvRead c m.src with
  | .stall t => t
  | .value v t ecc =>
    let x := if converts m.dst then widen m.width v else v
    match t.portWrite c m.dst m.width m.len x with
    | .fault code a =>
      if code = excTrap ∨ code = excHaltDouble then
        match ecc with
        | some e => s.takeException c excMemEcc 0 e
        | none => s.takeException c code 0 a
      else s.takeException c code 0 a
    | e => match ecc with
      | some a => s.takeException c excMemEcc 0 a
      | none => match e with
        | .done u fl => s.retire u c m.len fl
        | .hold u => u
        | _ => s.ctrStall c

/-- A move issues: its encoding checks whether or not its guard passes, then its guard, then its execution.
[DESIGN CHOICE, log 77] -/
def State.issueMv (s : State) (c : Ctx) (m : Mv) : State :=
  match s.encFault c m with
  | some (code, some port) => s.takeException c code port 0
  | some (code, none) => s.drawNat.2.takeException c code (s.drawNat.1 % 4096) 0
  | none => if guardOk (getG (s.regs c)) m.guard then s.execMv c m else s.retire s c m.len .seq

/-- The words at PC are fetched and issue (R149-R156, R163). `ecc0` and `ecc1` mark an uncorrectable error in either word. -/
def State.fetchMv (s : State) (c : Ctx) (ecc0 ecc1 : Bool) : State :=
  let r := s.regs c
  let h := windowOf r
  let w := s.heldWord c h r.pc
  if ¬ s.fetchOk c r.pc ∨ ecc0 then s.takeException c excFetchFault 0 r.pc
  else if mvForm w = 2 ∧ (¬ s.fetchOk c (r.pc + 4) ∨ ecc1) then s.takeException c excFetchFault 0 (r.pc + 4)
  else match moveOf w (s.heldWord c h (r.pc + 4)) with
    | .error code => s.takeException c code 0 0
    | .ok m => s.issueMv c m

/-- The context may issue, or is a resident cask whose wait may end as it issues (R177, R216, R251). -/
def State.canRun (s : State) (c : Ctx) : Bool :=
  s.canIssue c || match c with
    | .keystone => false
    | .cask n =>
      let k := s.cask n.toNat
      s.schedules && !s.frozen && !k.leaving && k.state == .waiting && (k.slot.any fun j => s.coreOn (slotCore j))

/-- The watchdog of TEST_OPEN and ANALYSIS starts when the keystone issues its first move (R87). [DEDUCED, log 26] -/
def State.wdogFirst (s : State) (c : Ctx) : State :=
  if c = .keystone ∧ s.labState ∧ ¬ s.pwr.wdogRunning then
    { s with pwr := { s.pwr with wdogRunning := true, wdogFrom := s.clk.time } }
  else s

/-- What comes before a move: a wait that is over ends, an event is delivered, a wait in force or a string operation holds the
context. `ok` the state in which a move issues, `error` the state in which none does. [DEDUCED, log 2, 78] -/
def State.ready (s : State) (c : Ctx) : Except State State :=
  let w := (s.regs c).wait
  if ¬ s.canRun c then .error s
  else if w.kind = .ctr then .error s
  else if w.kind ≠ .none ∧ ¬ s.waitOver c then .error (s.setWaiting c)
  else
    let s1 := ((if w.kind = .none then s else s.endWait c w) : State).setRunning c
    match s1.evtLine c with
    | some l => .error (s1.deliver c l)
    | none => if (s1.regs c).str.busy then .error s1 else .ok (s1.wdogFirst c)

/-- A move of a context, where one issues now. [DEDUCED, log 2] -/
def State.onMove (s : State) (c : Ctx) (f : State → State) : Host.Outcome State Fault Refusal :=
  .next (match s.ready c with
    | .error t => t
    | .ok t => f (t.freshFetch c))

/-- MOVE_ISSUE: the context's next move, from the words at its PC. -/
def execMoveIssue (c : Ctx) (ecc0 ecc1 : Bool) (s : State) : Host.Outcome State Fault Refusal :=
  s.onMove c fun t => t.fetchMv c ecc0 ecc1

/-- MACRO_MOVE: a macro move at PC (R131, R205). [DEDUCED, log 84] -/
def execMacroMove (c : Ctx) (src : BitVec 12) (index : BitVec 6) (rd : BitVec 5) (s : State) :
    Host.Outcome State Fault Refusal :=
  s.onMove c fun t => t.issueMv c { src := .mac src.toNat index.toNat, dst := rd.toNat }

/-- RNG_W_READ: `RNG.W -> rd` at PC. [DEDUCED, log 84] -/
def execRngWRead (c : Ctx) (rd : BitVec 5) (s : State) : Host.Outcome State Fault Refusal :=
  s.onMove c fun t => t.issueMv c { src := .port 0x480, dst := rd.toNat }

/-- A one-word move at PC of the value `b` into port `p`. [DEDUCED, log 84] -/
def State.trigger (s : State) (c : Ctx) (p width : Nat) (b : Word) : Host.Outcome State Fault Refusal :=
  s.onMove c fun t => t.issueMv c { src := .value b, width := width, dst := p }

/-! ## Rows of the ALU and MUL triggers (R166-R169) -/

/-- ALU_ADD. -/
def execAluAdd (c : Ctx) (b : Word) (s : State) : Host.Outcome State Fault Refusal := s.trigger c 0x110 0 b

/-- ALU_SUB. -/
def execAluSub (c : Ctx) (b : Word) (s : State) : Host.Outcome State Fault Refusal := s.trigger c 0x111 0 b

/-- ALU_ADDC. -/
def execAluAddc (c : Ctx) (b : Word) (s : State) : Host.Outcome State Fault Refusal := s.trigger c 0x112 0 b

/-- ALU_SUBB. -/
def execAluSubb (c : Ctx) (b : Word) (s : State) : Host.Outcome State Fault Refusal := s.trigger c 0x113 0 b

/-- ALU_AND. -/
def execAluAnd (c : Ctx) (b : Word) (s : State) : Host.Outcome State Fault Refusal := s.trigger c 0x114 0 b

/-- ALU_OR. -/
def execAluOr (c : Ctx) (b : Word) (s : State) : Host.Outcome State Fault Refusal := s.trigger c 0x115 0 b

/-- ALU_XOR. -/
def execAluXor (c : Ctx) (b : Word) (s : State) : Host.Outcome State Fault Refusal := s.trigger c 0x116 0 b

/-- ALU_ANDN. -/
def execAluAndn (c : Ctx) (b : Word) (s : State) : Host.Outcome State Fault Refusal := s.trigger c 0x117 0 b

/-- ALU_SHL. -/
def execAluShl (c : Ctx) (b : Word) (s : State) : Host.Outcome State Fault Refusal := s.trigger c 0x118 0 b

/-- ALU_SHR. -/
def execAluShr (c : Ctx) (b : Word) (s : State) : Host.Outcome State Fault Refusal := s.trigger c 0x119 0 b

/-- ALU_SAR. -/
def execAluSar (c : Ctx) (b : Word) (s : State) : Host.Outcome State Fault Refusal := s.trigger c 0x11A 0 b

/-- ALU_ROR. -/
def execAluRor (c : Ctx) (b : Word) (s : State) : Host.Outcome State Fault Refusal := s.trigger c 0x11B 0 b

/-- ALU_CLZ. -/
def execAluClz (c : Ctx) (b : Word) (s : State) : Host.Outcome State Fault Refusal := s.trigger c 0x11C 0 b

/-- ALU_POPC. -/
def execAluPopc (c : Ctx) (b : Word) (s : State) : Host.Outcome State Fault Refusal := s.trigger c 0x11D 0 b

/-- ALU_MIN. -/
def execAluMin (c : Ctx) (b : Word) (s : State) : Host.Outcome State Fault Refusal := s.trigger c 0x11E 0 b

/-- ALU_MAX. -/
def execAluMax (c : Ctx) (b : Word) (s : State) : Host.Outcome State Fault Refusal := s.trigger c 0x11F 0 b

/-- ALU_EQ. -/
def execAluEq (c : Ctx) (b : Word) (s : State) : Host.Outcome State Fault Refusal := s.trigger c 0x120 0 b

/-- ALU_NE. -/
def execAluNe (c : Ctx) (b : Word) (s : State) : Host.Outcome State Fault Refusal := s.trigger c 0x121 0 b

/-- ALU_LT. -/
def execAluLt (c : Ctx) (b : Word) (s : State) : Host.Outcome State Fault Refusal := s.trigger c 0x122 0 b

/-- ALU_LTU. -/
def execAluLtu (c : Ctx) (b : Word) (s : State) : Host.Outcome State Fault Refusal := s.trigger c 0x123 0 b

/-- ALU_GE. -/
def execAluGe (c : Ctx) (b : Word) (s : State) : Host.Outcome State Fault Refusal := s.trigger c 0x124 0 b

/-- ALU_GEU. -/
def execAluGeu (c : Ctx) (b : Word) (s : State) : Host.Outcome State Fault Refusal := s.trigger c 0x125 0 b

/-- ALU_BIT. -/
def execAluBit (c : Ctx) (b : Word) (s : State) : Host.Outcome State Fault Refusal := s.trigger c 0x126 0 b

/-- MUL_S. -/
def execMulS (c : Ctx) (b : Word) (s : State) : Host.Outcome State Fault Refusal := s.trigger c 0x150 0 b

/-- MUL_U. -/
def execMulU (c : Ctx) (b : Word) (s : State) : Host.Outcome State Fault Refusal := s.trigger c 0x151 0 b

/-- MUL_MACS. -/
def execMulMacs (c : Ctx) (b : Word) (s : State) : Host.Outcome State Fault Refusal := s.trigger c 0x152 0 b

/-! ## Rows of the LSU (R170-R173) -/

/-- LSU_LD, WIDTH selecting the access. -/
def execLsuLd (c : Ctx) (w : Width) (b : Word) (s : State) : Host.Outcome State Fault Refusal := s.trigger c 0x190 (widthCode w) b

/-- LSU_ST, WIDTH selecting the access. -/
def execLsuSt (c : Ctx) (w : Width) (b : Word) (s : State) : Host.Outcome State Fault Refusal := s.trigger c 0x191 (widthCode w) b

/-- LSU_LDX, WIDTH selecting the access. -/
def execLsuLdx (c : Ctx) (w : Width) (b : Word) (s : State) : Host.Outcome State Fault Refusal := s.trigger c 0x192 (widthCode w) b

/-- LSU_STX, WIDTH selecting the access. -/
def execLsuStx (c : Ctx) (w : Width) (b : Word) (s : State) : Host.Outcome State Fault Refusal := s.trigger c 0x193 (widthCode w) b

/-- LSU_SWP. -/
def execLsuSwp (c : Ctx) (b : Word) (s : State) : Host.Outcome State Fault Refusal := s.trigger c 0x194 0 b

/-- LSU_CAS. -/
def execLsuCas (c : Ctx) (b : Word) (s : State) : Host.Outcome State Fault Refusal := s.trigger c 0x195 0 b

/-! ## Rows of BR, EVT, TMR, RPT, STR, SYS and CTR (R174-R198) -/

/-- BR_J. -/
def execBrJ (c : Ctx) (b : Word) (s : State) : Host.Outcome State Fault Refusal := s.trigger c 0x1C0 0 b

/-- BR_CALL. -/
def execBrCall (c : Ctx) (b : Word) (s : State) : Host.Outcome State Fault Refusal := s.trigger c 0x1C1 0 b

/-- BR_ERET. -/
def execBrEret (c : Ctx) (b : Word) (s : State) : Host.Outcome State Fault Refusal := s.trigger c 0x1C2 0 b

/-- BR_REL. -/
def execBrRel (c : Ctx) (b : Word) (s : State) : Host.Outcome State Fault Refusal := s.trigger c 0x1C3 0 b

/-- BR_CALLR. -/
def execBrCallr (c : Ctx) (b : Word) (s : State) : Host.Outcome State Fault Refusal := s.trigger c 0x1C4 0 b

/-- EVT_WAIT. -/
def execEvtWait (c : Ctx) (b : Word) (s : State) : Host.Outcome State Fault Refusal := s.trigger c 0x210 0 b

/-- EVT_WAITC. -/
def execEvtWaitc (c : Ctx) (b : Word) (s : State) : Host.Outcome State Fault Refusal := s.trigger c 0x211 0 b

/-- EVT_CLR. -/
def execEvtClr (c : Ctx) (b : Word) (s : State) : Host.Outcome State Fault Refusal := s.trigger c 0x212 0 b

/-- EVT_SEND. -/
def execEvtSend (c : Ctx) (b : Word) (s : State) : Host.Outcome State Fault Refusal := s.trigger c 0x213 0 b

/-- TMR_UNTIL. -/
def execTmrUntil (c : Ctx) (b : Word) (s : State) : Host.Outcome State Fault Refusal := s.trigger c 0x250 0 b

/-- TMR_AFTER. -/
def execTmrAfter (c : Ctx) (b : Word) (s : State) : Host.Outcome State Fault Refusal := s.trigger c 0x251 0 b

/-- TMR_UNTIL64. -/
def execTmrUntil64 (c : Ctx) (b : Word) (s : State) : Host.Outcome State Fault Refusal := s.trigger c 0x252 0 b

/-- TMR_ALRM. -/
def execTmrAlrm (c : Ctx) (b : Word) (s : State) : Host.Outcome State Fault Refusal := s.trigger c 0x253 0 b

/-- RPT_GO. -/
def execRptGo (c : Ctx) (b : Word) (s : State) : Host.Outcome State Fault Refusal := s.trigger c 0x290 0 b

/-- RPT_CNT_WRITE. -/
def execRptCntWrite (c : Ctx) (b : Word) (s : State) : Host.Outcome State Fault Refusal := s.trigger c 0x281 0 b

/-- STR_COPY; the moved value is ignored. -/
def execStrCopy (c : Ctx) (s : State) : Host.Outcome State Fault Refusal := s.trigger c 0x2D0 0 0

/-- STR_COPYD; the moved value is ignored. -/
def execStrCopyd (c : Ctx) (s : State) : Host.Outcome State Fault Refusal := s.trigger c 0x2D1 0 0

/-- STR_FILL; the moved value is ignored. -/
def execStrFill (c : Ctx) (s : State) : Host.Outcome State Fault Refusal := s.trigger c 0x2D2 0 0

/-- STR_CMP; the moved value is ignored. -/
def execStrCmp (c : Ctx) (s : State) : Host.Outcome State Fault Refusal := s.trigger c 0x2D3 0 0

/-- STR_CMPCT; the moved value is ignored. -/
def execStrCmpct (c : Ctx) (s : State) : Host.Outcome State Fault Refusal := s.trigger c 0x2D4 0 0

/-- STR_SCAN; the moved value is ignored. -/
def execStrScan (c : Ctx) (s : State) : Host.Outcome State Fault Refusal := s.trigger c 0x2D5 0 0

/-- SYS_SYNC. -/
def execSysSync (c : Ctx) (s : State) : Host.Outcome State Fault Refusal := s.trigger c 0x300 0 0

/-- SYS_TRAP. -/
def execSysTrap (c : Ctx) (b : Word) (s : State) : Host.Outcome State Fault Refusal := s.trigger c 0x301 0 b

/-- SYS_YIELD. -/
def execSysYield (c : Ctx) (s : State) : Host.Outcome State Fault Refusal := s.trigger c 0x30A 0 0

/-- SYS_CONSENT_WRITE. -/
def execSysConsentWrite (c : Ctx) (b : Word) (s : State) : Host.Outcome State Fault Refusal := s.trigger c 0x308 0 b

/-- CTR_READ. -/
def execCtrRead (c : Ctx) (s : State) : Host.Outcome State Fault Refusal := s.trigger c 0x450 0 0

/-- CTR_INC. -/
def execCtrInc (c : Ctx) (b : Word) (s : State) : Host.Outcome State Fault Refusal := s.trigger c 0x451 0 b

/-! ## Load data (R143) -/

/-- The data of the oldest load on its way arrives, in the visible result `r` and the loads `l`; `ecc` marks an uncorrectable error.
With none on its way, an error marks the oldest load not yet visible. [DEDUCED, log 79] -/
def arrive (ecc : Bool) (r : LoadRes) (l : List PendLoad) : Lsu :=
  let mark (x : LoadRes) : LoadRes := { x with ecc := x.ecc || ecc }
  lsuSettle { r := r, pend := if l.any (!·.arrived) then lsuArrive mark l else match l with
    | [] => []
    | x :: xs => { x with res := mark x.res } :: xs }

/-- The registers after an arrival: a load set aside by an exception is older than those of its handler (R145). -/
def arriveRegs (ecc : Bool) (r : Regs) : Regs :=
  match r.aside.filter fun x => x.lpend.any (!·.arrived) with
  | some x =>
    let u := arrive ecc x.r x.lpend
    { r with aside := some { x with r := u.r, lpend := u.pend } }
  | none =>
    let u := arrive ecc r.lsu.r r.lsu.pend
    { r with lsu := { r.lsu with r := u.r, pend := u.pend } }

/-- LOAD_DATA_ARRIVAL. [DEDUCED, log 80] -/
def execLoadDataArrival (c : Ctx) (ecc : Bool) (s : State) : Host.Outcome State Fault Refusal :=
  .next (if s.alive then s.modRegs c (arriveRegs ecc) else s)

/-! ## Ends of waits and alarms (R177, R181, R182, R217, R253) -/

/-- A cask becomes READY by a line that ends its wait, with the boost that line gives it (R253, R255). -/
def readyBy (now : Time) (lines : Word) (k : Cask) : Cask :=
  let boosts : Bool := lines != 0 && k.slot.isNone && !k.boostUsed && !k.boosted
  { k with state := .ready, boosted := k.boosted || boosts, boostAt := if boosts then now else k.boostAt }

/-- A wait that has ended: the cask is RUNNING in a slot, READY elsewhere or when frozen; a READY cask keeps the wait until it
issues, and then sees GOT or WHY. -/
def State.waitDone (s : State) (c : Ctx) : State :=
  let w := (s.regs c).wait
  match c with
  | .keystone => s.endWait c w
  | .cask n =>
    let k := s.cask n.toNat
    if k.state ≠ .waiting then s
    else if k.slot.isSome ∧ ¬ k.leaving ∧ ¬ s.frozen then (s.endWait c w).setRunning c
    else
      let mask := if w.kind = .wait ∨ w.kind = .waitc then w.mask else k.regs.tmr.wmask
      s.modCask n.toNat (readyBy s.clk.time (k.pend &&& k.boostMask &&& mask))

/-- EVT_WAIT_END: the condition of a wait in force holds, or an event is to be delivered (R176, R177, R253). -/
def execEvtWaitEnd (c : Ctx) (s : State) : Host.Outcome State Fault Refusal :=
  .next (if s.alive ∧ s.waitOver c then s.waitDone c else s)

/-- TIMED_WAIT_END: at TIME `now` a timed wait's target is reached (R179, R182). -/
def execTimedWaitEnd (c : Ctx) (now : Time) (s : State) : Host.Outcome State Fault Refusal :=
  .next (let s1 := s.atTime now
    if s.alive ∧ s1.timeUp (s1.regs c).wait then s1.waitDone c else s)

/-- TMR_ALARM_FIRE: at TIME `now` an armed alarm's target is reached (R181). -/
def execTmrAlarmFire (c : Ctx) (now : Time) (s : State) : Host.Outcome State Fault Refusal :=
  .next (let s1 := s.atTime now
    let t := (s1.regs c).tmr
    if s.alive ∧ t.armed ∧ reached32 (loW s1.clk.time) t.target then
      let s2 := s1.modRegs c fun r => { r with tmr := { r.tmr with armed := false } }
      if bit t.aline 8 then s2.raiseLine c (fld t.aline 0 5) else s2
    else s)

/-! ## Counter operations (R302, R306-R308) -/

/-- The value a READ returns; counters 3-127 read 0 (R308). [DEDUCED, log 86] -/
def State.ctrReadVal (s : State) (k : Nat) : Option Nat := if within k 3 127 then some 0 else ctrVal (s.ctr k)

/-- CTR_OP_DONE: the context's counter operation completes; `fault` is a failure of the NVM. -/
def execCtrOpDone (c : Ctx) (fault : Bool) (s : State) : Host.Outcome State Fault Refusal :=
  .next (if ¬ s.alive then s
    else match (s.regs c).ctr.op.filter (!·.span) with
    | none => s
    | some op => match op.inc with
      | none => match s.ctrReadVal op.counter with
        | none => (s.ksLine lineNvm).ctrFinish c 5 none
        | some v => if fault then s.ctrFinish c 5 none else s.ctrFinish c 0 (some v)
      | some b => match s.ctrAdd op.counter b fault with
        | (.ok v, t) => t.ctrFinish c 0 (some v)
        | (.atMax, t) => t.ctrFinish c 4 none
        | (.nvmFault, t) => t.ctrFinish c 5 none)

end Sys2Proof.Machine
end

