-- ==== Sys2Proof/Machine/Parity.lean ====
section
/-! DEFINITION. Parity errors of press pipelines (R344-R347). -/

namespace Sys2Proof.Machine

open Sys2Proof

/-- PRESS_FAULT and keystone line 13 (R344, R345, R348). -/
def State.pressFault (s : State) (page pipe : Nat) : State :=
  ({ s with press := { s.press with
    faultPage := BitVec.ofNat 11 page, faultPipe := BitVec.ofNat 4 pipe, faultCount := satAdd1 s.press.faultCount,
    faultNew := true } } : State).ksLine lineEngineFault

/-- The job of page `n` meets a parity error: what it has written becomes 0, how much that is being free; the page is in the reset
state with PARITY, and the job completes (R344). [DEDUCED, log 112] -/
def State.cryParity (s : State) (n : Nat) (j : PressJob) : State :=
  let out := match cryOutput j with
    | .ok (o, _) => if mStaged j.mode then [] else o
    | .error _ => []
  let d := s.drawNat
  let k := j.written + 16 * (d.1 % ((out.length - j.written) / 16 + 1))
  let s1 := d.2.engineWrite (ctxOf n) j.dst.toNat (zeros k)
  (s1.cryComplete n j 11 0).setCry n { result := 11 }

/-- PRESS_PARITY_ERROR: the job on the pipeline ends, and the pipeline is tested (R344-R346). -/
def execPressParityError (pipe : Fin 16) (s : State) : Host.Outcome State Fault Refusal :=
  .next (let p := pipe.val
    if ¬ s.alive then s
    else match (s.pipeAt p).use with
    | .idle => s
    | .page n =>
      match (s.cry n).job with
      | none => s
      | some j => (((s.pipeFault p).cryParity n j).pressFault n p).pressGo
    | .frame =>
      match s.frame.segs.findIdx? fun g => g.pipe == some p with
      | none => s
      | some i =>
        let r := match s.frame.segs[i]? with
          | some g => g.region.toNat
          | none => 0
        (((s.segFail i r 8).pipeFault p).pressFault 0x7FE p).pressGo)

end Sys2Proof.Machine
end

