-- ==== Sys2Proof/Machine/Strings.lean ====
section
/-! DEFINITION. A step of a string operation (R188-R194). -/

namespace Sys2Proof.Machine

open Sys2Proof

/-- The address of byte `i` of a step from address `a`: ascending, or descending from one past the last byte (R188). -/
def strAddr (down : Bool) (a : Word) (i : Nat) : Word := if down then a - w32 (i + 1) else a + w32 i

/-- The accesses of byte `i`: address and kind, source before destination. -/
def strAccess (x : Str) (i : Nat) : List (Word × Acc) :=
  let src := strAddr (x.op == 2) x.src i
  let dst := strAddr (x.op == 2) x.dst i
  match x.op.toNat with
  | 1 | 2 => [(src, .load), (dst, .store)]
  | 3 => [(dst, .store)]
  | 4 | 5 => [(src, .load), (dst, .load)]
  | _ => [(src, .load)]

/-- The first of the accesses of `n` bytes that faults: its code and address (R191, R192). -/
def State.strFault (s : State) (c : Ctx) (x : Str) (n : Nat) : Option (Nat × Word) :=
  ((List.range n).flatMap (strAccess x)).findSome? fun e => (s.dataFault c e.1 1 e.2).map fun code => (code, e.1)

/-- A byte read by a string operation. -/
def State.strByte (s : State) (c : Ctx) (a : Word) : Byte := BitVec.ofNat 8 (s.dataRead c a 1).1

/-- Byte `i` stops the operation: a difference of CMP, a match of SCAN. -/
def State.strStops (s : State) (c : Ctx) (x : Str) (i : Nat) : Bool :=
  (x.op == 4 && s.strByte c (strAddr false x.src i) != s.strByte c (strAddr false x.dst i)) ||
  (x.op == 6 && s.strByte c (strAddr false x.src i) == x.val)

/-- One byte of COPY, COPYD or FILL is written, as if bytes were handled one at a time (R190). -/
def State.strPut (c : Ctx) (x : Str) (s : State) (i : Nat) : State :=
  let dst := strAddr (x.op == 2) x.dst i
  match x.op.toNat with
  | 1 | 2 => s.dataWrite c dst [s.strByte c (strAddr (x.op == 2) x.src i)]
  | 3 => s.dataWrite c dst [x.val]
  | _ => s

/-- The ports after `n` bytes (R188, R189). -/
def strAdvance (x : Str) (n : Nat) (differ : Bool) : Str :=
  let d (a : Word) : Word := if x.op = 2 then a - w32 n else a + w32 n
  { x with
    src := if x.op = 3 then x.src else d x.src
    dst := if x.op = 6 then x.dst else d x.dst
    len := x.len - w32 n
    r := x.r || differ }

/-- A step of at most `n` bytes: it faults and writes nothing, or shows its progress; at the end the trigger move retires.
[DEDUCED, log 85] -/
def State.strStep (s : State) (c : Ctx) (n : Nat) : State :=
  let x := (s.regs c).str
  let m := min n x.len.toNat
  let stop := (List.range m).find? (s.strStops c x)
  let touched := match stop with
    | some i => i + 1
    | none => m
  match s.strFault c x touched with
  | some (code, a) => s.takeException c code 0 a
  | none =>
    let differ := x.op == 5 && (List.range m).any fun i =>
      s.strByte c (strAddr false x.src i) != s.strByte c (strAddr false x.dst i)
    let s1 := (List.range m).foldl (State.strPut c x) s
    let y := strAdvance x (stop.getD m) (differ || stop.isSome)
    let ended : Bool := stop.isSome || y.len == 0
    let s2 := s1.modRegs c fun r =>
      { r with str := if ended then { y with op := 0, busy := false } else y }
    if ended then s.retire s2 c (if x.long then 2 else 1) .seq else s2

/-- STRING_STEP: a step of up to `n` + 1 bytes of the operation that holds the context (R191). [DEDUCED, log 85] -/
def execStringStep (c : Ctx) (n : Fin 8) (s : State) : Host.Outcome State Fault Refusal :=
  .next (if s.canIssue c ∧ (s.regs c).str.busy then s.strStep c (n.val + 1) else s)

end Sys2Proof.Machine
end

