-- ==== Sys2Proof/Machine/Dispatch.lean ====
section
/-! DEFINITION. The dispatch of each command to its meaning, one arm per constructor of `Instr`. -/

namespace Sys2Proof.Machine

def exec (i : Instr) (s : State) : Host.Outcome State Fault Refusal :=
  match i with
  | .registerWrite who addr value => Sys2Proof.Machine.execRegisterWrite who addr value s
  | .tapIdcode => Sys2Proof.Machine.execTapIdcode s
  | .tapBypass opcode => Sys2Proof.Machine.execTapBypass opcode s
  | .tapSamplePreload bits => Sys2Proof.Machine.execTapSamplePreload bits s
  | .tapExtest bits => Sys2Proof.Machine.execTapExtest bits s
  | .tapLcStatus => Sys2Proof.Machine.execTapLcStatus s
  | .lcProvision digests => Sys2Proof.Machine.execLcProvision digests s
  | .lcToken dr => Sys2Proof.Machine.execLcToken dr s
  | .lcLock => Sys2Proof.Machine.execLcLock s
  | .lcPersonalise digest => Sys2Proof.Machine.execLcPersonalise digest s
  | .lcScrap => Sys2Proof.Machine.execLcScrap s
  | .dbgCert cert => Sys2Proof.Machine.execDbgCert cert s
  | .certVerifyDone => Sys2Proof.Machine.execCertVerifyDone s
  | .debugSessionExpiry => Sys2Proof.Machine.execDebugSessionExpiry s
  | .dbgClose => Sys2Proof.Machine.execDbgClose s
  | .dbgAccessRead target addr => Sys2Proof.Machine.execDbgAccessRead target addr s
  | .dbgAccessWrite target addr data => Sys2Proof.Machine.execDbgAccessWrite target addr data s
  | .dbgAccessHalt target addr => Sys2Proof.Machine.execDbgAccessHalt target addr s
  | .dbgAccessResume target addr data => Sys2Proof.Machine.execDbgAccessResume target addr data s
  | .dbgCtrlAdvance => Sys2Proof.Machine.execDbgCtrlAdvance s
  | .dbgCtrlClose => Sys2Proof.Machine.execDbgCtrlClose s
  | .dbgCtrlPresent => Sys2Proof.Machine.execDbgCtrlPresent s
  | .lcsCmdAnalysis => Sys2Proof.Machine.execLcsCmdAnalysis s
  | .lcsCmdScrap => Sys2Proof.Machine.execLcsCmdScrap s
  | .wipeChunkEraseDone => Sys2Proof.Machine.execWipeChunkEraseDone s
  | .powerOnReset bank33 => Sys2Proof.Machine.execPowerOnReset bank33 s
  | .refclkArrival => Sys2Proof.Machine.execRefclkArrival s
  | .corePllLock => Sys2Proof.Machine.execCorePllLock s
  | .clockBaselineDone => Sys2Proof.Machine.execClockBaselineDone s
  | .bootSequence pufOk rngOk => Sys2Proof.Machine.execBootSequence pufOk rngOk s
  | .resetnAssert => Sys2Proof.Machine.execResetnAssert s
  | .pwrCmdCold => Sys2Proof.Machine.execPwrCmdCold s
  | .pwrCmdWarm => Sys2Proof.Machine.execPwrCmdWarm s
  | .windDownEnd => Sys2Proof.Machine.execWindDownEnd s
  | .watchdogExpiry => Sys2Proof.Machine.execWatchdogExpiry s
  | .pwrWdogKick value => Sys2Proof.Machine.execPwrWdogKick value s
  | .pwrCmdActive => Sys2Proof.Machine.execPwrCmdActive s
  | .pwrCmdIdle => Sys2Proof.Machine.execPwrCmdIdle s
  | .pwrCmdHold => Sys2Proof.Machine.execPwrCmdHold s
  | .pwrCmdSleep => Sys2Proof.Machine.execPwrCmdSleep s
  | .pwrCmdOff => Sys2Proof.Machine.execPwrCmdOff s
  | .powerChangeDone => Sys2Proof.Machine.execPowerChangeDone s
  | .wakeTimeReached now => Sys2Proof.Machine.execWakeTimeReached now s
  | .gpioWakeEdge pin rising => Sys2Proof.Machine.execGpioWakeEdge pin rising s
  | .spiCsWake => Sys2Proof.Machine.execSpiCsWake s
  | .i2cAddressWake => Sys2Proof.Machine.execI2cAddressWake s
  | .pcieL1Exit => Sys2Proof.Machine.execPcieL1Exit s
  | .mainPowerLoss => Sys2Proof.Machine.execMainPowerLoss s
  | .clkForceOffWrite reg value => Sys2Proof.Machine.execClkForceOffWrite reg value s
  | .forceOffDone dom => Sys2Proof.Machine.execForceOffDone dom s
  | .clockDomainIdle dom => Sys2Proof.Machine.execClockDomainIdle dom s
  | .supplyWindowEvent supply => Sys2Proof.Machine.execSupplyWindowEvent supply s
  | .vddioWindowEvent bank => Sys2Proof.Machine.execVddioWindowEvent bank s
  | .supplyGlitch supply => Sys2Proof.Machine.execSupplyGlitch supply s
  | .clockMissing => Sys2Proof.Machine.execClockMissing s
  | .clockFrequencyEvent => Sys2Proof.Machine.execClockFrequencyEvent s
  | .pllGlitch lossOfLock => Sys2Proof.Machine.execPllGlitch lossOfLock s
  | .lightEvent sensor => Sys2Proof.Machine.execLightEvent sensor s
  | .tempLimitEvent sensor reading => Sys2Proof.Machine.execTempLimitEvent sensor reading s
  | .tempWarning sensor reading => Sys2Proof.Machine.execTempWarning sensor reading s
  | .meshEvent line short => Sys2Proof.Machine.execMeshEvent line short s
  | .l3VaultEraseDone => Sys2Proof.Machine.execL3VaultEraseDone s
  | .coldHoldQuietTimer => Sys2Proof.Machine.execColdHoldQuietTimer s
  | .tampCtrlThaw => Sys2Proof.Machine.execTampCtrlThaw s
  | .tampCtrlMapLock => Sys2Proof.Machine.execTampCtrlMapLock s
  | .tampCtrlRaise level => Sys2Proof.Machine.execTampCtrlRaise level s
  | .tampMapWrite value => Sys2Proof.Machine.execTampMapWrite value s
  | .alarmClear => Sys2Proof.Machine.execAlarmClear s
  | .vbatLatchSet latch => Sys2Proof.Machine.execVbatLatchSet latch s
  | .tamperLogWrite => Sys2Proof.Machine.execTamperLogWrite s
  | .moveIssue c ecc0 ecc1 => Sys2Proof.Machine.execMoveIssue c ecc0 ecc1 s
  | .macroMove c src index rd => Sys2Proof.Machine.execMacroMove c src index rd s
  | .loadDataArrival c ecc => Sys2Proof.Machine.execLoadDataArrival c ecc s
  | .aluAdd c b => Sys2Proof.Machine.execAluAdd c b s
  | .aluSub c b => Sys2Proof.Machine.execAluSub c b s
  | .aluAddc c b => Sys2Proof.Machine.execAluAddc c b s
  | .aluSubb c b => Sys2Proof.Machine.execAluSubb c b s
  | .aluAnd c b => Sys2Proof.Machine.execAluAnd c b s
  | .aluOr c b => Sys2Proof.Machine.execAluOr c b s
  | .aluXor c b => Sys2Proof.Machine.execAluXor c b s
  | .aluAndn c b => Sys2Proof.Machine.execAluAndn c b s
  | .aluShl c b => Sys2Proof.Machine.execAluShl c b s
  | .aluShr c b => Sys2Proof.Machine.execAluShr c b s
  | .aluSar c b => Sys2Proof.Machine.execAluSar c b s
  | .aluRor c b => Sys2Proof.Machine.execAluRor c b s
  | .aluClz c b => Sys2Proof.Machine.execAluClz c b s
  | .aluPopc c b => Sys2Proof.Machine.execAluPopc c b s
  | .aluMin c b => Sys2Proof.Machine.execAluMin c b s
  | .aluMax c b => Sys2Proof.Machine.execAluMax c b s
  | .aluEq c b => Sys2Proof.Machine.execAluEq c b s
  | .aluNe c b => Sys2Proof.Machine.execAluNe c b s
  | .aluLt c b => Sys2Proof.Machine.execAluLt c b s
  | .aluLtu c b => Sys2Proof.Machine.execAluLtu c b s
  | .aluGe c b => Sys2Proof.Machine.execAluGe c b s
  | .aluGeu c b => Sys2Proof.Machine.execAluGeu c b s
  | .aluBit c b => Sys2Proof.Machine.execAluBit c b s
  | .mulS c b => Sys2Proof.Machine.execMulS c b s
  | .mulU c b => Sys2Proof.Machine.execMulU c b s
  | .mulMacs c b => Sys2Proof.Machine.execMulMacs c b s
  | .lsuLd c w b => Sys2Proof.Machine.execLsuLd c w b s
  | .lsuSt c w b => Sys2Proof.Machine.execLsuSt c w b s
  | .lsuLdx c w b => Sys2Proof.Machine.execLsuLdx c w b s
  | .lsuStx c w b => Sys2Proof.Machine.execLsuStx c w b s
  | .lsuSwp c b => Sys2Proof.Machine.execLsuSwp c b s
  | .lsuCas c b => Sys2Proof.Machine.execLsuCas c b s
  | .brJ c b => Sys2Proof.Machine.execBrJ c b s
  | .brCall c b => Sys2Proof.Machine.execBrCall c b s
  | .brEret c b => Sys2Proof.Machine.execBrEret c b s
  | .brRel c b => Sys2Proof.Machine.execBrRel c b s
  | .brCallr c b => Sys2Proof.Machine.execBrCallr c b s
  | .evtWait c b => Sys2Proof.Machine.execEvtWait c b s
  | .evtWaitc c b => Sys2Proof.Machine.execEvtWaitc c b s
  | .evtClr c b => Sys2Proof.Machine.execEvtClr c b s
  | .evtSend c b => Sys2Proof.Machine.execEvtSend c b s
  | .evtWaitEnd c => Sys2Proof.Machine.execEvtWaitEnd c s
  | .tmrUntil c b => Sys2Proof.Machine.execTmrUntil c b s
  | .tmrAfter c b => Sys2Proof.Machine.execTmrAfter c b s
  | .tmrUntil64 c b => Sys2Proof.Machine.execTmrUntil64 c b s
  | .tmrAlrm c b => Sys2Proof.Machine.execTmrAlrm c b s
  | .timedWaitEnd c now => Sys2Proof.Machine.execTimedWaitEnd c now s
  | .tmrAlarmFire c now => Sys2Proof.Machine.execTmrAlarmFire c now s
  | .rptGo c b => Sys2Proof.Machine.execRptGo c b s
  | .rptCntWrite c b => Sys2Proof.Machine.execRptCntWrite c b s
  | .strCopy c => Sys2Proof.Machine.execStrCopy c s
  | .strCopyd c => Sys2Proof.Machine.execStrCopyd c s
  | .strFill c => Sys2Proof.Machine.execStrFill c s
  | .strCmp c => Sys2Proof.Machine.execStrCmp c s
  | .strCmpct c => Sys2Proof.Machine.execStrCmpct c s
  | .strScan c => Sys2Proof.Machine.execStrScan c s
  | .stringStep c n => Sys2Proof.Machine.execStringStep c n s
  | .sysSync c => Sys2Proof.Machine.execSysSync c s
  | .sysTrap c b => Sys2Proof.Machine.execSysTrap c b s
  | .sysYield c => Sys2Proof.Machine.execSysYield c s
  | .sysConsentWrite c b => Sys2Proof.Machine.execSysConsentWrite c b s
  | .ctrRead c => Sys2Proof.Machine.execCtrRead c s
  | .ctrInc c b => Sys2Proof.Machine.execCtrInc c b s
  | .ctrOpDone c fault => Sys2Proof.Machine.execCtrOpDone c fault s
  | .rngWRead c rd => Sys2Proof.Machine.execRngWRead c rd s
  | .decMacWrite index value => Sys2Proof.Machine.execDecMacWrite index value s
  | .decUcodeWrite entry value => Sys2Proof.Machine.execDecUcodeWrite entry value s
  | .caskEnable => Sys2Proof.Machine.execCaskEnable s
  | .caskDisable => Sys2Proof.Machine.execCaskDisable s
  | .caskResume => Sys2Proof.Machine.execCaskResume s
  | .caskReset => Sys2Proof.Machine.execCaskReset s
  | .caskWipe => Sys2Proof.Machine.execCaskWipe s
  | .caskDrainDone n => Sys2Proof.Machine.execCaskDrainDone n s
  | .caskWipeEraseDone n => Sys2Proof.Machine.execCaskWipeEraseDone n s
  | .backgroundEraseDone => Sys2Proof.Machine.execBackgroundEraseDone s
  | .caskWinWrite offset value => Sys2Proof.Machine.execCaskWinWrite offset value s
  | .caskCtlWrite n value => Sys2Proof.Machine.execCaskCtlWrite n value s
  | .contextSwapOutDone slot => Sys2Proof.Machine.execContextSwapOutDone slot s
  | .contextSwapInDone slot => Sys2Proof.Machine.execContextSwapInDone slot s
  | .schedWindowStart now => Sys2Proof.Machine.execSchedWindowStart now s
  | .sliceEnd slot => Sys2Proof.Machine.execSliceEnd slot s
  | .vaultGenerate c r => Sys2Proof.Machine.execVaultGenerate c r s
  | .vaultImport c r => Sys2Proof.Machine.execVaultImport c r s
  | .vaultExport c r => Sys2Proof.Machine.execVaultExport c r s
  | .vaultDerive c r => Sys2Proof.Machine.execVaultDerive c r s
  | .vaultDestroy c r => Sys2Proof.Machine.execVaultDestroy c r s
  | .vaultInfo c r => Sys2Proof.Machine.execVaultInfo c r s
  | .vaultRequestDone => Sys2Proof.Machine.execVaultRequestDone s
  | .pageWrite c r => Sys2Proof.Machine.execPageWrite c r s
  | .pageWriteDone ok => Sys2Proof.Machine.execPageWriteDone ok s
  | .nvmAllocSect arg0 arg1 => Sys2Proof.Machine.execNvmAllocSect arg0 arg1 s
  | .nvmAllocCtr arg0 arg1 => Sys2Proof.Machine.execNvmAllocCtr arg0 arg1 s
  | .nvmComplete => Sys2Proof.Machine.execNvmComplete s
  | .nvmRawRead arg0 => Sys2Proof.Machine.execNvmRawRead arg0 s
  | .nvmCtrGen arg0 => Sys2Proof.Machine.execNvmCtrGen arg0 s
  | .nvmCmdDone => Sys2Proof.Machine.execNvmCmdDone s
  | .vaultRetest => Sys2Proof.Machine.execVaultRetest s
  | .rngHealthFail => Sys2Proof.Machine.execRngHealthFail s
  | .rngRetestTimer pass => Sys2Proof.Machine.execRngRetestTimer pass s
  | .drbgReseed => Sys2Proof.Machine.execDrbgReseed s
  | .cryCtrEncrypt c mode => Sys2Proof.Machine.execCryCtrEncrypt c mode s
  | .cryCtrDecrypt c mode => Sys2Proof.Machine.execCryCtrDecrypt c mode s
  | .cryGcmEncrypt c mode => Sys2Proof.Machine.execCryGcmEncrypt c mode s
  | .cryGcmDecrypt c mode => Sys2Proof.Machine.execCryGcmDecrypt c mode s
  | .cryXtsEncrypt c mode => Sys2Proof.Machine.execCryXtsEncrypt c mode s
  | .cryXtsDecrypt c mode => Sys2Proof.Machine.execCryXtsDecrypt c mode s
  | .cryCmacGenerate c mode => Sys2Proof.Machine.execCryCmacGenerate c mode s
  | .cryCmacVerify c mode => Sys2Proof.Machine.execCryCmacVerify c mode s
  | .cryKwWrap c mode => Sys2Proof.Machine.execCryKwWrap c mode s
  | .cryKwUnwrap c mode => Sys2Proof.Machine.execCryKwUnwrap c mode s
  | .cryKwpWrap c mode => Sys2Proof.Machine.execCryKwpWrap c mode s
  | .cryKwpUnwrap c mode => Sys2Proof.Machine.execCryKwpUnwrap c mode s
  | .cryCancel c => Sys2Proof.Machine.execCryCancel c s
  | .pressNonceReserved c => Sys2Proof.Machine.execPressNonceReserved c s
  | .pressStagingSlotFree => Sys2Proof.Machine.execPressStagingSlotFree s
  | .pressBurstLimit c => Sys2Proof.Machine.execPressBurstLimit c s
  | .pressJobDone c => Sys2Proof.Machine.execPressJobDone c s
  | .pressParityError pipe => Sys2Proof.Machine.execPressParityError pipe s
  | .pressPipeTestDone pipe pass => Sys2Proof.Machine.execPressPipeTestDone pipe pass s
  | .latImport c op => Sys2Proof.Machine.execLatImport c op s
  | .latExport c op => Sys2Proof.Machine.execLatExport c op s
  | .latFree c op => Sys2Proof.Machine.execLatFree c op s
  | .latCopy c op => Sys2Proof.Machine.execLatCopy c op s
  | .latKeygen c op => Sys2Proof.Machine.execLatKeygen c op s
  | .latEncrypt c op => Sys2Proof.Machine.execLatEncrypt c op s
  | .latDecrypt c op => Sys2Proof.Machine.execLatDecrypt c op s
  | .latAdd c op => Sys2Proof.Machine.execLatAdd c op s
  | .latSub c op => Sys2Proof.Machine.execLatSub c op s
  | .latNeg c op => Sys2Proof.Machine.execLatNeg c op s
  | .latPadd c op => Sys2Proof.Machine.execLatPadd c op s
  | .latPsub c op => Sys2Proof.Machine.execLatPsub c op s
  | .latPmul c op => Sys2Proof.Machine.execLatPmul c op s
  | .latCmul c op => Sys2Proof.Machine.execLatCmul c op s
  | .latMul c op => Sys2Proof.Machine.execLatMul c op s
  | .latRotate c op => Sys2Proof.Machine.execLatRotate c op s
  | .latDrop c op => Sys2Proof.Machine.execLatDrop c op s
  | .latRefresh c op => Sys2Proof.Machine.execLatRefresh c op s
  | .latCancel c => Sys2Proof.Machine.execLatCancel c s
  | .latFusedStepEnd lane => Sys2Proof.Machine.execLatFusedStepEnd lane s
  | .latJobDone c => Sys2Proof.Machine.execLatJobDone c s
  | .vatEccError granule => Sys2Proof.Machine.execVatEccError granule s
  | .laneFault lane => Sys2Proof.Machine.execLaneFault lane s
  | .laneTestDone lane pass => Sys2Proof.Machine.execLaneTestDone lane pass s
  | .kemKeygen c r => Sys2Proof.Machine.execKemKeygen c r s
  | .kemEncaps c r => Sys2Proof.Machine.execKemEncaps c r s
  | .kemDecaps c r => Sys2Proof.Machine.execKemDecaps c r s
  | .dsaKeygen c r => Sys2Proof.Machine.execDsaKeygen c r s
  | .dsaSign c r => Sys2Proof.Machine.execDsaSign c r s
  | .dsaVerify c r => Sys2Proof.Machine.execDsaVerify c r s
  | .ecKeygen c r => Sys2Proof.Machine.execEcKeygen c r s
  | .ecSign c r => Sys2Proof.Machine.execEcSign c r s
  | .ecVerify c r => Sys2Proof.Machine.execEcVerify c r s
  | .ecAgree c r => Sys2Proof.Machine.execEcAgree c r s
  | .pkeRequestDone => Sys2Proof.Machine.execPkeRequestDone s
  | .linkCfgWrite l value => Sys2Proof.Machine.execLinkCfgWrite l value s
  | .linkCtrlTrain l => Sys2Proof.Machine.execLinkCtrlTrain l s
  | .linkCtrlDown l => Sys2Proof.Machine.execLinkCtrlDown l s
  | .linkCtrlRetrain l => Sys2Proof.Machine.execLinkCtrlRetrain l s
  | .laneCalDone l => Sys2Proof.Machine.execLaneCalDone l s
  | .laneLock l inverted => Sys2Proof.Machine.execLaneLock l inverted s
  | .trainingSet l set => Sys2Proof.Machine.execTrainingSet l set s
  | .laneTrainTimeout l => Sys2Proof.Machine.execLaneTrainTimeout l s
  | .retrainAttemptTimeout l => Sys2Proof.Machine.execRetrainAttemptTimeout l s
  | .ack l vc seq => Sys2Proof.Machine.execAck l vc seq s
  | .nak l vc seq => Sys2Proof.Machine.execNak l vc seq s
  | .stamp l param now => Sys2Proof.Machine.execStamp l param now s
  | .retrain l => Sys2Proof.Machine.execRetrain l s
  | .ackTimer l vc => Sys2Proof.Machine.execAckTimer l vc s
  | .replayTimer l vc => Sys2Proof.Machine.execReplayTimer l vc s
  | .creditTimeout l vc => Sys2Proof.Machine.execCreditTimeout l vc s
  | .lnkGo c => Sys2Proof.Machine.execLnkGo c s
  | .lnkCancel c => Sys2Proof.Machine.execLnkCancel c s
  | .lnkRequestTimeout c => Sys2Proof.Machine.execLnkRequestTimeout c s
  | .rsp l p => Sys2Proof.Machine.execRsp l p s
  | .req l p => Sys2Proof.Machine.execReq l p s
  | .presencePulse l => Sys2Proof.Machine.execPresencePulse l s
  | .passRestartTimer l => Sys2Proof.Machine.execPassRestartTimer l s
  | .discoveryStart l => Sys2Proof.Machine.execDiscoveryStart l s
  | .searchSequence l tiles => Sys2Proof.Machine.execSearchSequence l tiles s
  | .confirmSequence l reply => Sys2Proof.Machine.execConfirmSequence l reply s
  | .unstableRetryTimer l => Sys2Proof.Machine.execUnstableRetryTimer l s
  | .stuckLowDetect l => Sys2Proof.Machine.execStuckLowDetect l s
  | .stuckLowCheck l high => Sys2Proof.Machine.execStuckLowCheck l high s
  | .enumRsp l p => Sys2Proof.Machine.execEnumRsp l p s
  | .pong l p => Sys2Proof.Machine.execPong l p s
  | .linkChange l p => Sys2Proof.Machine.execLinkChange l p s
  | .authResp l p => Sys2Proof.Machine.execAuthResp l p s
  | .authVerifyDone l addr => Sys2Proof.Machine.execAuthVerifyDone l addr s
  | .authDone l p => Sys2Proof.Machine.execAuthDone l p s
  | .senseRsp l p => Sys2Proof.Machine.execSenseRsp l p s
  | .limitAck l p => Sys2Proof.Machine.execLimitAck l p s
  | .mgmtTimeout l addr => Sys2Proof.Machine.execMgmtTimeout l addr s
  | .authRetryTimer l addr => Sys2Proof.Machine.execAuthRetryTimer l addr s
  | .tileCmdDiscover l => Sys2Proof.Machine.execTileCmdDiscover l s
  | .tileCmdForget l => Sys2Proof.Machine.execTileCmdForget l s
  | .tileCmdReauth l addr => Sys2Proof.Machine.execTileCmdReauth l addr s
  | .tileMakerWrite m offset value => Sys2Proof.Machine.execTileMakerWrite m offset value s
  | .loopStart n r => Sys2Proof.Machine.execLoopStart n r s
  | .loopStop n r => Sys2Proof.Machine.execLoopStop n r s
  | .limit n r => Sys2Proof.Machine.execLimit n r s
  | .loopTick n now => Sys2Proof.Machine.execLoopTick n now s
  | .frameCfgWrite value => Sys2Proof.Machine.execFrameCfgWrite value s
  | .framePeriodWrite value => Sys2Proof.Machine.execFramePeriodWrite value s
  | .frameBoundary now => Sys2Proof.Machine.execFrameBoundary now s
  | .frameInEdge now wide => Sys2Proof.Machine.execFrameInEdge now wide s
  | .frameInTimeout now => Sys2Proof.Machine.execFrameInTimeout now s
  | .frameDeadline => Sys2Proof.Machine.execFrameDeadline s
  | .regionWrite r offset value => Sys2Proof.Machine.execRegionWrite r offset value s
  | .dataPacket l p => Sys2Proof.Machine.execDataPacket l p s
  | .segmentDecryptDone => Sys2Proof.Machine.execSegmentDecryptDone s
  | .fack l p => Sys2Proof.Machine.execFack l p s
  | .playCounterCommit r fault => Sys2Proof.Machine.execPlayCounterCommit r fault s
  | .playTallyAdd r => Sys2Proof.Machine.execPlayTallyAdd r s
  | .frmApply c => Sys2Proof.Machine.execFrmApply c s
  | .frmFlush c => Sys2Proof.Machine.execFrmFlush c s
  | .frmRead c => Sys2Proof.Machine.execFrmRead c s
  | .spanEnable => Sys2Proof.Machine.execSpanEnable s
  | .spanDisable => Sys2Proof.Machine.execSpanDisable s
  | .hello l seq m => Sys2Proof.Machine.execHello l seq m s
  | .helloAck l seq m => Sys2Proof.Machine.execHelloAck l seq m s
  | .helloTimeout l => Sys2Proof.Machine.execHelloTimeout l s
  | .helloRetryTimer l => Sys2Proof.Machine.execHelloRetryTimer l s
  | .alive l seq m => Sys2Proof.Machine.execAlive l seq m s
  | .aliveTimer => Sys2Proof.Machine.execAliveTimer s
  | .peerLostTimeout peer => Sys2Proof.Machine.execPeerLostTimeout peer s
  | .stampMeasureTimer now => Sys2Proof.Machine.execStampMeasureTimer now s
  | .timeRsp l seq m => Sys2Proof.Machine.execTimeRsp l seq m s
  | .timeRspTimeout => Sys2Proof.Machine.execTimeRspTimeout s
  | .holdoverExpiry => Sys2Proof.Machine.execHoldoverExpiry s
  | .schedule l seq m => Sys2Proof.Machine.execSchedule l seq m s
  | .reportReq l seq m => Sys2Proof.Machine.execReportReq l seq m s
  | .report l seq m => Sys2Proof.Machine.execReport l seq m s
  | .epochNew l seq m => Sys2Proof.Machine.execEpochNew l seq m s
  | .incReq l seq m => Sys2Proof.Machine.execIncReq l seq m s
  | .propose l seq m => Sys2Proof.Machine.execPropose l seq m s
  | .vote l seq m => Sys2Proof.Machine.execVote l seq m s
  | .commit l seq m => Sys2Proof.Machine.execCommit l seq m s
  | .done l seq m => Sys2Proof.Machine.execDone l seq m s
  | .incRsp l seq m => Sys2Proof.Machine.execIncRsp l seq m s
  | .spanIncTimeout c => Sys2Proof.Machine.execSpanIncTimeout c s
  | .keys l seq m => Sys2Proof.Machine.execKeys l seq m s
  | .keyDel l seq m => Sys2Proof.Machine.execKeyDel l seq m s
  | .spanCmdPush => Sys2Proof.Machine.execSpanCmdPush s
  | .pcieBar0Access offset size write => Sys2Proof.Machine.execPcieBar0Access offset size write s
  | .h2cWrite page value => Sys2Proof.Machine.execH2cWrite page value s
  | .c2hWrite page value => Sys2Proof.Machine.execC2hWrite page value s
  | .msixOwedSend vector => Sys2Proof.Machine.execMsixOwedSend vector s
  | .pcieLinkUp rate width => Sys2Proof.Machine.execPcieLinkUp rate width s
  | .pcieLinkDown => Sys2Proof.Machine.execPcieLinkDown s
  | .pcieFlr => Sys2Proof.Machine.execPcieFlr s
  | .perstnAssert => Sys2Proof.Machine.execPerstnAssert s
  | .spiWriteFrame quad bytes => Sys2Proof.Machine.execSpiWriteFrame quad bytes s
  | .spiReadStatus => Sys2Proof.Machine.execSpiReadStatus s
  | .spiReadResponse => Sys2Proof.Machine.execSpiReadResponse s
  | .spiCsRise => Sys2Proof.Machine.execSpiCsRise s
  | .i2cWriteTransaction addr bytes => Sys2Proof.Machine.execI2cWriteTransaction addr bytes s
  | .i2cReadTransaction => Sys2Proof.Machine.execI2cReadTransaction s
  | .i2cStuckTimeout => Sys2Proof.Machine.execI2cStuckTimeout s
  | .status via f => Sys2Proof.Machine.execStatus via f s
  | .ident via f => Sys2Proof.Machine.execIdent via f s
  | .pubkeys via f => Sys2Proof.Machine.execPubkeys via f s
  | .mbWrite via f => Sys2Proof.Machine.execMbWrite via f s
  | .mbRead via f => Sys2Proof.Machine.execMbRead via f s
  | .ring via f => Sys2Proof.Machine.execRing via f s
  | .poll via f => Sys2Proof.Machine.execPoll via f s
  | .stage via f => Sys2Proof.Machine.execStage via f s
  | .ownClaim via f => Sys2Proof.Machine.execOwnClaim via f s
  | .imageReplace via f => Sys2Proof.Machine.execImageReplace via f s
  | .claimResetTimer => Sys2Proof.Machine.execClaimResetTimer s
  | .resetnRelease => Sys2Proof.Machine.execResetnRelease s
  | .sensorEpisodeEnd cls source => Sys2Proof.Machine.execSensorEpisodeEnd cls source s
  | .frameOutPulseEnd => Sys2Proof.Machine.execFrameOutPulseEnd s
  | .tileReencryptDone l addr offset => Sys2Proof.Machine.execTileReencryptDone l addr offset s
  | .authEphemeralKeygenDone l addr => Sys2Proof.Machine.execAuthEphemeralKeygenDone l addr s
  | .spanPushDone => Sys2Proof.Machine.execSpanPushDone s
  | .devicePageResponseRead => Sys2Proof.Machine.execDevicePageResponseRead s
  | .discardedPacket l => Sys2Proof.Machine.execDiscardedPacket l s

end Sys2Proof.Machine
end

