-- ==== Sys2Proof/Machine/Step.lean ====
section
/-! DEFINITION. One step of the block: the command at the front of the queue, or a tick of TIME when none waits. -/

namespace Sys2Proof.Machine

open Sys2Proof

/-- On an empty queue TIME counts one tick, as span discipline slews it (R69, R521). -/
def State.idle (s : State) : State :=
  let t := s.slewTick
  t.2.advance t.1

/-- Takes the command at the front and runs it with the queue's rest; on an empty queue, a tick.
[DEDUCED, log 5; DESIGN CHOICE, log 1, 58] -/
def step (s : State) : Host.Outcome State Fault Refusal :=
  match s.pending with
  | [] => .next s.idle
  | c :: rest => exec c { s with pending := rest }

/-- `s` with the command that the word spells put at the front of its queue. [DEDUCED, log 3] -/
def State.withFetchWord (s : State) (nbits w : Nat) : State :=
  match decodeTableWord nbits w with
  | some c => { s with pending := c :: s.pending }
  | none => s

end Sys2Proof.Machine
end

