-- ==== Sys2Proof/Safety.lean ====
section
/-! DEFINITION. What a state of the block keeps whatever it is commanded, and when a move issues and what it leaves alone, in the words
the statements use. -/

namespace Sys2Proof.Machine

open Sys2Proof

/-- The memory is in its canonical form: addresses strictly rising, and no entry that an unlisted address reads as. -/
abbrev State.memOk (s : State) : Prop := Memory.wf s.mem = true

/-- The keys of a table rise strictly: each is listed once. -/
def keysRise {α : Type} (t : Tab α) : Prop := t.Pairwise fun a b => a.1 < b.1

/-- The tables by page, region and tile list each key once. -/
structure State.tabsOk (s : State) : Prop where
  casks   : keysRise s.casks
  press   : keysRise s.press.pages
  regions : keysRise s.frame.regions
  lat     : keysRise s.lat.pages
  lnk     : keysRise s.lnk
  tiles   : keysRise s.tile.tiles

/-- Every domain listed may be forced off (R97). -/
def allForcible (l : List Nat) : Prop := ∀ d ∈ l, forcible d = true

/-- What every step keeps: the memory and the tables stay canonical, and only forcible domains are forced off (R77, R97). -/
structure State.Inv (s : State) : Prop where
  mem    : s.memOk
  tabs   : s.tabsOk
  forced : allForcible s.clk.forceOff

/-! ## Course counters -/

/-- A counter record no change of which is in flight: the base of generation `g` in the place of its parity, an older one or none in the
other, TAG `g`, and `k` PROGRAMMED cells before ERASED ones (R302-R304). -/
structure CtrRec.clean (r : CtrRec) (g : Word) (v k : Nat) : Prop where
  cells : k ≤ 64 ∧ ∀ i, i < 64 → ctrCell r i = if i < k then .programmed else .erased
  base  : ∃ b : CBase, (if bit g 0 then r.base1 else r.base0) = some b ∧ b.gen = g ∧ b.value.toNat + k = v
  old   : ∀ b : CBase, (if bit g 0 then r.base0 else r.base1) = some b → b.gen.toNat < g.toNat
  tag   : r.tag = some g

/-! ## Moves -/

/-- The next move of `c` issues now: the context may issue, no wait, stall or string operation holds it, and no event line is to be
delivered first (R177, R189, R216, R251). -/
structure State.issues (s : State) (c : Ctx) : Prop where
  may   : s.canIssue c = true
  free  : (s.regs c).wait.kind = .none
  event : s.evtLine c = none
  str   : (s.regs c).str.busy = false

/-- Nothing but the contexts has changed, of the other contexts no register, and no line (PWR may hold the start of the keystone's
watchdog, R87; `stale` and `draw` are the model's own record of code words not yet seen and its count of free values, logs 81 and 7). -/
def State.onlyMoved (s t : State) (c : Ctx) : Prop :=
  t = { s with casks := t.casks, ks := t.ks, pwr := t.pwr, stale := t.stale, draw := t.draw } ∧
  ∀ d, (d ≠ c → t.regs d = s.regs d) ∧ t.pendOf d = s.pendOf d

/-- The registers `r` after a move that goes on in order: only PC, prefetch window, the repeat count, the count of moves and the ages of
products and loads differ; `r'` gives PC, window and count (R142, R144, R149, R185, R195). -/
def Regs.goesOn (r r' : Regs) : Regs :=
  { r with pc := r'.pc, window := r'.window, winValid := r'.winValid, delay := none, rpt := { r.rpt with cnt := r'.rpt.cnt }
           sys := { r.sys with moves := r.sys.moves + 1 }, mul := mulTick r.mul, lsu := lsuTick r.lsu }

/-- A one-word move outside a delay slot and a repeat leads to the next word. -/
def Regs.inOrder (r r' : Regs) : Prop := r.delay = none → r.rpt.cnt = 0 → r'.pc = r.pc + 4

/-- What a one-word move of `c` that goes on in order leaves: its registers are `r`, aged by one move, and nothing else has changed. -/
def State.movesTo (s t : State) (c : Ctx) (r : Regs) : Prop :=
  s.onlyMoved t c ∧ t.regs c = r.goesOn (t.regs c) ∧ (s.regs c).inOrder (t.regs c)

/-- A cell of SRAM range: `n` bytes from `a`. -/
abbrev inSram (a : Word) (n : Nat) : Prop := sramBase ≤ a.toNat ∧ a.toNat + n ≤ sramBase + sramSize

/-! ## Span messages -/

/-- A span message with MTYPE `mtype` arrives in sequence on VC 0 of a span lane that is UP, and its MAC passes (R414, R418, R514). -/
structure State.spanArrives (s : State) (l : Lane) (seq : BitVec 12) (mtype : Byte) (m : SpanMsg) : Prop where
  up   : (tget s.lanes l.val {}).state = .up
  vcs  : 0 < (tget s.lanes l.val {}).v
  fits : 12 + m.body.length + m.mac.length ≤ 1024
  seq  : seq = ((tget s.lanes l.val {}).vcAt 0).exp
  role : (tget s.lanes l.val {}).role = 3
  on   : s.span.state ≠ .off
  mac  : ∃ k, s.spanMsgKey = some k ∧ m.mac = (cmac k (spanHead mtype m)).take 8

/-- The message is taken: the member is not EXCLUDED, the link authenticated, TTL not 0, the sender another member, and its number not
seen before (R515, R517). -/
structure State.spanNew (s : State) (l : Lane) (m : SpanMsg) : Prop where
  admitted : s.span.state ≠ .excluded
  link  : l.val ∈ s.spanLanes
  ttl   : m.ttl ≠ 0
  other : m.src.toNat ≠ s.ownId
  src   : m.src.toNat < 64
  fresh : (m.src.toNat, m.epoch, m.mseq) ∉ s.span.seen

/-- What every message taken leaves in the span unit: its number noted, its sender heard (R515, R518, R519). -/
def State.heardFrom (s : State) (l : Lane) (m : SpanMsg) : State :=
  let p := tget s.span.peers m.src.toNat {}
  let st : PeerState := if p.state = .absent ∨ p.state = .lost ∨ p.state = .authFail then .linked else p.state
  let q : Peer := { p with state := st, epoch := m.epoch }
  let r : Peer := if m.dst = 0xFF then { q with lane := BitVec.ofNat 4 l.val, hops := BitVec.ofNat 6 (64 - m.ttl.toNat) } else q
  { s with span := { s.span with
    seen := (m.src.toNat, m.epoch, m.mseq) :: s.span.seen, peers := tset s.span.peers m.src.toNat r
    via := if m.dst = 0xFF then tset s.span.via m.src.toNat l.val else s.span.via } }

/-- The message is for this member. -/
def State.spanMine (s : State) (m : SpanMsg) : Prop := m.dst = 0xFF ∨ m.dst.toNat = s.ownId

/-- In `t` a message of the member `s`, with TTL 63, its EPOCH and a MAC, waits or has gone out on VC 0 of lane `k` (R514). -/
def State.tells (s t : State) (k : Nat) (mtype : Byte) (dst : Nat) (body : Bytes) : Prop :=
  ∃ q ∈ ((tget t.lanes k {}).vcAt 0).queue ++ ((tget t.lanes k {}).vcAt 0).replay, ∃ (key : Bytes) (n : Word),
    s.spanMsgKey = some key ∧ q.typ = .span ∧
    q.body = spanHead mtype { src := byte s.ownId, dst := byte dst, ttl := 63, epoch := s.epochNow, mseq := n, body := body } ++
      (cmac key (spanHead mtype { src := byte s.ownId, dst := byte dst, ttl := 63, epoch := s.epochNow, mseq := n, body := body })).take 8

/-! ## Hosts -/

/-- A cold reset can begin at once, and has been performed in `t` (R84, R85, R561). -/
structure State.resetFree (s : State) : Prop where
  clock : s.clk.refclk = true
  pin   : s.pwr.resetnLow = false
  wind  : s.tamp.wind = none
  life  : s.life.toPending = none
  lanes : s.anyEgressUp = false
def State.coldReset (s t : State) : Prop :=
  t.pwr.resetCause = s.pwr.resetCause ||| 0x04 ∧ t.pwr.booting = true ∧ t.ks.running = false ∧ t.casks = []

/-- The host doorbell of page `n` has been written with `v`: value and count of that page alone, DB_LINE of its cask when DB_EN is 1, or
HOST_EVT.KS_DB with keystone line 12 (R548). -/
structure State.rung (s t : State) (n : Nat) (v : Word) : Prop where
  page  : t.pageIf n = { s.pageIf n with h2c := v, h2cCnt := (s.pageIf n).h2cCnt + 1 }
  other : ∀ m, m ≤ 1024 → m ≠ n → t.pageIf m = s.pageIf m
  evt   : t.host.evt = if n = 1024 then s.host.evt ||| 0x08 else s.host.evt
  ks    : t.ks = if n = 1024 then { s.ks with pend := s.ks.pend ||| oneHot 12 } else s.ks
  line  : ∀ c : BitVec 10, t.regs (.cask c) = s.regs (.cask c) ∧ t.pendOf (.cask c) =
    if c.toNat = n ∧ bit (s.cask n).hostCfg 5 = true then s.pendOf (.cask c) ||| oneHot (fld (s.cask n).hostCfg 0 5)
    else s.pendOf (.cask c)

/-- MSI-X vector `v` has been requested: it coalesces when owed, leaves when nothing of R545 holds it back, and else becomes owed. -/
def State.vectorAsked (s t : State) (v : Nat) : Prop :=
  if v ∈ s.host.owed then t.out = s.out ∧ t.host.owed = s.host.owed
  else if s.host.up = true ∧ s.host.bme = true ∧ s.host.msixEn = true ∧ v ∈ s.host.unmasked then
    t.out = .msix v :: s.out ∧ t.host.owed = s.host.owed
  else t.out = s.out ∧ t.host.owed = s.host.owed ++ [v]

/-- A command frame as a host writes it (R552). -/
def commandFrame (cmd : Byte) (f : V1Frame) : Bytes :=
  let head := [0xA5, cmd] ++ leBytes 2 f.target.toNat ++ leBytes 2 f.payload.length ++ leBytes 2 f.seq.toNat ++ f.payload
  head ++ leBytes 2 (crc16 head).toNat

/-- In `t` the response to `f`, with its STATUS and payload, is readable on the path it came from: held by the port, or in the device page
with SEQ in C2H; an unread response of SPI or I2C was lost and counted (R552, R556, R559). -/
structure State.answers (s t : State) (via : HostVia) (f : V1Frame) (status : Byte) (payload : Bytes) : Prop where
  frame : let head := [0x5A, status] ++ leBytes 2 f.target.toNat ++ leBytes 2 payload.length ++ leBytes 2 f.seq.toNat ++ payload
    let whole := head ++ leBytes 2 (crc16 head).toNat
    match via with
    | .spi => t.host.spi = { s.host.spi with resp := some whole } ∧ t.host.i2c = s.host.i2c ∧ t.out = s.out ∧
      t.host.owed = s.host.owed
    | .i2c => t.host.i2c = { s.host.i2c with resp := some whole } ∧ t.host.spi = s.host.spi ∧ t.out = s.out ∧
      t.host.owed = s.host.owed
    | .pcie => t.host.spi = s.host.spi ∧ t.host.i2c = s.host.i2c ∧ s.vectorAsked t 1024 ∧
      (∀ k, k < whole.length → tget t.host.devMem (0x800 + k) 0 = whole.getD k 0) ∧
      t.host.devPage = { s.host.devPage with c2h := f.seq.zeroExtend 32, c2hCnt := s.host.devPage.c2hCnt + 1 }
  lost : t.host.cntLost = if via = .spi ∧ s.host.spi.resp.isSome = true ∨ via = .i2c ∧ s.host.i2c.resp.isSome = true then
      satAdd1 s.host.cntLost else s.host.cntLost

/-- Only the ports that carry responses have changed: the two targets, the device page with its vector, and the count of lost responses. -/
def State.onlyAnswered (s t : State) : Prop :=
  t = { s with host := { s.host with spi := t.host.spi, i2c := t.host.i2c, devMem := t.host.devMem, devPage := t.host.devPage
                                     owed := t.host.owed, cntLost := t.host.cntLost }
               out := t.out }

end Sys2Proof.Machine
end

