-- ==== Sys2Proof/Certificates/Slice0/Obligations.lean ====
section
/-! DEFINITION. The statements about the model, chapter by chapter. A clause `exec c s = .next t` says that the command completes in `t`;
a clause `t = { s with f := t.f }` after it is the frame: every field of State but those named is as before. -/

open Sys2Proof Sys2Proof.Machine

/-- For every command c and state s, the step of s with c at the front of its queue is exec of c on s with the queue's rest. With no command waiting, one 10 ns tick passes (the model's choice, log entry 58): TIME counts one, or none or two where span discipline slews it, and nothing but TIME, the casks' budgets and ages, and the slew changes. -/
def Obligations.StepRunsFront : Prop :=
  (∀ (s : State) (c : Instr) (rest : List Instr), step { s with pending := c :: rest } = exec c { s with pending := rest }) ∧
  ∀ s : State, s.pending = [] → ∃ t, step s = .next t ∧
    t = { s with clk := { s.clk with time := t.clk.time }, casks := t.casks
                 span := { s.span with slewWait := t.span.slewWait, correction := t.span.correction } } ∧
    (∀ c : Ctx, t.regs c = s.regs c ∧ t.pendOf c = s.pendOf c) ∧
    (s.timeCounts = false → t.clk.time = s.clk.time ∧ t.casks = s.casks) ∧
    (s.timeCounts = true → t.clk.time = s.clk.time +
      (if s.span.slewWait ≠ 0 ∨ s.span.locked = false ∨ s.span.correction = 0 then 1 else if 0 < s.span.correction then 2 else 0))

/-- After reset no command waits, memory and every table list nothing, the life cycle is BLANK at debug level BSCAN with BYPASS in the TAP, no keystone runs, no cask is enabled, every lane is DOWN, and the identification, power, tamper, scheduler, press, lattice, tile and host registers read their reset values of the spec. The invariant that every step keeps holds. That the life cycle at the start is BLANK (a device as fabricated) is the model's choice, log entry 60. -/
def Obligations.ResetState : Prop :=
  State.reset.Inv ∧ State.reset.pending = [] ∧ State.reset.mem = [] ∧ State.reset.life.state = .blank ∧
  State.reset.dbg.level = .bscan ∧ State.reset.tap.ir = 0xFF ∧ State.reset.ks.running = false ∧
  (∀ n, (State.reset.cask n).state = .disabled ∧ (State.reset.cask n).slot = none) ∧
  (∀ l, (tget State.reset.lanes l {}).state = .down) ∧ State.reset.out = [] ∧
  ∀ e ∈ [((0x40000000 : Word), (0x4E310A01 : Word)), (0x40000004, 0x14E3156F), (0x40000010, 0x4E311F5C), (0x40020018, 0x01),
      (0x4002001C, 0), (0x40020020, 100000), (0x40040000, 0), (0x40040008, 0xEEA6), (0x4004000C, 0x73), (0x40080000, 63),
      (0x40080004, 16), (0x40081000, 16), (0x400B0000, 16), (0x400B0040, 0x7FF), (0x40100000, 0xFFF), (0x40130000, 0x38),
      (0x40130010, 0x40000000), (0x40130014, 0x3A)], (State.reset.regRead .keystone e.1).1 = e.2

/-- In every state that meets the invariant, the step, whatever command stands at the front of the queue, answers a next state; it takes that command and no other from the queue; memory keeps its canonical form, the tables of casks, press pages, regions, lattice pages, link pages and tiles list each key once in rising order, and no domain that is not forcible is forced off. -/
def Obligations.InvariantKept : Prop := ∀ s : State, s.Inv →
  ∃ t, step s = .next t ∧ t.pending = s.pending.tail ∧ t.Inv

/-- For a record with no change in flight, of generation g (with g + 2 in range) and value v, and an increment by 1 to 64 that does not pass the maximum: the whole increment gives v + b in a record with no change in flight. In whatever step it is interrupted, the repair at boot gives a record with no change in flight whose value is v or v + b. So it is for a counter of the block that meets a reset in the middle of an increment. -/
def Obligations.CounterAtomic : Prop := ∀ (r : CtrRec) (g : Word) (v k b : Nat),
  r.clean g v k → g.toNat + 2 < 2 ^ 32 → 1 ≤ b → b ≤ 64 → v + b < 2 ^ 64 →
  ctrVal r = some v ∧ ctrVal (ctrInc r b) = some (v + b) ∧ (∃ g' k', (ctrInc r b).clean g' (v + b) k') ∧
  (∀ x ∈ r :: ctrIncSteps r b, ∃ g' v' k', (ctrRepair x).clean g' v' k' ∧ ctrVal (ctrRepair x) = some v' ∧ (v' = v ∨ v' = v + b)) ∧
  ∀ (s : State) (c : Nat), s.ctr c = r → ∃ v', ctrVal (ctrRepair ((s.ctrInterrupt c b).ctr c)) = some v' ∧ (v' = v ∨ v' = v + b)

/-- Where the TAP serves a row, its instruction register holds the row's opcode of R60 and its data register has the row's width; IDCODE captures 0x14E3156F, LC_STATUS captures LCS_STATUS, every opcode outside the table acts as BYPASS with one bit that captures 0, and SAMPLE/PRELOAD and EXTEST load the boundary-scan register (the sampled pins are a free value, log entry 4). The first five clauses give the whole next state. -/
def Obligations.TapOpcodes : Prop := ∀ s : State,
  (s.tapUp = true → exec .tapIdcode s =
    .next { s with tap := { s.tap with ir := 0x01, dr := 0x14E3156F, drWidth := 32, extest := false } }) ∧
  (s.tapUp = true → exec .tapLcStatus s =
    .next { s with tap := { s.tap with ir := 0x10, dr := s.lcsStatus.toNat, drWidth := 32, extest := false } }) ∧
  (∀ op : Byte, s.tapUp = true →
    op ∉ ([0x01, 0x02, 0x03, 0x10, 0x11, 0x12, 0x13, 0x14, 0x15, 0x20, 0x21, 0x22] : List Byte) →
    exec (.tapBypass op) s =
      .next { s with tap := { s.tap with ir := op, dr := 0, drWidth := 1, extest := false } }) ∧
  (∀ bits : List Bool, s.tapServes = true → s.dbg.level ≠ .closed → exec (.tapSamplePreload bits) s =
    .next { s with draw := s.draw + 1
                   tap := { s.tap with ir := 0x02, dr := Config.freeNat s.draw, drWidth := bits.length,
                                       bsr := bits, extest := false } }) ∧
  (∀ bits : List Bool, s.tapServes = true → s.dbg.level ≠ .closed → s.extestOk = true →
    exec (.tapExtest bits) s =
    .next { s with draw := s.draw + 1
                   tap := { s.tap with ir := 0x03, dr := Config.freeNat s.draw, drWidth := bits.length,
                                       bsr := bits, extest := true } }) ∧
  (∀ (digests : BitVec 4096) (token : BitVec 264) (digest : BitVec 384) (cert : List Byte) (g : BitVec 11) (a d : Word),
    s.tapServes = true →
    (∃ t, exec (.lcProvision digests) s = .next t ∧ t.tap.ir = 0x11 ∧ t.tap.drWidth = 4096) ∧
    (∃ t, exec (.lcToken token) s = .next t ∧ t.tap.ir = 0x12 ∧ t.tap.drWidth = 264) ∧
    (∃ t, exec .lcLock s = .next t ∧ t.tap.ir = 0x13 ∧ t.tap.drWidth = 1) ∧
    (∃ t, exec (.lcPersonalise digest) s = .next t ∧ t.tap.ir = 0x14 ∧ t.tap.drWidth = 384) ∧
    (∃ t, exec .lcScrap s = .next t ∧ t.tap.ir = 0x15 ∧ t.tap.drWidth = 1) ∧
    (∃ t, exec (.dbgCert cert) s = .next t ∧ t.tap.ir = 0x20 ∧ t.tap.drWidth = 8 * cert.length) ∧
    (∃ t, exec .dbgClose s = .next t ∧ t.tap.ir = 0x21 ∧ t.tap.drWidth = 1) ∧
    (∃ t, exec (.dbgAccessRead g a) s = .next t ∧ t.tap.ir = 0x22 ∧ t.tap.drWidth = 80) ∧
    (∃ t, exec (.dbgAccessWrite g a d) s = .next t ∧ t.tap.ir = 0x22 ∧ t.tap.drWidth = 80) ∧
    (∃ t, exec (.dbgAccessHalt g a) s = .next t ∧ t.tap.ir = 0x22 ∧ t.tap.drWidth = 80) ∧
    (∃ t, exec (.dbgAccessResume g a d) s = .next t ∧ t.tap.ir = 0x22 ∧ t.tap.drWidth = 80))

/-- In TEST_LOCKED, with the TAP up and no transition running, LC_TOKEN with TOKCNT = 16 leaves the life cycle as it was but for its status, TOKENS_EXHAUSTED, and shows the instruction at the TAP; nothing else changes. -/
def Obligations.TokensExhausted : Prop := ∀ (s : State) (dr : BitVec 264),
  s.tapUp = true → s.tamp.l3 = .none → s.lcBusy = false → s.life.state = .testLocked → s.ctrNat ctrTokcnt = 16 →
  exec (.lcToken dr) s =
    .next { s with life := { s.life with lastStatus := .tokensExhausted }
                   tap := { s.tap with ir := 0x12, dr := 0, drWidth := 264, extest := false } }

/-- With the TAP up, no L3 response and no transition running: LC_PROVISION in BLANK writes the token table once and enters TEST_LOCKED with every counter fresh; LC_TOKEN with the next token consumes it and enters TEST_OPEN at FULL, with a wrong one it counts the mismatch, logs it at L0 and consumes nothing; LC_LOCK returns to TEST_LOCKED and no keystone runs; LC_PERSONALISE enrols the device and enters PERSONAL; LC_SCRAP starts the wipe for SCRAP at once from BLANK, TEST_LOCKED and TEST_OPEN, and from ANALYSIS through ANALYSIS_PENDING. -/
def Obligations.LifeCycleRequests : Prop := ∀ s : State,
  s.tapUp = true → s.tamp.l3 = .none → s.lcBusy = false →
  (∀ digests : BitVec 4096, s.life.state = .blank → s.life.tokenTable = none →
    ∃ t, exec (.lcProvision digests) s = .next t ∧ t.life.state = .testLocked ∧ t.life.tokenTable = some digests ∧
      t.ctrs = [] ∧ t.dbg.level = .bscan ∧ t.dbg.session = none ∧ t.life.lastStatus = .ok ∧
      t = { s with life := t.life, ctrs := t.ctrs, dbg := t.dbg, tap := t.tap, pwr := t.pwr, casks := t.casks, ks := t.ks }) ∧
  (∀ (dr : BitVec 264) (table : BitVec 4096) (n : Nat), s.life.state = .testLocked →
    ctrVal (s.ctr ctrTokcnt) = some n → n < 16 → s.life.mismatches < 3 → s.life.tokenTable = some table → fld dr 256 8 = n →
    leBytes 32 (fld table (256 * fld dr 256 8) 256) = tokenDigest (fld dr 0 256) (fld dr 256 8) →
    ∃ t, exec (.lcToken dr) s = .next t ∧ t.life.state = .testOpen ∧ t.dbg.level = .full ∧
      t.ctr ctrTokcnt = ctrInc (s.ctr ctrTokcnt) 1 ∧ t.life.lastStatus = .ok) ∧
  (∀ dr : BitVec 264, s.life.state = .testLocked → s.ctrNat ctrTokcnt < 16 → s.life.mismatches < 3 →
    s.tokenMatches (fld dr 256 8) (fld dr 0 256) = false →
    ∃ t, exec (.lcToken dr) s = .next t ∧ t.life.state = .testLocked ∧ t.life.lastStatus = .mismatch ∧
      t.life.mismatches = s.life.mismatches + 1 ∧ t.ctrs = s.ctrs ∧ t.tamp.lastClass = 0x0C ∧ t.tamp.lastLevel = 0) ∧
  (∀ dr : BitVec 264, s.life.state = .testLocked → s.ctrNat ctrTokcnt < 16 → 3 ≤ s.life.mismatches →
    exec (.lcToken dr) s =
      .next { s with life := { s.life with lastStatus := .lockedOut }
                     tap := { s.tap with ir := 0x12, dr := 0, drWidth := 264, extest := false } }) ∧
  (s.life.state = .testOpen → ∃ t, exec .lcLock s = .next t ∧ t.life.state = .testLocked ∧ t.dbg.level = .bscan ∧
      t.dbg.session = none ∧ t.ks.running = false ∧ t.casks = [] ∧ t.clk = s.clk ∧ t.tamp.frozen = s.tamp.frozen) ∧
  (∀ digest : BitVec 384, s.life.state = .testOpen → ∃ t, exec (.lcPersonalise digest) s = .next t ∧
      t.life.state = .personal ∧ t.life.enrolled = true ∧ t.life.authority = some (leBytes 48 digest.toNat) ∧
      t.life.identPriv = true ∧ t.vault.rootOk = true ∧ t.vault.root = pufRoot ∧ t.dbg.level = .closed ∧
      t.dbg.session = none ∧ t.ks.running = false) ∧
  (s.life.state = .blank ∨ s.life.state = .testLocked ∨ s.life.state = .testOpen →
    ∃ t, exec .lcScrap s = .next t ∧ t.life.state = s.life.state ∧ t.life.wiping = true ∧ t.life.directScrap = true ∧
      t.life.target = true ∧ t.life.chunk = 0 ∧ t.life.w0 = BitVec.ofNat 64 (s.ctrNat ctrWipe) ∧ t.ks.running = false) ∧
  (s.life.state = .analysis → s.anyEgressUp = true → ∃ t, exec .lcScrap s = .next t ∧ t.life.state = .analysis ∧
      t.life.toPending = some true ∧ t.tamp.wind.isSome = true) ∧
  (s.life.state = .analysis → s.anyEgressUp = false → ∃ t, exec .lcScrap s = .next t ∧
      t.life.state = .analysisPending ∧ t.life.target = true ∧ t.life.wiping = true ∧ t.dbg.level = .closed ∧
      t.ks.running = false)

/-- With the TAP up: in ANALYSIS_PENDING every life-cycle request completes with LC_PENDING, while a transition runs with BUSY (which status, log entry 12), and a transition that the table of R34 does not have is refused with LC_NO_PATH; only the status and the TAP change. LCS_CMD = ANALYSIS without an accepted ANALYSIS certificate, and LCS_CMD outside OWNED, are refused with LC_NO_PATH. -/
def Obligations.LifeCycleRefusals : Prop := ∀ s : State,
  (∀ (i : Instr) (ir : Byte) (w : Nat) (digests : BitVec 4096) (dr : BitVec 264) (digest : BitVec 384),
    s.tapUp = true → s.tamp.l3 = .none →
    (i, ir, w) ∈ [(Instr.lcProvision digests, (0x11 : Byte), 4096), (.lcToken dr, 0x12, 264), (.lcLock, 0x13, 1),
      (.lcPersonalise digest, 0x14, 384), (.lcScrap, 0x15, 1)] →
    (s.life.state = .analysisPending → exec i s =
      .next { s with life := { s.life with lastStatus := .pending }
                     tap := { s.tap with ir := ir, dr := 0, drWidth := w, extest := false } }) ∧
    (s.life.state ≠ .analysisPending → s.lcBusy = true → exec i s =
      .next { s with life := { s.life with lastStatus := .busy }
                     tap := { s.tap with ir := ir, dr := 0, drWidth := w, extest := false } }) ∧
    (s.life.state = .personal ∨ s.life.state = .owned ∨ s.life.state = .scrap → s.lcBusy = false → exec i s =
      .next { s with life := { s.life with lastStatus := .noPath }
                     tap := { s.tap with ir := ir, dr := 0, drWidth := w, extest := false } })) ∧
  (s.ksWriter = true → s.lcBusy = false → s.life.state = .owned → s.dbg.authAnalysis = false →
    exec .lcsCmdAnalysis s = .next { s with life := { s.life with cmd := 3, lastStatus := .noPath } }) ∧
  (s.ksWriter = true → s.lcBusy = false → s.life.state = .testOpen ∨ s.life.state = .analysis →
    exec .lcsCmdAnalysis s = .next { s with life := { s.life with cmd := 3, lastStatus := .noPath } } ∧
    exec .lcsCmdScrap s = .next { s with life := { s.life with cmd := 7, lastStatus := .noPath } })

/-- In OWNED, LCS_CMD = SCRAP, and LCS_CMD = ANALYSIS with an accepted ANALYSIS certificate, lead to ANALYSIS_PENDING with that target: after the wind-down where an egress lane is UP, at once where none is. Each completed chunk counts WIPE and names the next chunk; after chunk 15 the record is written with the target state at that state's default level, and the wipe is over. A chunk from 1 up erases its 1 MiB of user flash and leaves every other byte of memory. -/
def Obligations.WipeRuns : Prop := ∀ s : State,
  (∀ (i : Instr) (code : BitVec 4) (scrap : Bool),
    (i, code, scrap) ∈ [(Instr.lcsCmdAnalysis, (3 : BitVec 4), false), (.lcsCmdScrap, 7, true)] →
    s.ksWriter = true → s.lcBusy = false → s.life.state = .owned → (scrap = true ∨ s.dbg.authAnalysis = true) →
    ∃ t, exec i s = .next t ∧ t.life.cmd = code ∧
      (s.anyEgressUp = true → t.life.state = .owned ∧ t.life.toPending = some scrap ∧ t.tamp.wind.isSome = true) ∧
      (s.anyEgressUp = false → t.life.state = .analysisPending ∧ t.life.target = scrap ∧ t.life.wiping = true ∧
        t.life.chunk = 0 ∧ t.life.w0 = BitVec.ofNat 64 (s.ctrNat ctrWipe) ∧ t.dbg.level = .closed)) ∧
  (s.life.wiping = true → s.pwr.mainPower = true → s.life.chunk < 15 →
    ∃ t, exec .wipeChunkEraseDone s = .next t ∧ t.life.state = s.life.state ∧ t.life.wiping = true ∧
      t.life.chunk = s.life.chunk + 1 ∧ (∀ a : Nat, 0 < s.life.chunk →
        t.rd a = if 0x100000 * s.life.chunk ≤ a ∧ a < 0x100000 * (s.life.chunk + 1) then memDefault a else s.rd a) ∧
      (s.life.chunk = 0 → t.mem = s.mem ∧ t.life.identPriv = false ∧ t.life.ownerKeys = none ∧ t.vault.slots = [] ∧
        t.nvm.journal = [])) ∧
  (s.life.wiping = true → s.pwr.mainPower = true → s.life.chunk = 15 →
    ∃ t, exec .wipeChunkEraseDone s = .next t ∧ t.life.wiping = false ∧ t.dbg.session = none ∧
      (s.life.directScrap = true ∨ s.life.target = true → t.life.state = .scrap ∧ t.dbg.level = .bscan) ∧
      (s.life.directScrap = false → s.life.target = false → t.life.state = .analysis ∧ t.dbg.level = .full))

/-- A certificate presented by DBG_CERT or DBG_CTRL.PRESENT begins its verification when no transition and no verification runs and fewer than 8 have failed (else BUSY, else LOCKED_OUT, and FAILS stays). A verification that passes every check advances DBGEPOCH and opens the session the certificate names; one that fails sets its code and adds 1 to FAILS, and neither level nor session changes. DBG_CLOSE, DBG_CTRL.CLOSE, ADVANCE and the expiry end the session: the level is the state's default again. When the verification is decided, log entry 10. -/
def Obligations.DebugCertificates : Prop := ∀ s : State,
  (∀ cert : List Byte, s.tapServes = true → s.pwr.state ≠ .sleep → ∃ t, exec (.dbgCert cert) s = .next t ∧
    (s.lcBusy = true ∨ s.dbg.verifying.isSome = true → t.dbg = { s.dbg with certResult := 8 }) ∧
    (s.lcBusy = false → s.dbg.verifying = none → 8 ≤ s.dbg.fails.toNat → t.dbg = { s.dbg with certResult := 7 }) ∧
    (s.lcBusy = false → s.dbg.verifying = none → s.dbg.fails.toNat < 8 →
      t.dbg = { s.dbg with verifying := some (cert, true) }) ∧
    t = { s with dbg := t.dbg, tap := t.tap }) ∧
  (s.ksWriter = true → s.lcBusy = false → s.dbg.verifying = none → s.dbg.fails.toNat < 8 →
    exec .dbgCtrlPresent s = .next { s with dbg := { s.dbg with verifying := some (s.certInBuf, false) } }) ∧
  (∀ (c : Bytes) (via : Bool), s.dbg.verifying = some (c, via) → s.certCheck c = 0 →
    bit (certFlags c) 2 = false → bit (certFlags c) 3 = false →
    ∃ t, exec .certVerifyDone s = .next t ∧ t.dbg.level = levelOf (certLevel c) ∧ t.dbg.certResult = 0 ∧
      (∀ v, ctrVal (s.ctr ctrDbgEpoch) = some v → v + 1 < 2 ^ 64 →
        t.ctr ctrDbgEpoch = ctrInc (s.ctr ctrDbgEpoch) 1) ∧
      (∃ x, t.dbg.session = some x ∧ x.level = levelOf (certLevel c) ∧ x.first = BitVec.ofNat 16 (certFirst c) ∧
        x.last = BitVec.ofNat 16 (certLast c) ∧ x.keystone = bit (certFlags c) 0 ∧ x.extest = bit (certFlags c) 1 ∧
        x.expiry = certExpiry c ∧ x.start = s.clk.time) ∧
      t = { s with dbg := t.dbg, ctrs := t.ctrs, ks := t.ks }) ∧
  (∀ (c : Bytes) (via : Bool), s.dbg.verifying = some (c, via) → s.certCheck c ≠ 0 → s.dbg.fails.toNat < 8 →
    ∃ t, exec .certVerifyDone s = .next t ∧ t.dbg.certResult = BitVec.ofNat 4 (s.certCheck c) ∧
      t.dbg.fails = s.dbg.fails + 1 ∧ t.dbg.level = s.dbg.level ∧ t.dbg.session = s.dbg.session ∧
      t.tamp.lastClass = 0x0D ∧ t.tamp.lastLevel = 0 ∧ t.ctrs = s.ctrs) ∧
  (∀ (i : Instr) (x : Session), i ∈ [Instr.dbgClose, .dbgCtrlClose, .dbgCtrlAdvance, .debugSessionExpiry] →
    s.tapServes = true → s.ksWriter = true → s.dbg.session = some x →
    ∃ t, exec i s = .next t ∧ t.dbg.session = none ∧ t.dbg.level = defaultLevel s.life.state ∧
      t.dbg.keystoneHalted = false ∧ (∀ n, (t.cask n).state = (resumeCask (s.cask n)).state) ∧
      (i = .dbgCtrlAdvance → ∀ v, ctrVal (s.ctr ctrDbgEpoch) = some v → v + 1 < 2 ^ 64 →
        t.ctr ctrDbgEpoch = ctrInc (s.ctr ctrDbgEpoch) 1))

/-- Where the TAP serves and the level or the range does not permit it, each of the four DBG_ACCESS operations has no effect but what is stated here: DATA captures 0 and the refusal is recorded as an access violation of source 4 and told to keystone code on line 2. The debug unit, CERT_RESULT with it, is as before. -/
def Obligations.DebugAccessRefused : Prop := ∀ (s : State) (g : BitVec 11) (a d : Word) (i : Instr) (op : Nat) (need : DbgLevel),
  (i, op, need) ∈ [(Instr.dbgAccessRead g a, 0, DbgLevel.observe), (.dbgAccessWrite g a d, 1, .control),
    (.dbgAccessHalt g a, 2, .control), (.dbgAccessResume g a d, 3, .control)] →
  s.tapServes = true → s.dbgPermits (dbgTarget g) a need = false →
  exec i s = .next { s with
    tap := { s.tap with ir := 0x22, drWidth := 80, extest := false
                        dr := op * 2 ^ 78 + g.toNat * 2 ^ 67 + a.toNat * 2 ^ 32 }
    caskBlk := { s.caskBlk with violSource := 4, violWrite := op == 1, violNew := true, violAddr := a
                                violCount := satAdd1 s.caskBlk.violCount }
    ks := { s.ks with pend := s.ks.pend ||| oneHot 2 } }

/-- On a cask in range: a read at OBSERVE captures the word of the cask's view (the context block at offsets below 0x200, log entry 24) and changes nothing but the TAP; a write at CONTROL sets the word of the block; a halt makes a READY, RUNNING or WAITING cask HALTED, and a resume gives it its earlier state back. On the keystone, halt and resume need FULL. The captured DATA of write, halt and resume is a free value. -/
def Obligations.DebugAccessPermitted : Prop := ∀ (s : State) (g : BitVec 11) (n : Nat) (a d : Word),
  s.tapServes = true → dbgTarget g = .cask n → s.caskInRange n = true → a.toNat % 4 = 0 →
  (levelGe s.dbg.level .observe = true → 0x40 ≤ a.toNat → a.toNat < 0x200 → exec (.dbgAccessRead g a) s =
    .next { s with tap := { s.tap with ir := 0x22, drWidth := 80, extest := false
                                       dr := dbgDr 0 g a (blockWord (s.cask n).regs a.toNat) } }) ∧
  (levelGe s.dbg.level .control = true → 0x40 ≤ a.toNat → a.toNat < 0x200 →
    ∃ t, exec (.dbgAccessWrite g a d) s = .next t ∧ (t.cask n).regs = blockSet (s.cask n).regs a.toNat d ∧
      t = { s with casks := t.casks, tap := t.tap, draw := t.draw } ∧
      ∀ m, m ≠ n → t.cask m = s.cask m) ∧
  (levelGe s.dbg.level .control = true →
    ∃ t, exec (.dbgAccessHalt g a) s = .next t ∧ t = { s with casks := t.casks, tap := t.tap, draw := t.draw } ∧
      (∀ m, m ≠ n → t.cask m = s.cask m) ∧
      ((s.cask n).state = .ready ∨ (s.cask n).state = .running ∨ (s.cask n).state = .waiting →
        (t.cask n).state = .halted ∧
        (t.cask n).before = (if (s.cask n).state = .waiting then .waiting else .ready))) ∧
  (levelGe s.dbg.level .control = true →
    ∃ t, exec (.dbgAccessResume g a d) s = .next t ∧ t = { s with casks := t.casks, tap := t.tap, draw := t.draw } ∧
      (∀ m, m ≠ n → t.cask m = s.cask m) ∧
      ((s.cask n).state = .halted → (t.cask n).state = (s.cask n).before))

/-- A write of a KS field by host software, or by a debugger below FULL, has no effect but the recorded violation. Keystone code, and a debugger at FULL, set GPIO_OUT, GPIO_OE, PWR_WAKE_EN, PWR_WAKE_POL, PWR_WDOG_CTRL and TAMP_TEMP_WARN to the written bits and nothing else; PWR_RESET_CAUSE clears the bits written as 1; a write to the read-only SYS_ID changes nothing. -/
def Obligations.RegisterWrites : Prop := ∀ (s : State) (v : Word),
  (∀ (who : Requester) (a : Word), s.requesterOn who = true → s.reachesKs who = false → inCtrl a.toNat = true →
    a.toNat % 4 = 0 → regKs a.toNat = true → exec (.registerWrite who a v) s = .next { s with
      caskBlk := { s.caskBlk with violSource := if who = .host then 1 else 4, violWrite := true, violNew := true
                                  violAddr := a, violCount := satAdd1 s.caskBlk.violCount }
      ks := { s.ks with pend := s.ks.pend ||| oneHot 2 } }) ∧
  (∀ who : Requester, s.requesterOn who = true → s.reachesKs who = true →
    exec (.registerWrite who 0x40000100 v) s = .next { s with gpio := { s.gpio with out := bv v 0 16 } } ∧
    exec (.registerWrite who 0x40000104 v) s = .next { s with gpio := { s.gpio with oe := bv v 0 16 } } ∧
    exec (.registerWrite who 0x40020008 v) s = .next { s with pwr := { s.pwr with wakeEn := bv v 0 20 } } ∧
    exec (.registerWrite who 0x4002000C v) s = .next { s with pwr := { s.pwr with wakePol := bv v 0 16 } } ∧
    exec (.registerWrite who 0x40020020 v) s = .next { s with pwr := { s.pwr with wdogTimeout := bv v 0 23 } } ∧
    exec (.registerWrite who 0x4004000C v) s = .next { s with tamp := { s.tamp with tempWarn := bv v 0 8 } } ∧
    exec (.registerWrite who 0x40020018 v) s =
      .next { s with pwr := { s.pwr with resetCause := s.pwr.resetCause &&& ~~~ bv v 0 7 } } ∧
    exec (.registerWrite who 0x40000000 v) s = .next s)

/-- A power-on reset keeps only POR in the reset cause, clears FAILS and the mismatch count, and ends ALARM. REFCLK ends boot step 1 with TIME 0, PLL lock step 2, and the baseline is complete after its windows. BOOT_SEQUENCE, with no VBAT latch set, repairs the counters, zeroizes SRAM, arms the frequency monitor and, in BLANK, TEST_LOCKED, PERSONAL and SCRAP, ends at step 7 with no keystone running; in OWNED it ends at step 9 with the keystone and the watchdog running, or at step 8 with the failed check in RESULT. That steps 3 to 9 are one command, log entry 8. -/
def Obligations.BootCompletes : Prop := ∀ s : State,
  (∀ b : BitVec 4, ∃ t, exec (.powerOnReset b) s = .next t ∧ t.pwr.resetCause = 0x01 ∧ t.pwr.mainPower = true ∧
    t.pwr.bankClass = b ∧ t.pwr.booting = true ∧ t.dbg.fails = 0 ∧ t.life.mismatches = 0 ∧ t.tamp.alarm = false ∧
    t.clk.time = 0 ∧ t.ks.running = false ∧ t.casks = [] ∧
    t.life.state = (if s.life.state = .testOpen then .testLocked else s.life.state)) ∧
  (s.pwr.mainPower = true → s.pwr.booting = true → s.clk.timeOn = false → s.pwr.resetnLow = false →
    exec .refclkArrival s = .next { s with clk := { s.clk with refclk := true, time := 0, timeOn := true }
                                           pwr := { s.pwr with bootStep := 1 } }) ∧
  (s.pwr.mainPower = true → s.clk.refclk = true → s.clk.pllLock = false → s.pwr.resetnLow = false →
    s.pwr.state ≠ .sleep → s.pwr.state ≠ .off → s.pwr.booting = true → s.pwr.bootStep = 1 →
    exec .corePllLock s = .next { s with clk := { s.clk with pllLock := true, onRefclk := false }
                                         pwr := { s.pwr with bootStep := 2 } }) ∧
  (s.clk.pllLock = true → exec .clockBaselineDone s = .next { s with clk := { s.clk with baseline := true } }) ∧
  (∀ pufOk rngOk : Bool, s.alive = true → s.pwr.booting = true → s.clk.pllLock = true → s.clk.baseline = true →
    s.pwr.resetnLow = false → s.tamp.vbat = [] → s.ks.running = false →
    ∃ t, exec (.bootSequence pufOk rngOk) s = .next t ∧ t.pwr.booting = false ∧ t.clk.freqArmed = true ∧
      t.ctrs = s.ctrs.map (fun e => (e.1, ctrRepair e.2)) ∧ (s.life.state ≠ .analysisPending → t.casks = s.casks) ∧
      (s.life.state = .blank ∨ s.life.state = .testLocked ∨ s.life.state = .personal ∨ s.life.state = .scrap →
        t.pwr.bootStep = 7 ∧ t.ks.running = false ∧ t.life = s.life ∧
        t.rng.instantiated = (rngOk || s.rng.instantiated) ∧
        ∀ a, sramBase ≤ a → a < sramBase + sramSize → t.rd a = 0) ∧
      (s.life.state = .owned → t.life = s.life ∧
        (t.pwr.bootStep = 9 ∧ t.pwr.bootResult = 0 ∧ t.ks.running = true ∧ t.pwr.wdogRunning = true ∧
          t.pwr.wdogFrom = s.clk.time ∨
         t.pwr.bootStep = 8 ∧ t.pwr.bootResult ≠ 0 ∧ t.ks.running = false)))

/-- With no egress lane UP and no wind-down running, PWR_CMD.COLD, PWR_CMD.WARM, RESETn and the watchdog reset at once: the cause is added to PWR_RESET_CAUSE, no keystone runs, no cask is enabled, boot is to run, FAILS stays; a warm or watchdog reset keeps TIME, a cold or RESETn one starts it anew. RESETn high again ends boot step 1. While a wind-down runs, a trigger only joins it. The kick value 0xA5C3 restarts the watchdog and no other value does. WIND_DOWN_END of a wind-down that waits for a reset performs it. -/
def Obligations.ResetsHappen : Prop := ∀ s : State,
  (∀ (i : Instr) (bit : BitVec 7) (keepsTime : Bool),
    (i, bit, keepsTime) ∈ [(Instr.pwrCmdCold, (0x04 : BitVec 7), false), (.pwrCmdWarm, 0x08, true),
      (.watchdogExpiry, 0x20, true), (.resetnAssert, 0x02, false)] →
    s.ksWriter = true → (i = .watchdogExpiry → s.wdogCounts = true ∧ s.wdogDue.toNat ≤ s.clk.time.toNat) → s.pwr.mainPower = true → s.clk.refclk = true → s.pwr.resetnLow = false →
    s.tamp.l3 = .none → s.tamp.wind = none → s.life.toPending = none → s.anyEgressUp = false →
    ∃ t, exec i s = .next t ∧ t.pwr.resetCause = s.pwr.resetCause ||| bit ∧ t.ks.running = false ∧ t.casks = [] ∧
      t.pwr.booting = true ∧ t.dbg.fails = s.dbg.fails ∧ t.dbg.session = none ∧ t.tamp.alarm = s.tamp.alarm ∧
      t.clk.time = (if keepsTime then s.clk.time else 0) ∧ t.pwr.resetnLow = (i == .resetnAssert) ∧
      t.life.state = (if s.life.state = .testOpen then .testLocked else s.life.state)) ∧
  (∀ (i : Instr) (k : RKind), (i, k) ∈ [(Instr.pwrCmdCold, RKind.cold), (.pwrCmdWarm, .warm), (.watchdogExpiry, .wdog)] →
    ∀ w : WindDown, s.ksWriter = true → (i = .watchdogExpiry → s.wdogCounts = true ∧ s.wdogDue.toNat ≤ s.clk.time.toNat) → s.tamp.wind = some w →
    exec i s = .next { s with tamp := { s.tamp with wind := some { w with resets := w.resets ++ [k] } } }) ∧
  (s.pwr.booting = true → s.clk.timeOn = false → s.clk.refclk = true → s.pwr.mainPower = true →
    exec .resetnRelease s = .next { s with pwr := { s.pwr with resetnLow := false, bootStep := 1 }
                                           clk := { s.clk with time := 0, timeOn := true } }) ∧
  (∀ v : Word, s.ksWriter = true → s.pwr.wdogRunning = true → exec (.pwrWdogKick v) s =
    .next (if v = 0x0000A5C3 then { s with pwr := { s.pwr with wdogFrom := s.clk.time } } else s)) ∧
  (∀ (w : WindDown) (k : RKind), s.tamp.wind = some w → w.resets = [k] → k ≠ .por → s.life.toPending = none →
    ∃ t, exec .windDownEnd s = .next t ∧ t.tamp.wind = none ∧ t.pwr.resetCause = s.pwr.resetCause ||| causeBit k ∧
      t.ks.running = false ∧ t.casks = [] ∧ t.pwr.booting = true)

/-- A request for a power state is refused with BUSY while a change, a wind-down or a transition runs; with LC_FORBIDS for IDLE, HOLD and SLEEP in BLANK, TEST_LOCKED, PERSONAL and SCRAP and for every state in ANALYSIS_PENDING; with DEBUG_HELD for SLEEP at CONTROL and FULL where keystone code runs. Each refusal sets RESULT and line 4 and nothing else. A request for another state that the matrix marks P or O begins the change, with the wind-down where an egress lane is UP and HOLD, SLEEP or OFF is asked from a lit state. POWER_CHANGE_DONE reaches the state. -/
def Obligations.PowerRequests : Prop := ∀ s : State,
  (∀ (i : Instr) (p : PState), (i, p) ∈ [(Instr.pwrCmdActive, PState.active), (.pwrCmdIdle, .idle), (.pwrCmdHold, .hold),
      (.pwrCmdSleep, .sleep), (.pwrCmdOff, .off)] → s.ksWriter = true →
    (∀ r : BitVec 3,
      ((s.pwr.change.isSome = true ∨ s.tamp.wind.isSome = true ∨ s.lcBusy = true) ∧ r = 3 ∨
       s.pwr.change = none ∧ s.tamp.wind = none ∧ s.lcBusy = false ∧
        (s.life.state = .analysisPending ∧ r = 1 ∨
         (s.life.state = .blank ∨ s.life.state = .testLocked ∨ s.life.state = .personal ∨ s.life.state = .scrap) ∧
           (p = .idle ∨ p = .hold ∨ p = .sleep) ∧ r = 1 ∨
         (s.life.state = .testOpen ∨ s.life.state = .owned ∨ s.life.state = .analysis) ∧ p = .sleep ∧
           (s.dbg.level = .control ∨ s.dbg.level = .full) ∧ r = 2)) →
      exec i s = .next { s with pwr := { s.pwr with cmd := BitVec.ofNat 3 (pstateCode p), result := r }
                                ks := { s.ks with pend := s.ks.pend ||| oneHot 4 } }) ∧
    (s.pwr.change = none → s.tamp.wind = none → s.lcBusy = false → p ≠ s.pwr.state →
      s.life.state = .testOpen ∨ s.life.state = .owned ∨ s.life.state = .analysis →
      p = .sleep → s.dbg.level ≠ .control ∧ s.dbg.level ≠ .full →
      ∃ t, exec i s = .next t ∧ t.pwr.change = some p ∧ t.pwr.result = 0 ∧ t.pwr.state = s.pwr.state) ∧
    (s.pwr.change = none → s.tamp.wind = none → s.lcBusy = false → p ≠ s.pwr.state →
      s.life.state = .testOpen ∨ s.life.state = .owned ∨ s.life.state = .analysis → p = .active ∨ p = .idle →
      exec i s = .next { s with pwr := { s.pwr with cmd := BitVec.ofNat 3 (pstateCode p), change := some p, result := 0 } }) ∧
    (s.pwr.change = none → s.tamp.wind = none → s.lcBusy = false → s.pwr.state = .active ∨ s.pwr.state = .idle →
      s.life.state = .owned → p = .hold ∨ p = .off → s.anyEgressUp = true →
      ∃ t, exec i s = .next t ∧ t.pwr.change = some p ∧ t.tamp.wind.isSome = true ∧ t.pwr.state = s.pwr.state)) ∧
  (∀ p : PState, s.pwr.change = some p → s.tamp.wind = none → s.nvm.active = none → s.nvm.queue = [] →
    s.pwr.state ≠ .sleep → s.dbg.wakeCert = none →
    ∃ t, exec .powerChangeDone s = .next t ∧ t.pwr.change = none ∧ t.pwr.wakePending = false ∧
      t.pwr.state = (if p = .sleep ∧ s.pwr.wakePending = true then .idle else p) ∧ t.pwr.result = 0 ∧
      t.pwr.offReady = (p == .off) ∧ (p ≠ .active → ∀ n, (t.cask n).slot = none) ∧
      (t.pwr.state = .sleep ∨ t.pwr.state = .off → t.clk.pllLock = false))

/-- In SLEEP each source of R93 that is enabled starts the change to IDLE, and one that is not enabled does not; a source that fires while SLEEP is being entered makes the entry end in IDLE. A debug certificate and a tamper event always wake. Loss of main power enters OFF, loses all memory above the flash and ends the session and TEST_OPEN. -/
def Obligations.WakesAndPowerLoss : Prop := ∀ s : State,
  (∀ (i : Instr) (b : Nat), (i, b) ∈ [(Instr.spiCsWake, 16), (.i2cAddressWake, 17), (.pcieL1Exit, 18)] →
    (s.alive = true → bit s.pwr.wakeEn b = true → s.pwr.state = .sleep → s.pwr.change = none →
      exec i s = .next { s with pwr := { s.pwr with change := some .idle } }) ∧
    (s.alive = true → bit s.pwr.wakeEn b = true → s.pwr.change = some .sleep → exec i s =
      .next { s with pwr := { s.pwr with wakePending := true } }) ∧
    (bit s.pwr.wakeEn b = false → exec i s = .next s)) ∧
  (∀ now : Time, s.alive = true → bit s.pwr.wakeEn 19 = true → s.pwr.state = .sleep → s.pwr.change = none →
    s.timeCounts = true → s.clk.time.toNat < now.toNat → s.pwr.wakeAt.toNat ≤ now.toNat →
    ∃ t, exec (.wakeTimeReached now) s = .next t ∧ t.clk.time = now ∧ t.pwr = { s.pwr with change := some .idle }) ∧
  (∀ (pin : Fin 16) (rising : Bool), s.alive = true → bit s.pwr.wakeEn pin.val = true →
    bit s.pwr.wakePol pin.val = rising → s.pwr.state = .sleep → s.pwr.change = none →
    ∃ t, exec (.gpioWakeEdge pin rising) s = .next t ∧ bit t.gpio.pin pin.val = rising ∧
      (∀ j, j ≠ pin.val → bit t.gpio.pin j = bit s.gpio.pin j) ∧
      t = { s with gpio := { s.gpio with pin := t.gpio.pin }, pwr := { s.pwr with change := some .idle } }) ∧
  (∀ cert : List Byte, s.tapServes = true → s.pwr.state = .sleep → s.pwr.change = none →
    ∃ t, exec (.dbgCert cert) s = .next t ∧ t.pwr = { s.pwr with change := some .idle } ∧ t.dbg.wakeCert = some cert) ∧
  (∀ (cls src level flags : Nat) (from1 : Bool), s.pwr.state = .sleep → s.pwr.change = none → level = 0 →
    (s.tamperEvent cls src level flags from1).pwr = { s.pwr with change := some .idle }) ∧
  (s.pwr.mainPower = true → ∃ t, exec .mainPowerLoss s = .next t ∧ t.pwr.state = .off ∧ t.pwr.mainPower = false ∧
    t.dbg.session = none ∧ t.ks.running = false ∧ t.casks = [] ∧ t.clk.pllLock = false ∧
    t.life.state = (if s.life.state = .testOpen then .testLocked else s.life.state) ∧
    ∀ a, flashEnd ≤ a → t.rd a = 0)

/-- In a state whose force-off list names only forcible domains, a write of CLK_FORCE_OFF register r leaves every domain of another register as it is, ignores the bits of domains that are not forcible, and sets every other domain of r as written, but for one: when all 16 press pipelines would be off, the lowest one whose force-off bit was still 0 stays clocked. Nothing but the list changes. -/
def Obligations.ForceOffWrites : Prop := ∀ (s : State) (r : Fin 9) (v : Word),
  s.ksWriter = true → allForcible s.clk.forceOff →
  ∃ t, exec (.clkForceOffWrite r v) s = .next t ∧ t = { s with clk := { s.clk with forceOff := t.clk.forceOff } } ∧
    let asked (d : Nat) : Prop := if d / 32 = r.val then bit v (d % 32) = true ∧ forcible d = true else d ∈ s.clk.forceOff
    let lowest (d : Nat) : Prop := 16 ≤ d ∧ d < 32 ∧ d ∉ s.clk.forceOff ∧ ∀ e, 16 ≤ e → e < d → e ∈ s.clk.forceOff
    ∀ d, d ∈ t.clk.forceOff ↔ asked d ∧ ¬ ((∀ e, 16 ≤ e → e < 32 → asked e) ∧ lowest d)

/-- FORCE_OFF_DONE puts a domain whose bit is set among those that are off, and takes one whose bit is 0 out of them. A core forced off holds no cask, and presence searches stop on the chains of a presence domain forced off (PSTATE OFF). CLOCK_DOMAIN_IDLE gates an auto-gated domain that runs, and changes nothing else. -/
def Obligations.ClockDomains : Prop := ∀ (s : State) (d : Fin 264),
  (d.val ∈ s.clk.forceOff → d.val ∉ s.clk.off → ∃ t, exec (.forceOffDone d) s = .next t ∧
    t.clk.off = d.val :: s.clk.off ∧ t.clk.time = s.clk.time ∧ t.life = s.life ∧
    (d.val < 16 → ∀ n j, (t.cask n).slot = some j → slotCore j ≠ d.val) ∧
    (∀ l, l < 12 → d.val = (if Config.presenceB l then 197 else 196) → (tget t.tile.chains l {}).pstate = .off ∧
      (tget t.tile.chains l {}).search = none)) ∧
  (d.val ∉ s.clk.forceOff → ∃ t, exec (.forceOffDone d) s = .next t ∧ d.val ∉ t.clk.off ∧
    (∀ e, e ≠ d.val → (e ∈ t.clk.off ↔ e ∈ s.clk.off)) ∧ t.casks = s.casks ∧ t.life = s.life) ∧
  (autoGated d.val = true → d.val ∉ s.clk.gated → exec (.clockDomainIdle d) s =
    .next { s with clk := { s.clk with gated := d.val :: s.clk.gated } })

/-- An armed sensor whose class and source are not in an episode opens one and causes a tamper event at the level of its TAMP_MAP field (0 for the temperature warning), with its class and source; an event of a class and source still in its episode changes nothing (R102). A missing REFCLK takes the clock away first, a loss of PLL lock the lock. SENSOR_EPISODE_END ends the episode. -/
def Obligations.SensorEvents : Prop := ∀ s : State,
  (∀ (i : Instr) (armed : Bool) (cls src : Byte) (level flags : Nat), s.pwr.mainPower = true →
    ((∃ n : Fin 3, i = .supplyWindowEvent n ∧ armed = true ∧ cls = 1 ∧ src = BitVec.ofNat 8 n.val ∧ level = fld s.tamp.map 0 2 ∧ flags = 0) ∨
     (∃ n : Fin 4, i = .vddioWindowEvent n ∧ armed = true ∧ cls = 2 ∧ src = BitVec.ofNat 8 (3 + n.val) ∧ level = fld s.tamp.map 2 2 ∧ flags = 0) ∨
     (∃ n : Fin 3, i = .supplyGlitch n ∧ armed = true ∧ cls = 3 ∧ src = BitVec.ofNat 8 n.val ∧ level = fld s.tamp.map 4 2 ∧ flags = 0) ∨
     (i = .clockFrequencyEvent ∧ armed = s.clk.freqArmed ∧ cls = 5 ∧ src = 0 ∧ level = fld s.tamp.map 6 2 ∧ flags = 0) ∨
     (i = .pllGlitch false ∧ armed = s.clk.pllLock ∧ cls = 6 ∧ src = 0 ∧ level = fld s.tamp.map 8 2 ∧ flags = 0) ∨
     (∃ (n : Fin 16) (short : Bool), i = .meshEvent n short ∧ armed = decide (5 ≤ s.pwr.bootStep) ∧ cls = 0x0A ∧
       src = BitVec.ofNat 8 n.val ∧ level = fld s.tamp.map 14 2 ∧ flags = if short then 4 else 0)) →
    armed = true →
    ((cls, src) ∉ s.tamp.episodes → exec i s =
      .next (({ s with tamp := { s.tamp with episodes := (cls, src) :: s.tamp.episodes } } : State).tamperEvent
        cls.toNat src.toNat level flags false)) ∧
    ((cls, src) ∈ s.tamp.episodes → exec i s = .next s)) ∧
  (∀ n : Fin 64, s.pwr.mainPower = true → 5 ≤ s.pwr.bootStep → (0x07, BitVec.ofNat 8 n.val) ∉ s.tamp.episodes →
    exec (.lightEvent n) s =
      .next (({ s with tamp := { s.tamp with light := s.tamp.light ||| BitVec.ofNat 64 (2 ^ n.val)
                                             episodes := (0x07, BitVec.ofNat 8 n.val) :: s.tamp.episodes } } : State).tamperEvent
        7 n.val (fld s.tamp.map 10 2) 0 false)) ∧
  (∀ (n : Fin 8) (v : BitVec 16), s.pwr.mainPower = true → 5 ≤ s.pwr.bootStep → v.toInt > 135 * 16 ∨ v.toInt < -50 * 16 →
    (0x08, BitVec.ofNat 8 n.val) ∉ s.tamp.episodes → exec (.tempLimitEvent n v) s =
      .next (({ s with tamp := { s.tamp with temps := tset s.tamp.temps n.val v
                                             episodes := (0x08, BitVec.ofNat 8 n.val) :: s.tamp.episodes } } : State).tamperEvent
        8 n.val (fld s.tamp.map 12 2) 0 false)) ∧
  (∀ (n : Fin 8) (v : BitVec 16), s.pwr.mainPower = true → 5 ≤ s.pwr.bootStep →
    v.toInt ≥ (min 125 s.tamp.tempWarn.toInt) * 16 → (0x09, BitVec.ofNat 8 n.val) ∉ s.tamp.episodes →
    exec (.tempWarning n v) s =
      .next (({ s with tamp := { s.tamp with temps := tset s.tamp.temps n.val v
                                             episodes := (0x09, BitVec.ofNat 8 n.val) :: s.tamp.episodes } } : State).tamperEvent
        9 n.val 0 0 false)) ∧
  (s.pwr.mainPower = true → s.clk.pllLock = true → s.clk.refclk = true →
    ∃ t, exec .clockMissing s = .next t ∧ t.clk.refclk = false ∧ t.clk.pllLock = false) ∧
  (s.clk.pllLock = true → ∃ t, exec (.pllGlitch true) s = .next t ∧ t.clk.pllLock = false) ∧
  (∀ (cls src : Byte), ∃ t, exec (.sensorEpisodeEnd cls src) s = .next t ∧
    (∀ e, e ∈ t.tamp.episodes ↔ e ∈ s.tamp.episodes ∧ e ≠ (cls, src)) ∧
    (∀ j, bit t.tamp.light j = (bit s.tamp.light j && !(cls == 0x07 && j == src.toNat))) ∧
    t = { s with tamp := { s.tamp with episodes := t.tamp.episodes, light := t.tamp.light } })

/-- A response raised by keystone code at level 0 is logged and told on line 0 and does nothing else; at level 1 it also freezes the casks; while frozen, both are logged only. At level 2 it freezes, sets ALARM and winds down, or, with no egress lane UP, resets at once with cause TAMPER. At level 3 keys, SRAM, vat and segment buffer are zeroized, every lane is DOWN, the L3 record is written and the vault erase runs. -/
def Obligations.TamperResponses : Prop := ∀ s : State,
  s.ksWriter = true → s.tamp.l3 = .none → s.tamp.wind = none → s.tamp.queue.length < 16 →
  s.life.state ≠ .analysisPending → s.pwr.state ≠ .sleep → s.pwr.change = none →
  (s.tamp.frozen = false → exec (.tampCtrlRaise 0) s = .next { s with
    tamp := { s.tamp with raiseLevel := 0, lastClass := 0x0E, lastLevel := 0, quiet := false
                          queue := s.tamp.queue ++ [{ time := s.clk.time, cls := 0x0E, level := 0 }] }
    ks := { s.ks with pend := s.ks.pend ||| oneHot 0 } }) ∧
  (s.tamp.frozen = false → exec (.tampCtrlRaise 1) s = .next { s with
    tamp := { s.tamp with raiseLevel := 1, lastClass := 0x0E, lastLevel := 1, quiet := false, frozen := true
                          alarm := s.tamp.alarm || s.tamp.alarmOnL1
                          queue := s.tamp.queue ++ [{ time := s.clk.time, cls := 0x0E, level := 1 }] }
    ks := { s.ks with pend := s.ks.pend ||| oneHot 0 } }) ∧
  (∀ l : BitVec 2, s.tamp.frozen = true → l = 0 ∨ l = 1 → exec (.tampCtrlRaise l) s = .next { s with
    tamp := { s.tamp with raiseLevel := l, lastClass := 0x0E, lastLevel := l, quiet := false
                          queue := s.tamp.queue ++ [{ time := s.clk.time, cls := 0x0E, level := l
                                                      flags := if l = 0 then 0 else 8 }] } }) ∧
  (s.pwr.booting = false → s.anyEgressUp = true → ∃ t, exec (.tampCtrlRaise 2) s = .next t ∧ t.tamp.alarm = true ∧
    t.tamp.frozen = true ∧ (∃ w, t.tamp.wind = some w ∧ w.resets = [.tamper]) ∧ t.life = s.life ∧ t.vault = s.vault) ∧
  (s.pwr.booting = false → s.anyEgressUp = false → s.life.toPending = none →
    ∃ t, exec (.tampCtrlRaise 2) s = .next t ∧ t.tamp.alarm = true ∧ t.tamp.frozen = false ∧
      t.pwr.resetCause = s.pwr.resetCause ||| 0x10 ∧ t.ks.running = false ∧ t.casks = [] ∧ t.pwr.booting = true) ∧
  (∃ t, exec (.tampCtrlRaise 3) s = .next t ∧ t.tamp.alarm = true ∧ t.tamp.l3 = .erasing ∧ t.tamp.l3Record = some false ∧
    t.vault.rootOk = false ∧ t.vault.root = [] ∧ t.rng.instantiated = false ∧ t.press.pages = [] ∧ t.ks.running = false ∧
    t.casks = [] ∧ (∀ l, (t.laneAt l).state = .down) ∧
    ∀ a, (sramBase ≤ a ∧ a < sramBase + sramSize ∨ vatBase ≤ a ∧ a < vatBase + vatSize ∨ ssbBase ≤ a ∧ a < ssbBase + ssbSize) →
      t.rd a = 0)

/-- A response that runs sets ALARM at level 2 and 3, at level 1 exactly when ALARM_ON_L1 is set, and leaves it at level 0; keystone code clears it by writing 1, without effect in a wind-down or cold hold; every reset keeps it but a power-on reset, which clears it. -/
def Obligations.AlarmRules : Prop := ∀ s : State,
  (∀ (cls src level flags : Nat) (from1 : Bool), level ≤ 3 → s.clamps level = false →
    (s.tamperEvent cls src level flags from1).tamp.alarm =
      (s.tamp.alarm || decide (2 ≤ level) || (decide (level = 1) && s.tamp.alarmOnL1))) ∧
  (s.ksWriter = true → exec .alarmClear s =
    .next (if s.tamp.wind.isSome = true ∨ s.tamp.l3 ≠ .none then s else { s with tamp := { s.tamp with alarm := false } })) ∧
  (∀ (ks : List RKind) (from1 : Bool), (s.doReset ks from1).tamp.alarm = (s.tamp.alarm && !ks.contains .por))

/-- In cold hold the quiet timer counts only while no sensor is in an episode, and a new event starts the quiet time anew; RESETn then performs a cold reset with causes COLD and HOLD_EXIT; an earlier pulse changes nothing but the level of RESETn while it is low; a power-on reset also ends the hold. -/
def Obligations.ColdHoldEnds : Prop := ∀ s : State, s.tamp.l3 = .coldHold →
  (s.tamp.episodes = [] → exec .coldHoldQuietTimer s = .next { s with tamp := { s.tamp with quiet := true } }) ∧
  (s.tamp.episodes ≠ [] → exec .coldHoldQuietTimer s = .next s) ∧
  (∀ (cls src level flags : Nat) (from1 : Bool), (s.tamperEvent cls src level flags from1).tamp.quiet = false ∧
    (s.tamperEvent cls src level flags from1).tamp.l3 = .coldHold) ∧
  (s.pwr.mainPower = true → s.pwr.resetnLow = false → s.tamp.quiet = true →
    ∃ t, exec .resetnAssert s = .next t ∧ t.tamp.l3 = .none ∧ t.pwr.booting = true ∧ t.pwr.resetnLow = true ∧
      t.pwr.resetCause = s.pwr.resetCause ||| 0x04 ||| 0x40 ∧ t.clk.time = 0) ∧
  (s.pwr.mainPower = true → s.pwr.resetnLow = false → s.tamp.quiet = false →
    exec .resetnAssert s = .next { s with pwr := { s.pwr with resetnLow := true } } ∧
    (s.pwr.booting = false → exec .resetnRelease { s with pwr := { s.pwr with resetnLow := true } } =
      .next { s with pwr := { s.pwr with resetnLow := false } })) ∧
  (∀ b : BitVec 4, ∃ t, exec (.powerOnReset b) s = .next t ∧ t.tamp.l3 = .none)

/-- THAW ends the freeze, MAP_LOCK locks the map. A write of TAMP_MAP is ignored once the map is locked; else every field takes the written level, in OWNED no less than its floor (SUPPLY, GLITCH, CLOCK, PLL and LIGHT 2, VDDIO 0, TEMP 1, MESH 3). Every reset ends freeze and lock and restores the defaults 2, 1, 2, 2, 2, 3, 2, 3. -/
def Obligations.TamperControl : Prop := ∀ s : State,
  (s.ksWriter = true → exec .tampCtrlThaw s = .next { s with tamp := { s.tamp with frozen := false } }) ∧
  (s.ksWriter = true → exec .tampCtrlMapLock s = .next { s with tamp := { s.tamp with mapLock := true } }) ∧
  (∀ v : Word, s.ksWriter = true → s.tamp.mapLock = true → exec (.tampMapWrite v) s = .next s) ∧
  (∀ v : Word, s.ksWriter = true → s.tamp.mapLock = false → ∃ t, exec (.tampMapWrite v) s = .next t ∧
    t = { s with tamp := { s.tamp with map := t.tamp.map } } ∧
    ∀ i, i < 8 → fld t.tamp.map (2 * i) 2 =
      if s.life.state = .owned then max (fld v (2 * i) 2) ([2, 0, 2, 2, 2, 2, 1, 3].getD i 0) else fld v (2 * i) 2) ∧
  (∀ (ks : List RKind) (from1 : Bool) (i : Nat), i < 8 →
    (s.doReset ks from1).tamp.mapLock = false ∧ (s.doReset ks from1).tamp.frozen = false ∧
    fld (s.doReset ks from1).tamp.map (2 * i) 2 = [2, 1, 2, 2, 2, 3, 2, 3].getD i 0)

/-- L3_VAULT_ERASE_DONE leaves no vault slot, marks the L3 record complete and enters cold hold. A VBAT latch is set only while main power is absent. TAMPER_LOG_WRITE puts the oldest queued entry, with the next SEQ, at slot SEQ mod 256 of the ring, and with the queue empty one LOG_OVERFLOW entry whose SOURCE is the number of entries lost, up to 255. -/
def Obligations.TamperLogAndLatches : Prop := ∀ s : State,
  (s.tamp.l3 = .erasing → s.pwr.mainPower = true → ∃ t, exec .l3VaultEraseDone s = .next t ∧ t.vault.slots = [] ∧
    t.tamp.l3 = .coldHold ∧ t.tamp.l3Record = some true ∧ t.mem = s.mem ∧
    t = { s with vault := { s.vault with slots := [] }, tamp := t.tamp }) ∧
  (∀ l : VbatLatch, s.pwr.mainPower = false → l ∉ s.tamp.vbat → exec (.vbatLatchSet l) s =
    .next { s with tamp := { s.tamp with vbat := l :: s.tamp.vbat } }) ∧
  (∀ l : VbatLatch, s.pwr.mainPower = true → exec (.vbatLatchSet l) s = .next s) ∧
  (∀ (e : LogEntry) (es : List LogEntry), s.pwr.mainPower = true → 4 ≤ s.pwr.bootStep → s.tamp.queue = e :: es →
    ∃ t, exec .tamperLogWrite s = .next t ∧ t.tamp.queue = es ∧ t.tamp.nextSeq = s.tamp.nextSeq + 1 ∧
      tget t.tamp.log (s.tamp.nextSeq.toNat % 256) {} = { e with seq := s.tamp.nextSeq } ∧
      t = { s with tamp := { s.tamp with queue := es, log := t.tamp.log, nextSeq := t.tamp.nextSeq } }) ∧
  (s.pwr.mainPower = true → 4 ≤ s.pwr.bootStep → s.tamp.queue = [] → 0 < s.tamp.lost →
    ∃ t, exec .tamperLogWrite s = .next t ∧ t.tamp.lost = 0 ∧ t.tamp.queue = [] ∧
      tget t.tamp.log (s.tamp.nextSeq.toNat % 256) {} =
        { time := s.clk.time, seq := s.tamp.nextSeq, cls := 0x0F, source := BitVec.ofNat 8 (min 255 s.tamp.lost) })

/-- For any context whose move issues, each of the 14 arithmetic, logic and shift triggers and CLZ, POPC, MIN, MAX sets ALU.R to A op B on 32-bit words, ADD and ADDC set C to the carry out, SUB and SUBB to 1 when there is no borrow, and the others keep C. Every other register, line and byte of memory is as before, but for the passing of one move. -/
def Obligations.AluResults : Prop := ∀ (s : State) (c : Ctx) (b : Word), s.issues c →
  let r := s.regs c
  let a := r.alu.a
  let k : Nat := if r.alu.c then 1 else 0
  let n : Nat := b.toNat % 32
  ∀ (i : Instr) (v : Word) (cy : Bool), (i, v, cy) ∈
    [(Instr.aluAdd c b, a + b, decide (2 ^ 32 ≤ a.toNat + b.toNat)),
     (.aluSub c b, a - b, decide (b.toNat ≤ a.toNat)),
     (.aluAddc c b, a + b + BitVec.ofNat 32 k, decide (2 ^ 32 ≤ a.toNat + b.toNat + k)),
     (.aluSubb c b, a - b - BitVec.ofNat 32 (1 - k), decide (b.toNat + (1 - k) ≤ a.toNat)),
     (.aluAnd c b, a &&& b, r.alu.c), (.aluOr c b, a ||| b, r.alu.c), (.aluXor c b, a ^^^ b, r.alu.c),
     (.aluAndn c b, a &&& ~~~ b, r.alu.c), (.aluShl c b, a <<< n, r.alu.c), (.aluShr c b, a >>> n, r.alu.c),
     (.aluSar c b, a.sshiftRight n, r.alu.c), (.aluRor c b, a.rotateRight n, r.alu.c),
     (.aluClz c b, BitVec.ofNat 32 ((List.range 32).findIdx fun j => b.getLsbD (31 - j)), r.alu.c),
     (.aluPopc c b, BitVec.ofNat 32 ((List.range 32).countP fun j => b.getLsbD j), r.alu.c),
     (.aluMin c b, if a.toInt < b.toInt then a else b, r.alu.c),
     (.aluMax c b, if a.toInt < b.toInt then b else a, r.alu.c)] →
  ∃ t, exec i s = .next t ∧ s.movesTo t c { r with alu := { a := a, r := v, c := cy } }

/-- EQ, NE, LT, LTU, GE, GEU and BIT set ALU.R to 1 where the comparison of A with B (signed, or unsigned for U), or bit B[4:0] of A, holds and to 0 where it does not, and keep ALU.C; the triggers that compute logic, shifts, CLZ, POPC, MIN and MAX keep ALU.C too. -/
def Obligations.AluCompare : Prop := ∀ (s : State) (c : Ctx) (b : Word), s.issues c →
  let r := s.regs c
  let a := r.alu.a
  (∀ (i : Instr) (p : Bool), (i, p) ∈
    [(Instr.aluEq c b, decide (a = b)), (.aluNe c b, decide (a ≠ b)), (.aluLt c b, decide (a.toInt < b.toInt)),
     (.aluLtu c b, decide (a.toNat < b.toNat)), (.aluGe c b, decide (b.toInt ≤ a.toInt)),
     (.aluGeu c b, decide (b.toNat ≤ a.toNat)), (.aluBit c b, a.getLsbD (b.toNat % 32))] →
    ∃ t, exec i s = .next t ∧ s.movesTo t c { r with alu := { a := a, r := if p then 1 else 0, c := r.alu.c } }) ∧
  (∀ i ∈ [Instr.aluAnd c b, .aluOr c b, .aluXor c b, .aluAndn c b, .aluShl c b, .aluShr c b, .aluSar c b, .aluRor c b,
      .aluClz c b, .aluPopc c b, .aluMin c b, .aluMax c b],
    ∃ t, exec i s = .next t ∧ (t.regs c).alu.c = r.alu.c)

/-- MUL.S, MUL.U and MUL.MACS put the signed product, the unsigned product, and the previous trigger's result plus the signed product modulo 2^64 on their way; after the trigger and the next move MUL.P still shows what it showed without the trigger, and after the second move the product (a move that reads it is then the third after the trigger), never with a stall. MUL.S with B = 0 clears the accumulator. -/
def Obligations.MultiplyDelay : Prop :=
  (∀ (s : State) (c : Ctx) (b : Word), s.issues c →
    let r := s.regs c
    let prod : Dword := BitVec.ofInt 64 (r.mul.a.toInt * b.toInt)
    ∀ (i : Instr) (v : Dword), (i, v) ∈ [(Instr.mulS c b, prod), (.mulU c b, BitVec.ofNat 64 (r.mul.a.toNat * b.toNat)),
      (.mulMacs c b, mulLatest r.mul + prod)] →
    ∃ t, exec i s = .next t ∧
      s.movesTo t c { r with mul := { r.mul with pend := r.mul.pend ++ [{ value := v, delay := 3 }] } }) ∧
  (∀ (m : Mul) (v : Dword), (∀ x ∈ m.pend, x.delay ≤ 3) →
    let m' : Mul := { m with pend := m.pend ++ [{ value := v, delay := 3 }] }
    (mulTick m').p = (mulTick m).p ∧ (mulTick (mulTick m')).p = (mulTick (mulTick m)).p ∧
    (mulTick (mulTick (mulTick m'))).p = v ∧ mulLatest m' = v) ∧
  (∀ (s : State) (c : Ctx), s.portRead c 0x141 = .value (loW (s.regs c).mul.p) s none ∧
    s.portRead c 0x142 = .value (hiW (s.regs c).mul.p) s none)

/-- Where the access raises no exception and lies in SRAM: LD and LDX put the 1, 2 or 4 bytes at B, or BASE + B, extended as WIDTH says, on their way to LSU.R and change no memory; ST and STX store the low bytes of SD there, little-endian, and change no other byte; SWP and CAS load the word at B and store SD there, CAS only where the word equals CMP. A failing access takes its exception instead. -/
def Obligations.LoadsAndStores : Prop := ∀ (s : State) (c : Ctx) (b : Word), s.issues c →
  let r := s.regs c
  (∀ (w : Width) (i : Instr) (a : Word), (i, a) ∈ [(Instr.lsuLd c w b, b), (.lsuLdx c w b, r.lsu.base + b)] →
    let n := widthBytes (widthCode w)
    inSram a n → s.dataFault c a n .load = none → ∃ t, exec i s = .next t ∧
      s.movesTo t c { r with lsu := { r.lsu with pend := r.lsu.pend ++
        [{ res := { value := widen (widthCode w) (BitVec.ofNat 32 (s.rdLe a.toNat n)), addr := a }, delay := 3, arrived := true }] } }) ∧
  (∀ (w : Width) (i : Instr) (a : Word), (i, a) ∈ [(Instr.lsuSt c w b, b), (.lsuStx c w b, r.lsu.base + b)] →
    let n := widthBytes (widthCode w)
    inSram a n → s.dataFault c a n .store = none → ∃ t, exec i s = .next t ∧
      s.movesTo { t with mem := s.mem } c r ∧
      ∀ x, t.rd x = if a.toNat ≤ x ∧ x < a.toNat + n then BitVec.ofNat 8 (r.lsu.sd.toNat / 256 ^ (x - a.toNat)) else s.rd x) ∧
  (∀ (i : Instr) (stores : Bool), (i, stores) ∈
      [(Instr.lsuSwp c b, true), (.lsuCas c b, BitVec.ofNat 32 (s.rdLe b.toNat 4) == r.lsu.cmp)] →
    inSram b 4 → s.dataFault c b 4 .atomic = none → ∃ t, exec i s = .next t ∧
      s.movesTo { t with mem := s.mem } c { r with lsu := { r.lsu with pend := r.lsu.pend ++
        [{ res := { value := BitVec.ofNat 32 (s.rdLe b.toNat 4), addr := b }, delay := 3, arrived := true }] } } ∧
      ∀ x, t.rd x = if stores ∧ b.toNat ≤ x ∧ x < b.toNat + 4 then BitVec.ofNat 8 (r.lsu.sd.toNat / 256 ^ (x - b.toNat)) else s.rd x) ∧
  (∀ (w : Width) (code : Nat), s.dataFault c b (widthBytes (widthCode w)) .load = some code →
    ∃ u, exec (.lsuLd c w b) s = .next (u.takeException c code 0 b) ∧ u.regs c = r ∧ s.onlyMoved u c)

/-- Outside a delay slot, BR.J and BR.CALL make B, BR.REL and BR.CALLR make PC + B the pending target behind the delay slot at PC + 4; the calls write g31 with the address after the delay slot; a repeat whose body holds the branch ends. In a handler, BR.ERET with an aligned frame in the stack reloads PC and CNT from it, pops g30, leaves handler mode and, with IN_DELAY set, makes SYS.EPEND the pending target; outside a handler it takes BAD_PORT. -/
def Obligations.Branches : Prop := ∀ (s : State) (c : Ctx) (b : Word), s.issues c →
  let r := s.regs c
  (∀ (i : Instr) (target : Word) (link : Bool), (i, target, link) ∈
      [(Instr.brJ c b, b, false), (.brRel c b, r.pc + b, false), (.brCall c b, b, true), (.brCallr c b, r.pc + b, true)] →
    r.delay = none → ∃ t, exec i s = .next t ∧ s.onlyMoved t c ∧ (t.regs c).pc = r.pc + 4 ∧ (t.regs c).delay = some target ∧
      (t.regs c).rpt = { r.rpt with cnt := if r.rpt.beg.toNat ≤ r.pc.toNat ∧ r.pc.toNat < r.rpt.fin.toNat then 0 else r.rpt.cnt } ∧
      (∀ g, g < 32 → getG (t.regs c) g =
        if link ∧ g = 31 then r.pc + 4 + (if mvForm ((s.freshFetch c).heldWord c ((s.freshFetch c).preHold c 1) (r.pc + 4)) = 2 then 8 else 4) else getG r g) ∧
      (t.regs c).alu = r.alu ∧ (t.regs c).sys.moves = r.sys.moves + 1) ∧
  (r.sys.handler = true → r.delay = none → b.toNat % 4 = 0 → s.stackHolds c b.toNat false = true →
    ∃ t, exec (.brEret c b) s = .next t ∧ s.onlyMoved t c ∧ (t.regs c).pc = s.memWord b ∧
      (t.regs c).rpt = { r.rpt with cnt := s.memWord (b + 12) } ∧ getG (t.regs c) 30 = b + 16 ∧
      (t.regs c).sys.handler = false ∧ (t.regs c).winValid = 0 ∧
      (t.regs c).delay = (if bit (s.memWord (b + 4)) 8 then some r.sys.epend else none)) ∧
  (r.sys.handler = false → ∃ u, exec (.brEret c b) s = .next (u.takeException c 0x03 0x1C2 0) ∧ u.regs c = r ∧ s.onlyMoved u c)

/-- An exception outside a handler (or an event) saves PC, cause with IN_DELAY and port, fault address and repeat count in the frame; in a delay slot the pending target goes to SYS.EPEND; CNT is 0 and BEG and END stay. With EVEC 0 the frame is the fallback frame and a cask is FAULTED with the code; with S misaligned or outside a writable stack it is the fallback frame with STACK_FAULT and g30 stays; each tells keystone code on line 1. Else the four words stand at S - 16 in memory, no other byte changes, g30 is S - 16, handler mode holds and PC is EVEC. SYS_TRAP takes such an exception with code 0x0C and its value as the address. -/
def Obligations.ExceptionEntry : Prop := ∀ (s : State) (c : Ctx),
  let r := s.regs c
  let sp := getG r 30
  (∀ (code port : Nat) (addr : Word), code < 0x40 → code ≠ 0x0F → (r.sys.handler = false ∨ 0x20 ≤ code) →
    let inDelay : Bool := r.delay.isSome && decide (code < 0x20)
    let f : Frame4 := { pc := r.pc, addr := addr, rpt := r.rpt.cnt
                        cause := BitVec.ofNat 32 (code + (if inDelay then 256 else 0) + port * 65536) }
    let t := s.takeException c code port addr
    (t.regs c).rpt = { r.rpt with cnt := 0 } ∧
    (∀ d, r.delay = some d → code < 0x20 → (t.regs c).sys.epend = d) ∧
    (r.sys.evec = 0 → (t.regs c).fallback = f ∧ (t.regs c).fbValid = true ∧ (t.regs c).fault = BitVec.ofNat 8 code ∧
      t.mem = s.mem ∧ getG (t.regs c) 30 = sp ∧
      ∀ n, c = .cask n → (t.cask n.toNat).state = .faulted ∧ n.toNat ∈ t.caskBlk.faulted ∧ bit t.ks.pend 1 = true) ∧
    (r.sys.evec ≠ 0 → sp.toNat % 4 ≠ 0 ∨ s.stackHolds c (sp - 16).toNat true = false →
      (t.regs c).fallback = f ∧ (t.regs c).fault = 0x0E ∧ t.mem = s.mem ∧ getG (t.regs c) 30 = sp ∧
      ∀ n, c = .cask n → (t.cask n.toNat).state = .faulted ∧ bit t.ks.pend 1 = true) ∧
    (r.sys.evec ≠ 0 → sp.toNat % 4 = 0 → s.stackHolds c (sp - 16).toNat true = true →
      t.rdLe (sp - 16).toNat 4 = f.pc.toNat ∧ t.rdLe ((sp - 16).toNat + 4) 4 = f.cause.toNat ∧
      t.rdLe ((sp - 16).toNat + 8) 4 = addr.toNat ∧ t.rdLe ((sp - 16).toNat + 12) 4 = f.rpt.toNat ∧
      (∀ x, x < (sp - 16).toNat ∨ (sp - 16).toNat + 16 ≤ x → t.rd x = s.rd x) ∧ getG (t.regs c) 30 = sp - 16 ∧
      (t.regs c).sys.handler = true ∧ (t.regs c).pc = r.sys.evec ∧ (t.regs c).winValid = 0)) ∧
  (∀ b : Word, s.issues c → ∃ u, exec (.sysTrap c b) s = .next (u.takeException c 0x0C 0 b) ∧ u.regs c = r ∧ s.onlyMoved u c)

/-- MOVE_ISSUE of a one-word move that passes the encoding checks and whose guard fails changes nothing but what one move passing changes: PC, window, repeat count, move count and the ages of products and loads; an encoding exception is raised whether or not the guard passes. -/
def Obligations.GuardedOff : Prop := ∀ (s : State) (c : Ctx) (w : Word) (m : Mv), s.issues c →
  let r := s.regs c
  s.fetchOk c r.pc = true → (s.freshFetch c).heldWord c (windowOf r) r.pc = w →
  (moveOf w ((s.freshFetch c).heldWord c (windowOf r) (r.pc + 4)) = .ok m → m.len = 1 → guardOk (getG r) m.guard = false → s.encFault c m = none →
    ∃ t, exec (.moveIssue c false false) s = .next t ∧ s.movesTo t c r) ∧
  (∀ code, mvForm w ≠ 2 → moveOf w ((s.freshFetch c).heldWord c (windowOf r) (r.pc + 4)) = .error code →
    ∃ u, exec (.moveIssue c false false) s = .next (u.takeException c code 0 0) ∧ u.regs c = r ∧ s.onlyMoved u c) ∧
  (∀ (code port : Nat), mvForm w ≠ 2 → moveOf w ((s.freshFetch c).heldWord c (windowOf r) (r.pc + 4)) = .ok m → s.encFault c m = some (code, some port) →
    ∃ u, exec (.moveIssue c false false) s = .next (u.takeException c code port 0) ∧ u.regs c = r ∧ s.onlyMoved u c)

/-- MOVE_ISSUE of an unguarded move of an immediate or of a general register into a general register writes the converted value there, and to g0 writes nothing. A valid macro that the context may use writes its result on a general register's value. RNG.W gives the next word of the core's buffer and takes it out. Load data that arrives for the one load that is due becomes LSU.R. -/
def Obligations.MovesAndReads : Prop := ∀ (s : State) (c : Ctx), s.issues c →
  let r := s.regs c
  (∀ (w : Word), s.fetchOk c r.pc = true → (s.freshFetch c).heldWord c (windowOf r) r.pc = w → mvGuard w = 0 → mvDst w < 32 →
    (mvForm w = 1 → ∃ t, exec (.moveIssue c false false) s = .next t ∧
      s.movesTo t c (setG r (mvDst w) (widen (mvWidth w) (mvImm w)))) ∧
    (mvForm w = 0 → mvSrc w < 32 → ∃ t, exec (.moveIssue c false false) s = .next t ∧
      s.movesTo t c (setG r (mvDst w) (widen (mvWidth w) (getG r (mvSrc w)))))) ∧
  (∀ (src : BitVec 12) (index : BitVec 6) (rd : BitVec 5), src.toNat < 32 → (s.mac index.toNat).valid = true →
    macroSeen s c index.toNat = true → ∃ t, exec (.macroMove c src index rd) s = .next t ∧
      s.movesTo t c (setG r rd.toNat (macroOut (s.macUops index.toNat) (getG r) (getG r src.toNat)))) ∧
  (∀ (rd : BitVec 5) (w : Word) (ws : List Word), s.granted c 5 = true → s.vault.rngFail = false →
    tget s.rng.buffers (s.coreOf c) [] = w :: ws → ∃ t, exec (.rngWRead c rd) s = .next t ∧
      s.movesTo { t with rng := s.rng } c (setG { r with rngSt := false } rd.toNat w) ∧
      tget t.rng.buffers (s.coreOf c) [] = ws) ∧
  (∀ (ecc : Bool) (x : PendLoad), s.alive = true → r.aside = none → r.lsu.pend = [x] → x.arrived = false → x.delay = 0 →
    ∃ t, exec (.loadDataArrival c ecc) s = .next t ∧ s.onlyMoved t c ∧
      t.regs c = { r with lsu := { r.lsu with r := { x.res with ecc := x.res.ecc || ecc }, pend := [] } })

/-- WAIT and WAITC whose mask is 0 or meets a pending line end at once with GOT = PEND & mask, WAITC clearing those lines; else the wait is in force and a cask is WAITING. CLR clears the lines of its mask. SEND without a grant reports DENIED and raises nothing; a cask's send to itself reports OK and the line is pending; EVT_WAIT_END ends a wait whose line has come, for keystone code with GOT at once. -/
def Obligations.EventWaits : Prop := ∀ (s : State) (c : Ctx) (b : Word),
  let r := s.regs c
  let p := s.pendOf c
  (s.issues c → (b = 0 ∨ p &&& b ≠ 0) →
    (∃ t, exec (.evtWait c b) s = .next t ∧ s.movesTo t c { r with wait := {}, evt := { r.evt with got := p &&& b } }) ∧
    (∃ t, exec (.evtWaitc c b) s = .next t ∧ t.regs c = Regs.goesOn { r with wait := {}, evt := { r.evt with got := p &&& b } } (t.regs c) ∧
      t.pendOf c = p &&& ~~~ b ∧ t = { s with casks := t.casks, ks := t.ks, pwr := t.pwr, stale := t.stale, draw := t.draw })) ∧
  (s.issues c → b ≠ 0 → p &&& b = 0 →
    ∀ (i : Instr) (k : WaitKind), (i, k) ∈ [(Instr.evtWait c b, WaitKind.wait), (.evtWaitc c b, .waitc)] →
    ∃ t, exec i s = .next t ∧ s.movesTo t c { r with wait := { kind := k, mask := b } } ∧
      ∀ n, c = .cask n → (t.cask n.toNat).state = .waiting) ∧
  (s.issues c → ∃ t, exec (.evtClr c b) s = .next t ∧ t.regs c = r.goesOn (t.regs c) ∧ t.pendOf c = p &&& ~~~ b ∧
    t = { s with casks := t.casks, ks := t.ks, pwr := t.pwr, stale := t.stale, draw := t.draw }) ∧
  (s.issues c → s.sendGranted c (bit b 10) (fld b 0 10) (fld b 16 5) = false →
    ∃ t, exec (.evtSend c b) s = .next t ∧ s.movesTo t c { r with evt := { r.evt with sst := 1 } }) ∧
  (∀ n : BitVec 10, s.issues c → c = .cask n → bit b 10 = false → fld b 0 10 = n.toNat → ∃ t, exec (.evtSend c b) s = .next t ∧
    (t.regs c).evt.sst = 0 ∧ t.pendOf c = p ||| oneHot (fld b 16 5)) ∧
  (∀ m : Word, s.alive = true → c = .keystone → r.wait = { kind := .wait, mask := m } → p &&& m ≠ 0 →
    exec (.evtWaitEnd c) s = .next { s with ks := { s.ks with regs := { r with wait := {}, evt := { r.evt with got := p &&& m } } } })

/-- UNTIL, AFTER and UNTIL64 end at once, with WHY, where the target is reached or a line of WMASK is pending, and else wait for the target (AFTER: TIME at issue + B, B from 0x80000000 up acting as 0x7FFFFFFF). ALRM arms the alarm; at its target the alarm disarms and, enabled, raises its line. A timed wait of keystone code ends at its target. GO sets BEG, END and CNT from N and goes to END for N = 0; in a delay slot it only clears CNT. -/
def Obligations.TimersAndRepeat : Prop := ∀ (s : State) (c : Ctx) (b : Word),
  let r := s.regs c
  let now := loW s.clk.time
  (∀ (i : Instr) (up : Bool) (w : Wait), s.issues c → (i, up, w) ∈
      [(Instr.tmrUntil c b, decide ((now - b).toNat < 2 ^ 31), { kind := .time, target := b.setWidth 64 }),
       (.tmrAfter c b, decide (b = 0), { kind := .time, target := (now + (if b.toNat < 2 ^ 31 then b else 0x7FFFFFFF)).setWidth 64 }),
       (.tmrUntil64 c b, decide (r.tmr.thi.toNat * 2 ^ 32 + b.toNat ≤ s.clk.time.toNat), { kind := .time64, target := dword r.tmr.thi b })] →
    let ev : Bool := decide (s.pendOf c &&& r.tmr.wmask ≠ 0)
    ∃ t, exec i s = .next t ∧
      ((up || ev) = true → s.movesTo t c
        { r with wait := {}, tmr := { r.tmr with why := BitVec.ofNat 2 ((if up then 1 else 0) + if ev then 2 else 0) } }) ∧
      ((up || ev) = false → s.movesTo t c { r with wait := w } ∧ ∀ n, c = .cask n → (t.cask n.toNat).state = .waiting)) ∧
  (s.issues c → ∃ t, exec (.tmrAlrm c b) s = .next t ∧ s.movesTo t c { r with tmr := { r.tmr with armed := true, target := b } }) ∧
  (∀ t1 : Time, s.alive = true → s.timeCounts = true → s.clk.time.toNat ≤ t1.toNat → r.tmr.armed = true →
    ((loW t1) - r.tmr.target).toNat < 2 ^ 31 → ∃ t, exec (.tmrAlarmFire c t1) s = .next t ∧ t.clk.time = t1 ∧
      (t.regs c).tmr = { r.tmr with armed := false } ∧
      (bit r.tmr.aline 8 = true → s.ctxLive c = true → t.pendOf c = s.pendOf c ||| oneHot (fld r.tmr.aline 0 5)) ∧
      (bit r.tmr.aline 8 = false → t.pendOf c = s.pendOf c)) ∧
  (∀ (t1 : Time) (x : Dword), s.alive = true → s.timeCounts = true → s.clk.time.toNat ≤ t1.toNat → c = .keystone →
    r.wait = { kind := .time64, target := x } → x.toNat ≤ t1.toNat → ∃ t, exec (.timedWaitEnd c t1) s = .next t ∧
      (t.regs c).wait = {} ∧ bit (t.regs c).tmr.why 0 = true ∧ t.clk.time = t1) ∧
  (s.issues c → r.delay = none → ∃ t, exec (.rptGo c b) s = .next t ∧ s.onlyMoved t c ∧
    (t.regs c).rpt.cnt = r.rpt.n ∧ (t.regs c).rpt.beg = r.pc + 4 ∧
    (t.regs c).rpt.fin = r.pc + 4 + BitVec.ofNat 32 (4 * (if fld b 0 10 = 0 then 1024 else fld b 0 10)) ∧
    (t.regs c).pc = if r.rpt.n = 0 then (t.regs c).rpt.fin else r.pc + 4) ∧
  (s.issues c → r.delay.isSome = true → ∃ t, exec (.rptGo c b) s = .next t ∧ s.onlyMoved t c ∧
    (t.regs c).rpt = { r.rpt with cnt := 0 }) ∧
  (s.issues c → r.rpt.fin - 4 ≠ r.pc → ∃ t, exec (.rptCntWrite c b) s = .next t ∧ s.onlyMoved t c ∧
    (t.regs c).rpt = { r.rpt with cnt := b })

/-- A STR trigger with LEN 0 completes at once, OP 0 and R 0 but for a resumed CMP or CMPCT; with LEN not 0 it holds the context with OP its code, R kept only when it resumes the same operation. A step that covers the rest of a FILL in SRAM stores VAL in exactly those bytes, leaves LEN 0 and OP 0, and the context goes on; a step whose access is refused takes the exception. -/
def Obligations.StringOperations : Prop := ∀ (s : State) (c : Ctx),
  let r := s.regs c
  let x := r.str
  (∀ (i : Instr) (op : BitVec 3), s.issues c → (i, op) ∈ [(Instr.strCopy c, (1 : BitVec 3)), (.strCopyd c, 2), (.strFill c, 3), (.strCmp c, 4),
      (.strCmpct c, 5), (.strScan c, 6)] →
    (x.len = 0 → ∃ t, exec i s = .next t ∧ s.movesTo t c { r with
      str := { x with op := 0, r := (op == 4 || op == 5) && x.op == op && x.r } }) ∧
    (x.len ≠ 0 → ∃ t, exec i s = .next t ∧ s.onlyMoved t c ∧ (t.regs c).pc = r.pc ∧
      (t.regs c).str = { x with op := op, r := x.op == op && x.r, busy := true, long := false })) ∧
  (∀ n : Fin 8, s.canIssue c = true → x.busy = true → x.op = 3 → x.long = false → 0 < x.len.toNat → x.len.toNat ≤ n.val + 1 →
    inSram x.dst x.len.toNat → (∀ j, j < x.len.toNat → s.dataFault c (x.dst + BitVec.ofNat 32 j) 1 .store = none) →
    ∃ t, exec (.stringStep c n) s = .next t ∧
      (t.regs c).str = { x with dst := x.dst + x.len, len := 0, op := 0, busy := false } ∧ r.inOrder (t.regs c) ∧
      ∀ a, t.rd a = if x.dst.toNat ≤ a ∧ a < x.dst.toNat + x.len.toNat then x.val else s.rd a) ∧
  (∀ (n : Fin 8) (code : Nat), s.canIssue c = true → x.busy = true → x.op = 3 → 0 < x.len.toNat →
    s.dataFault c x.dst 1 .store = some code → exec (.stringStep c n) s = .next (s.takeException c code 0 x.dst))

/-- SYS.SYNC discards the prefetch window, and a fetch then gives the word in memory; SYS.YIELD ends a cask's slice and does nothing for keystone code; a cask's SYS.CONSENT takes bit 0, keystone code's stays. CTR.READ and CTR.INC of an owned counter leave ST PENDING, of one not owned NOT_OWNED, and an amount outside 1-64 BAD_AMOUNT. A completed READ gives the value, a completed INC adds the amount and gives the new value, AT_MAX when it would pass 2^64 - 1, and NVM_FAULT for a record without a valid base. -/
def Obligations.SystemAndCounters : Prop := ∀ (s : State) (c : Ctx) (b : Word),
  let r := s.regs c
  (s.issues c → ∃ t, exec (.sysSync c) s = .next t ∧ s.movesTo t c r ∧ (t.regs c).winValid = 0 ∧
    ∀ a, t.heldWord c [] a = t.memWord a) ∧
  (s.issues c → ∃ t, exec (.sysYield c) s = .next t ∧ s.movesTo t c r ∧
    ∀ n, c = .cask n → (t.cask n.toNat).lastEnd = s.clk.time) ∧
  (s.issues c → ∃ t, exec (.sysConsentWrite c b) s = .next t ∧
    s.movesTo t c (if c = .keystone then r else { r with sys := { r.sys with consent := bit b 0 } })) ∧
  (∀ k : Nat, s.issues c → s.granted c 4 = true → r.ctr.op = none →
    (s.ctrSelected c false = some k → ∃ t, exec (.ctrRead c) s = .next t ∧
      s.movesTo t c { r with ctr := { r.ctr with st := 1, op := some { counter := k } } }) ∧
    (s.ctrSelected c true = some k → k < 4096 → 1 ≤ b.toNat → b.toNat ≤ 64 → ∃ t, exec (.ctrInc c b) s = .next t ∧
      s.movesTo t c { r with ctr := { r.ctr with st := 1, op := some { counter := k, inc := some b.toNat } } }) ∧
    (s.ctrSelected c true = some k → b = 0 ∨ 64 < b.toNat → ∃ t, exec (.ctrInc c b) s = .next t ∧
      s.movesTo t c { r with ctr := { r.ctr with st := 3 } }) ∧
    (s.ctrSelected c true = none → ∃ t, exec (.ctrInc c b) s = .next t ∧ s.movesTo t c { r with ctr := { r.ctr with st := 2 } })) ∧
  (∀ (k v : Nat), s.alive = true → ¬ (3 ≤ k ∧ k ≤ 127) → ctrVal (s.ctr k) = some v → v < 2 ^ 64 →
    (r.ctr.op = some { counter := k } → ∃ t, exec (.ctrOpDone c false) s = .next t ∧
      (t.regs c).ctr = { r.ctr with op := none, st := 0, lo := BitVec.ofNat 32 v, hi := BitVec.ofNat 32 (v / 2 ^ 32) } ∧ t.ctrs = s.ctrs) ∧
    (∀ n : Nat, r.ctr.op = some { counter := k, inc := some n } → v + n < 2 ^ 64 → ∃ t, exec (.ctrOpDone c false) s = .next t ∧
      (t.regs c).ctr = { r.ctr with op := none, st := 0, lo := BitVec.ofNat 32 (v + n), hi := BitVec.ofNat 32 ((v + n) / 2 ^ 32) } ∧
      t.ctr k = ctrInc (s.ctr k) n ∧ ∀ j, j ≠ k → t.ctr j = s.ctr j) ∧
    (∀ n : Nat, r.ctr.op = some { counter := k, inc := some n } → 2 ^ 64 ≤ v + n → ∃ t, exec (.ctrOpDone c false) s = .next t ∧
      (t.regs c).ctr = { r.ctr with op := none, st := 4 } ∧ t.ctrs = s.ctrs)) ∧
  (∀ k : Nat, s.alive = true → ¬ (3 ≤ k ∧ k ≤ 127) → ctrVal (s.ctr k) = none → (∃ i, r.ctr.op = some { counter := k, inc := i }) →
    ∃ t, exec (.ctrOpDone c false) s = .next t ∧ (t.regs c).ctr = { r.ctr with op := none, st := 5 } ∧ t.ctrs = s.ctrs)

/-- A DEC_MAC write whose VALID is 0, or whose entries all exist and are micro-ops, sets the descriptor; else it is stored with VALID 0 and ERR, BAD_MACRO and the first bad entry are recorded. A DEC_UCODE write inside a valid macro is ignored with ERR, so every valid macro keeps its micro-ops; elsewhere it sets the entry. -/
def Obligations.MacroStore : Prop := ∀ (s : State) (v : Word), s.ksWriter = true →
  (∀ n : BitVec 6, ((macOf v).valid = false ∨ ∀ j ∈ macEntries (macOf v), j < 1024 ∧ uopOk (s.uop j) = true) →
    exec (.decMacWrite n v) s = .next { s with dec := { s.dec with macs := tset s.dec.macs n.toNat (macOf v) } }) ∧
  (∀ (n : BitVec 6) (j : Nat), (macOf v).valid = true → j ∈ macEntries (macOf v) → (1024 ≤ j ∨ uopOk (s.uop j) = false) →
    ∃ t, exec (.decMacWrite n v) s = .next t ∧ (t.mac n.toNat).valid = false ∧ t.dec.err = true ∧
      t.dec.badMacro = n ∧ t.dec.ucode = s.dec.ucode ∧ (∀ m, m ≠ n.toNat → t.mac m = s.mac m)) ∧
  (∀ (e : BitVec 10) (n : Nat), (s.mac n).valid = true → ∃ t, exec (.decUcodeWrite e v) s = .next t ∧
    t.macUops n = s.macUops n ∧ t.dec.macs = s.dec.macs) ∧
  (∀ e : BitVec 10, s.macHolding e.toNat = none → exec (.decUcodeWrite e v) s =
    .next { s with dec := { s.dec with ucode := tset s.dec.ucode e.toNat v } })

/-- While no wipe of the selected cask runs, CASK_ENABLE answers BAD_STATE, NO_CODE, BAD_SEGMENT, KS_REGION, NVM_NOT_OWNED or OVERLAP for the first check of R228 that fails, the cask as it was, and starts the cask READY with an empty prefetch window, and no old code word to fetch, when all pass. A window write takes effect in DISABLED, and beyond the descriptors in FAULTED without a sealed segment; any other answers BAD_STATE. HOSTPATH changes only in DISABLED. That CLASS still applies when HOSTPATH is refused is the model's choice, log entry 31; which range an empty CASK_KSLO-CASK_KSHI covers, log entry 30. -/
def Obligations.EnableChecks : Prop := ∀ s : State, s.ksWriter = true →
  let n := s.caskBlk.sel.toNat
  let k := s.cask n
  let segs := [k.code, k.data, k.stack, k.shared]
  let top (g : Seg) : Nat := g.base.toNat + g.size.toNat
  let here (g : Seg) : Prop := g.size ≠ 0
  let sram (g : Seg) : Prop := sramBase ≤ g.base.toNat ∧ top g ≤ sramBase + sramSize
  let user (g : Seg) : Prop := flashBase ≤ g.base.toNat ∧ top g ≤ flashEnd
  let meet (g h : Seg) : Prop := here g ∧ here h ∧ g.base.toNat < top h ∧ h.base.toNat < top g
  let hasCode : Prop := here k.code ∧ sram k.code ∧ k.code.x = true
  let wellFormed : Prop :=
    (∀ g ∈ segs, here g → g.base.toNat % 64 = 0 ∧ g.size.toNat % 64 = 0 ∧ (sram g ∨ user g ∧ g.w = false ∧ g.sealed = false)) ∧
    (∀ g ∈ [k.data, k.stack, k.shared], here g → g.x = false) ∧ (∀ g ∈ [k.code, k.shared], here g → g.sealed = false) ∧
    (∀ g ∈ [k.code, k.data, k.stack], here g → g.group = 0) ∧ (here k.stack → k.stack.r = true ∧ k.stack.w = true)
  let offKs : Prop := ∀ g ∈ segs, here g → s.caskBlk.kslo.toNat ≤ s.caskBlk.kshi.toNat →
    ¬ (g.base.toNat ≤ s.caskBlk.kshi.toNat ∧ s.caskBlk.kslo.toNat < top g)
  let owned : Prop := ∀ g ∈ segs, here g → user g → ∀ a, g.base.toNat ≤ a → a < top g → s.sectOwner ((a - flashBase) / 0x4000) = n
  let apart : Prop := segs.Pairwise (fun g h => ¬ meet g h) ∧
    ∀ e ∈ s.casks, e.1 ≠ n → e.2.state ≠ .disabled →
      (∀ g ∈ segs, ∀ h ∈ [e.2.code, e.2.data, e.2.stack], ¬ meet g h) ∧
      (∀ g ∈ [k.code, k.data, k.stack], ¬ meet g e.2.shared) ∧
      (meet k.shared e.2.shared → k.shared.base = e.2.shared.base ∧ k.shared.size = e.2.shared.size ∧
        k.shared.group = e.2.shared.group)
  let answers (r : BitVec 4) : Prop := exec .caskEnable s = .next { s with caskBlk := { s.caskBlk with cmd := 1, result := r } }
  (k.wipeErase = false →
    (k.state ≠ .disabled → answers 1) ∧
    (k.state = .disabled →
      (¬ hasCode → answers 2) ∧ (hasCode → ¬ wellFormed → answers 3) ∧ (hasCode → wellFormed → ¬ offKs → answers 5) ∧
      (hasCode → wellFormed → offKs → ¬ owned → answers 6) ∧ (hasCode → wellFormed → offKs → owned → ¬ apart → answers 4) ∧
      (hasCode → wellFormed → offKs → owned → apart →
        let r := { k.regs with window := [], winValid := 0, delay := none }
        ∃ t, exec .caskEnable s = .next t ∧ tget t.stale n [] = [] ∧
          t = { s with casks := tset s.casks n { k with state := .ready, regs := r, saved := r }
                       caskBlk := { s.caskBlk with cmd := 1, result := 0 }, stale := t.stale }))) ∧
  (∀ (off : BitVec 9) (v : Word), off.toNat % 4 = 0 →
    let open' : Prop := k.state = .disabled ∨ 0x040 ≤ off.toNat ∧ k.state = .faulted ∧ ∀ g ∈ segs, here g → g.sealed = false
    (open' → exec (.caskWinWrite off v) s = .next { s with casks := tset s.casks n (winWrite k off.toNat v) }) ∧
    (¬ open' → exec (.caskWinWrite off v) s = .next { s with caskBlk := { s.caskBlk with result := 1 } }) ∧
    (off = 0x040 → (winWrite k off.toNat v).regs.pc = v) ∧
    (∀ i : Nat, 0 < i → i < 32 → off.toNat = 0x50 + 4 * i → getG (winWrite k off.toNat v).regs i = v)) ∧
  (∀ (m : BitVec 10) (v : Word),
    let j := s.cask m.toNat
    let path : BitVec 2 := BitVec.ofNat 2 (v.toNat / 16)
    let cls : BitVec 3 := BitVec.ofNat 3 v.toNat
    (path = j.hostPath ∨ j.state = .disabled →
      exec (.caskCtlWrite m v) s = .next { s with casks := tset s.casks m.toNat { j with cls := cls, hostPath := path } }) ∧
    (path ≠ j.hostPath → j.state ≠ .disabled →
      exec (.caskCtlWrite m v) s = .next { s with casks := tset s.casks m.toNat { j with cls := cls }
                                                  caskBlk := { s.caskBlk with result := 1 } }))

/-- Outside DISABLED and DISABLING, DISABLE, RESET and WIPE put the selected cask in DISABLING with lines, boost and alarm cleared, its press job ended with ABORTED, its queued requests dropped, its LNK page reset and CASK_OFF in C2H. The commands that R270 and R216 give for the other states act so. The end of a drain zeroizes the context and the sealed segments; DISABLE and RESET add keystone line 3 and the EVT_DRAINED bit, RESET starts the cask at the code BASE with g30 at the stack's end under ENABLE's checks, with line 6; a WIPE then erases the cask's sectors and frees its slots. -/
def Obligations.CaskCommands : Prop := ∀ s : State,
  let n := s.caskBlk.sel.toNat
  let k := s.cask n
  let done (i : Instr) (c r : BitVec 4) : Prop := exec i s = .next { s with caskBlk := { s.caskBlk with cmd := c, result := r } }
  let resetTo (j : Cask) (r : Regs) : Prop := r.pc = j.code.base ∧
    getG r 30 = (if j.stack.size = 0 then 0 else j.stack.base + j.stack.size) ∧ (∀ i, i ≠ 30 → getG r i = 0) ∧
    { r with pc := 0, g := [] } = {}
  (s.ksWriter = true →
    (∀ (i : Instr) (c : BitVec 4) (d : DrainCmd),
      (i, c, d) ∈ [(Instr.caskDisable, (2 : BitVec 4), DrainCmd.disable), (.caskReset, 4, .reset), (.caskWipe, 5, .wipe)] →
      k.state ≠ .disabled → k.state ≠ .disabling →
      ∃ t, exec i s = .next t ∧
        t = { s with nvm := t.nvm, vault := t.vault, ks := t.ks, casks := t.casks, caskBlk := t.caskBlk, press := t.press, lat := t.lat, lanes := t.lanes, lnk := t.lnk, tile := t.tile, frame := t.frame, span := t.span, host := t.host, out := t.out } ∧
        t.caskBlk = { s.caskBlk with cmd := c, result := 0 } ∧
        (let j := t.cask n
         j.state = .disabling ∧ j.drain = some d ∧ j.pend = 0 ∧ j.boosted = false ∧ j.leaving = k.slot.isSome ∧
          j.regs.tmr.armed = false ∧ j.regs.str.busy = false ∧ [j.code, j.data, j.stack, j.shared] = [k.code, k.data, k.stack, k.shared] ∧
          j.cls = k.cls ∧ j.hostPath = k.hostPath) ∧
        tget t.press.pages n {} = { result := if (tget s.press.pages n {}).job.isSome then 10 else 0 } ∧
        t.vault = { s.vault with queue := s.vault.queue.filter (fun r => r.ctx ≠ .cask s.caskBlk.sel)
                                 pkeQueue := s.vault.pkeQueue.filter fun r => r.ctx ≠ .cask s.caskBlk.sel } ∧
        t.nvm = { s.nvm with queue := s.nvm.queue.filter fun r => r.ctx ≠ .cask s.caskBlk.sel } ∧
        t.lnk = tset s.lnk n {} ∧ (t.pageIf n).c2h = 0xFFFFFFF1 ∧
        (s.tabsOk → ∀ m, m ≠ n → t.cask m = s.cask m)) ∧
    (k.state = .disabled → done .caskDisable 2 0) ∧ (k.state = .disabling → done .caskDisable 2 1 ∧ done .caskReset 4 1) ∧
    (k.state = .faulted → exec .caskResume s =
      .next { s with casks := tset s.casks n { k with state := .ready, regs := { k.regs with fault := 0, fbValid := false } }
                     caskBlk := { s.caskBlk with cmd := 3, result := 0 } }) ∧
    (k.state ≠ .faulted → done .caskResume 3 1) ∧
    (k.state = .disabling → k.wipeErase = false → exec .caskWipe s =
      .next { s with casks := tset s.casks n { k with drain := some .wipe }
                     caskBlk := { s.caskBlk with cmd := 5, result := 0 } }) ∧
    (k.state = .disabled → k.wipeErase = false →
      (∃ t u, exec .caskReset s = .next t ∧ exec .caskEnable s = .next u ∧ t.caskBlk = { u.caskBlk with cmd := 4 } ∧
        t = { s with casks := t.casks, caskBlk := t.caskBlk, ks := { s.ks with pend := s.ks.pend ||| oneHot 6 }, stale := t.stale } ∧
        (t.cask n).state = (u.cask n).state ∧ resetTo k (t.cask n).regs ∧ ∀ m, m ≠ n → t.cask m = s.cask m) ∧
      (∃ t, exec .caskWipe s = .next t ∧
        t = { s with mem := t.mem, casks := tset s.casks n { k with wipeErase := true }, lat := t.lat, frame := t.frame, host := t.host, caskBlk := { s.caskBlk with cmd := 5, result := 0 } } ∧
        (∀ i, i < 0x1000 → t.rd (pagesBase + 0x1000 * n + i) = 0) ∧ t.pageIf n = {} ∧
        (∀ g ∈ [k.code, k.data, k.stack], ∀ a, sramBase ≤ g.base.toNat → g.base.toNat + g.size.toNat ≤ sramBase + sramSize →
          g.base.toNat ≤ a → a < g.base.toNat + g.size.toNat → t.rd a = 0) ∧
        t.lat = { s.lat with objs := s.lat.objs.filter fun e => e.2.owner ≠ n }))) ∧
  (∀ m : BitVec 10,
    let j := s.cask m.toNat
    let p := s.ks.pend
    let told (t : State) : Prop := m.toNat ∈ t.caskBlk.drained ∧
      ∀ x, x ≠ m.toNat → (x ∈ t.caskBlk.drained ↔ x ∈ s.caskBlk.drained)
    (s.alive = true → j.state = .disabling → j.wipeErase = false → s.drainReady m.toNat = true → ∀ d, j.drain = some d →
      ∃ t, exec (.caskDrainDone m) s = .next t ∧ (∀ x, x ≠ m.toNat → t.cask x = s.cask x) ∧
        (d ≠ .wipe → ∀ a, (∀ g ∈ [j.code, j.data, j.stack, j.shared], g.sealed = true →
            ¬ (g.base.toNat ≤ a ∧ a < g.base.toNat + g.size.toNat)) → t.rd a = s.rd a) ∧
        (∀ g ∈ [j.code, j.data, j.stack, j.shared], g.sealed = true → ∀ a, sramBase ≤ g.base.toNat →
          g.base.toNat ≤ a → a < g.base.toNat + g.size.toNat → g.base.toNat + g.size.toNat ≤ sramBase + sramSize → t.rd a = 0) ∧
        (d = .disable → t.cask m.toNat = { j with state := .disabled, drain := none, regs := {}, saved := {} } ∧ told t ∧
          t.ks = { s.ks with pend := p ||| oneHot 3 }) ∧
        (d = .reset → ((t.cask m.toNat).state = .ready ∨ (t.cask m.toNat).state = .disabled ∧ t.caskBlk.result ≠ 0) ∧
          (t.cask m.toNat).drain = none ∧ resetTo j (t.cask m.toNat).regs ∧ told t ∧
          t.ks = { s.ks with pend := p ||| oneHot 6 ||| oneHot 3 }) ∧
        (d = .wipe → t.cask m.toNat = { j with wipeErase := true, regs := {}, saved := {} } ∧ t.ks = s.ks)) ∧
    (j.state ≠ .disabling ∨ j.drain = none ∨ s.drainReady m.toNat = false → exec (.caskDrainDone m) s = .next s) ∧
    (s.alive = true → j.wipeErase = true → ∃ t, exec (.caskWipeEraseDone m) s = .next t ∧
      t = { s with mem := t.mem, casks := tset s.casks m.toNat { j with state := .disabled, drain := none, wipeErase := false }, caskBlk := { s.caskBlk with drained := t.caskBlk.drained }, nvm := { s.nvm with journal := t.nvm.journal }, vault := { s.vault with slots := s.vault.slots.filter fun e => e.2.owner.toNat ≠ m.toNat }, ks := { s.ks with pend := p ||| oneHot 3 } } ∧
      told t ∧
      (∀ e ∈ s.nvm.sectOwn, e.2.toNat = m.toNat → e.1 < 960 → ∀ i, i < 0x4000 → t.rd (sectorAddr e.1 + i) = 0xFF) ∧
      (∀ a, (∀ e ∈ s.nvm.sectOwn, e.2.toNat = m.toNat → ¬ (sectorAddr e.1 ≤ a ∧ a < sectorAddr e.1 + 0x4000)) →
        t.rd a = s.rd a)))

/-- CONTEXT_SWAP_IN_DONE puts into an empty usable slot the READY cask that ranks first by R259 (boosted, within budget, beyond it without CAP; then PRIO, then the earliest boost or slice end), ending its boost, and nothing when none qualifies. SLICE_END makes a cask leave when a candidate ranks before it, when it waits and a candidate exists, or when CAP stops it, and keep its slot when none of these holds and no candidate ties with it. CONTEXT_SWAP_OUT_DONE saves a leaving cask whose loads are in and frees the slot; a cask within its budget is not displaced. SCHED_WINDOW_START sets budgets by R257 and takes PRIO and CAP into force (R263). Which of two casks of equal rank comes first is free, log entry 32. -/
def Obligations.Scheduling : Prop := ∀ s : State,
  let ord (k : Cask) : Nat := if k.boosted then 1 else if k.used < k.budget then 2 else 3
  let rank (k : Cask) : Nat := if k.boosted then k.boostAt.toNat else k.lastEnd.toNat
  let before (a b : Nat × Cask) : Prop := ord a.2 < ord b.2 ∨ ord a.2 = ord b.2 ∧ (b.2.winPrio.toNat < a.2.winPrio.toNat ∨
    a.2.winPrio = b.2.winPrio ∧ rank a.2 < rank b.2)
  let cand (k : Cask) : Prop := k.state = .ready ∧ k.slot = none ∧ (k.winCap = true → k.used < k.budget)
  let now := s.clk.time
  (s.tabsOk → s.frozen = false → s.schedules = true → ∀ slot : Fin 64,
    (slot ≠ 0 → s.coreOn (slot.val % 16) = true → (∀ e ∈ s.casks, e.2.slot ≠ some slot.val) →
      ((∀ e ∈ s.casks, ¬ cand e.2) → exec (.contextSwapInDone slot) s = .next s) ∧
      ((∃ e ∈ s.casks, cand e.2) → ∃ t, ∃ e ∈ s.casks, exec (.contextSwapInDone slot) s = .next t ∧ cand e.2 ∧
        (∀ x ∈ s.casks, cand x.2 → ¬ before x e) ∧
        t = { s with clk := { s.clk with gated := t.clk.gated }, draw := t.draw
                     casks := tset s.casks e.1 { e.2 with slot := some slot.val, leaving := false, holdSince := now, boosted := false, boostUsed := e.2.boostUsed || e.2.boosted } })) ∧
    (∀ e ∈ s.casks, e.2.slot = some slot.val → (∀ x ∈ s.casks, x.2.slot = some slot.val → x = e) →
      (e.2.leaving = false → ∃ l : Bool, exec (.sliceEnd slot) s =
          .next { s with casks := tset s.casks e.1 { e.2 with lastEnd := now, leaving := l } } ∧
        (let me : Nat × Cask := (e.1, { e.2 with lastEnd := now })
         let stop : Prop := e.2.winCap = true ∧ e.2.budget ≤ e.2.used
         (stop ∨ (∃ x ∈ s.casks, cand x.2 ∧ (e.2.state = .waiting ∨ before x me)) → l = true) ∧
         (l = true → stop ∨ ∃ x ∈ s.casks, cand x.2 ∧ (e.2.state = .waiting ∨ ¬ before me x)))) ∧
      (e.2.leaving = true → (∀ l ∈ e.2.regs.lsu.pend, l.arrived = true) →
        let r := { e.2.regs with str := { e.2.regs.str with busy := false } }
        ∃ t, exec (.contextSwapOutDone slot) s = .next t ∧
          t = { s with clk := { s.clk with gated := t.clk.gated }
                       casks := tset s.casks e.1 { e.2 with slot := none, leaving := false, regs := r, saved := r, lastEnd := now, state := if e.2.state = .running then .ready else e.2.state } }) ∧
      (e.2.leaving = false → e.2.boosted = true ∨ e.2.used < e.2.budget ∨ (∀ x ∈ s.casks, x.2.boosted = false) →
        exec (.contextSwapOutDone slot) s = .next s))) ∧
  (∀ tick : Time, tick.toNat % 100000 = 0 → s.timeCounts = true →
    let share (k : Cask) : Prop := k.state = .ready ∨ k.state = .running ∨ k.state = .waiting
    let total := ((s.casks.filter fun e => decide (share e.2)).map fun e => e.2.weight.toNat).sum
    let slots := 3 + 4 * (List.range 15).countP fun i => s.coreOn (i + 1)
    let budget (k : Cask) : Nat := if share k then min 100000 (slots * 100000 * k.weight.toNat / total) else 0
    exec (.schedWindowStart tick) s = .next { s with
      clk := { s.clk with time := if now.toNat < tick.toNat then tick else now }
      sched := { s.sched with slots := BitVec.ofNat 7 slots, w := BitVec.ofNat 18 total }
      casks := s.casks.map fun e => (e.1, { e.2 with used := 0, boostUsed := false, winPrio := e.2.prio, winCap := e.2.cap, budget := budget e.2 }) })

/-- A context that can issue writes its block and GO: the request joins the end of its service's queue with the block's operation and operands, DONE is cleared, and nothing else changes. While a request of that block is pending GO is ignored and only the block's words are stored. A context that issues no move changes nothing. A page write that finds the service idle is checked at once in R295's order and is served or completes with the code of the first check that fails. That 32 deferred entries make the service BUSY is the model's choice, log entry 36. -/
def Obligations.ServiceRequests : Prop := ∀ (s : State) (c : Ctx) (r : Req),
  let w0 : Nat → Nat := fun op => op + r.typ.toNat * 2 ^ 8 + r.policy.toNat * 2 ^ 16 + r.line.toNat * 2 ^ 24
  let block (t : State) (blk op : Nat) : Prop :=
    t.rdBytes (pageAddr c blk) 16 = leBytes 4 (w0 op) ++ leBytes 4 r.arg0.toNat ++ leBytes 4 r.arg1.toNat ++ leBytes 4 r.arg2.toNat
  let rest (t : State) (blk : Nat) : Prop := ∀ a, a < pageAddr c blk ∨ pageAddr c (blk + 16) ≤ a → a ≠ pageAddr c (blk + 0x17) →
    t.rd a = s.rd a
  let doneOff (t : State) (blk : Nat) : Prop := t.rd (pageAddr c (blk + 0x17)) = s.rd (pageAddr c (blk + 0x17)) &&& 0x7F
  (s.canTrigger c = true →
    (∀ (i : Instr) (op : Nat), (i, op) ∈ [(Instr.vaultGenerate c r, 1), (.vaultImport c r, 2), (.vaultExport c r, 3),
        (.vaultDerive c r, 4), (.vaultDestroy c r, 5), (.vaultInfo c r, 6)] →
      ∃ t, exec i s = .next t ∧ block t 0xF20 op ∧ rest t 0xF20 ∧
        ((∀ q ∈ s.vault.queue, q.ctx ≠ c) → doneOff t 0xF20 ∧
          t = { s with mem := t.mem, vault := { s.vault with queue := s.vault.queue ++ [{ svc := .vault, ctx := c, op := byte op, req := r }] } }) ∧
        ((∃ q ∈ s.vault.queue, q.ctx = c) → t = { s with mem := t.mem } ∧
          t.rd (pageAddr c 0xF37) = s.rd (pageAddr c 0xF37))) ∧
    (∀ (i : Instr) (op : Nat), (i, op) ∈ [(Instr.kemKeygen c r, 1), (.kemEncaps c r, 2), (.kemDecaps c r, 3),
        (.dsaKeygen c r, 4), (.dsaSign c r, 5), (.dsaVerify c r, 6), (.ecKeygen c r, 7), (.ecSign c r, 8), (.ecVerify c r, 9),
        (.ecAgree c r, 10)] →
      ∃ t, exec i s = .next t ∧ block t 0xF40 op ∧ rest t 0xF40 ∧
        ((∀ q ∈ s.vault.pkeQueue, q.ctx ≠ c) → doneOff t 0xF40 ∧
          t = { s with mem := t.mem, vault := { s.vault with pkeQueue := s.vault.pkeQueue ++ [{ svc := .pke, ctx := c, op := byte op, req := r }] } }) ∧
        ((∃ q ∈ s.vault.pkeQueue, q.ctx = c) → t = { s with mem := t.mem } ∧
          t.rd (pageAddr c 0xF57) = s.rd (pageAddr c 0xF57))) ∧
    (let q : Request := { svc := .nvm, ctx := c, op := 1, req := r }
     let a := r.arg0.toNat
     let src := r.arg1.toNat
     let own := s.sectOwner ((a - flashBase) / 0x4000)
     let readable : Bool := match c with
       | .keystone => s.openSram src 2048
       | .cask n => caskRange (s.cask n.toNat) n.toNat src 2048 false
     let mine : Prop := own = ctxNum c ∨ c = .keystone ∧ own = 0x7FF
     let inFlash : Prop := a % 2048 = 0 ∧ flashBase ≤ a ∧ a + 2048 ≤ flashEnd ∧ readable = true
     let code : Nat := if s.granted c 12 = false then 8 else if ¬ inFlash then 3 else if ¬ mine then 2
       else if (a - flashBase) / 0x4000 ∈ s.nvm.eraseQueue ∨ 32 ≤ s.nvm.journal.countP (·.deferred) then 7 else 0
     (∀ j, s.nvm.active = some j → j.req.ctx ≠ c → (∀ x ∈ s.nvm.queue, x.ctx ≠ c) →
       ∃ t, exec (.pageWrite c r) s = .next t ∧ block t 0xF00 1 ∧ rest t 0xF00 ∧ doneOff t 0xF00 ∧
         t = { s with mem := t.mem, nvm := { s.nvm with queue := s.nvm.queue ++ [q] }, clk := { s.clk with gated := t.clk.gated } }) ∧
     (∀ j, s.nvm.active = some j → j.req.ctx = c → ∃ t, exec (.pageWrite c r) s = .next t ∧
       t = { s with mem := t.mem, clk := { s.clk with gated := t.clk.gated } } ∧ rest t 0xF00) ∧
     (s.nvm.active = none → s.nvm.queue = [] → ∃ t, exec (.pageWrite c r) s = .next t ∧ t.nvm.queue = [] ∧
       t = { s with mem := t.mem, nvm := t.nvm, clk := { s.clk with gated := t.clk.gated }, ks := t.ks, casks := t.casks, draw := t.draw } ∧
       (code = 0 → t.nvm.active = some { req := q, page := a, data := t.rdBytes src 2048 } ∧ t.ks = s.ks ∧ t.casks = s.casks) ∧
       (code ≠ 0 → t.nvm.active = none ∧ t.rd (pageAddr c 0xF14) = byte code ∧ t.rd (pageAddr c 0xF17) = 0x80 ∧
         bit (t.pendOf c) r.line.toNat = true)))) ∧
  (s.canTrigger c = false → ∀ i ∈ [Instr.vaultGenerate c r, .vaultImport c r, .vaultExport c r, .vaultDerive c r, .vaultDestroy c r,
      .vaultInfo c r, .kemKeygen c r, .kemEncaps c r, .kemDecaps c r, .dsaKeygen c r, .dsaSign c r, .dsaVerify c r, .ecKeygen c r,
      .ecSign c r, .ecVerify c r, .ecAgree c r, .pageWrite c r], exec i s = .next s)

/-- The oldest vault request completes: STATUS with DONE is written and the completion line is set; NO_ROOT without a root; any refusal leaves every slot as it was. INFO and DESTROY answer for the handle; GENERATE fills a free slot with the requested TYPE and POLICY and a non-zero INCARN; DERIVE refuses a POLICY that is no subset of its parent's; EXPORT writes the KW blob. Of the public-key requests the oldest of keystone code, else the oldest, completes; a refused one writes nothing to C. VERIFY answers VERIFY_FAIL exactly for what does not verify. That an OP the vault table does not list is BAD_TYPE, and the order of the checks, are the model's choice, log entry 34. -/
def Obligations.ServicesComplete : Prop := ∀ s : State, s.alive = true →
  let told (t : State) (q : Request) (blk code : Nat) : Prop := t.rd (pageAddr q.ctx (blk + 0x14)) = byte code ∧
    t.rd (pageAddr q.ctx (blk + 0x17)) = 0x80 ∧ bit (t.pendOf q.ctx) q.req.line.toNat = true
  let result (t : State) (q : Request) (blk : Nat) : Nat := t.rdLe (pageAddr q.ctx (blk + 0x10)) 4
  let filled (t : State) (q : Request) (blk typ policy : Nat) (vol : Bool) : Prop := ∃ (j : Nat) (x : VSlot),
    64 ≤ j ∧ j < 8192 ∧ (∀ e ∈ s.vault.slots, e.1 ≠ j) ∧ t.vault.slots = tset s.vault.slots j x ∧ x.owner.toNat = ctxNum q.ctx ∧
    x.typ.toNat = typ ∧ x.volatile = vol ∧ x.policy.toNat = policy ∧ x.incarn ≠ 0 ∧
    result t q blk = j + x.incarn.toNat * 2 ^ 16
  (∀ (q : Request) (qs : List Request), s.vault.queue = q :: qs → s.ctxLive q.ctx = true →
    let r := q.req
    let typ := r.typ.toNat % 128
    let vol := bit r.typ 7
    ∃ (t : State) (code : Nat), exec .vaultRequestDone s = .next t ∧ code < 13 ∧ told t q 0xF20 code ∧ t.vault.queue = qs ∧
      t = { s with mem := t.mem, vault := t.vault, rng := t.rng, ks := t.ks, casks := t.casks, press := t.press, lanes := t.lanes, frame := t.frame, span := t.span, stale := t.stale, draw := t.draw } ∧
      (code ≠ 0 → t.vault = { s.vault with queue := qs } ∧ ∀ a, a < pageAddr q.ctx 0xF30 ∨ pageAddr q.ctx 0xF38 ≤ a → t.rd a = s.rd a) ∧
      (s.vault.rootOk = false → code = 7) ∧
      (s.vault.rootOk = true →
        (q.op.toNat = 0 ∨ 6 < q.op.toNat → code = 4) ∧
        (q.op = 6 ∨ q.op = 5 → s.slotOf q.ctx r.arg0 = none → code = 1) ∧
        (∀ (j : Nat) (v : VSlot), s.slotOf q.ctx r.arg0 = some (j, v) →
          (q.op = 6 → code = 0 ∧ result t q 0xF20 = v.typ.toNat + (if v.volatile then 128 else 0) + v.policy.toNat * 256 ∧
            t.vault.slots = s.vault.slots) ∧
          (q.op = 5 → code = 0 ∧ result t q 0xF20 = 0 ∧ t.vault.slots = tdel s.vault.slots j)) ∧
        (q.op = 1 →
          (materialLen typ = none → code = 4) ∧
          (∀ n, materialLen typ = some n →
            (s.typeGranted q.ctx typ = false → code = 11) ∧
            (s.typeGranted q.ctx typ = true →
              (∀ e, s.slotRefusal q.ctx vol = some e → code = e) ∧
              (s.slotRefusal q.ctx vol = none →
                (s.vault.rngFail = true → code = 8) ∧
                (s.vault.rngFail = false → code = 0 ∧ filled t q 0xF20 typ r.policy.toNat vol))))) ∧
        (∀ (p : VSlot) (n : Nat), q.op = 4 → s.keyOf q.ctx r.arg0 = some p → materialLen typ = some n → p.typ = 2 → n ≤ 32 →
          s.typeGranted q.ctx typ = true →
          (r.policy &&& ~~~ p.policy ≠ 0 → code = 3) ∧ (bit p.policy 4 = false ∨ bit p.policy 7 = true → code = 3) ∧
          (code = 0 → filled t q 0xF20 typ r.policy.toNat vol)) ∧
        (q.op = 2 ∨ q.op = 3 → s.keyOf q.ctx r.arg0 = none → code = 1) ∧
        (∀ k x : VSlot, q.op = 3 → s.keyOf q.ctx r.arg0 = some k → isAes k.typ.toNat = true → s.keyOf q.ctx r.arg2 = some x →
          s.typeGranted q.ctx x.typ.toNat = true →
          (bit k.policy 5 = false ∨ bit k.policy 7 = true ∨ bit x.policy 6 = false ∨ bit x.policy 7 = true → code = 3) ∧
          (code = 0 → t.vault.slots = s.vault.slots ∧ result t q 0xF20 = (x.key.length + 8) % 2 ^ 32)) ∧
        (q.op = 2 → code = 0 → filled t q 0xF20 typ r.policy.toNat vol))) ∧
  (∀ q ∈ s.vault.pkeQueue, s.ctxLive q.ctx = true → s.pkeNext = some q →
    (q.ctx = .keystone ∨ ∀ x ∈ s.vault.pkeQueue, x.ctx ≠ .keystone) ∧
    let r := q.req
    let op := q.op.toNat
    let typ := r.typ.toNat % 128
    let a := s.xfer r.arg1.toNat 0
    let b := s.xfer r.arg1.toNat 1
    let x := s.xfer r.arg1.toNat 2
    ∃ (t : State) (code : Nat), exec .pkeRequestDone s = .next t ∧ code < 18 ∧ told t q 0xF40 code ∧
      t = { s with mem := t.mem, vault := t.vault, rng := t.rng, ks := t.ks, casks := t.casks, stale := t.stale, draw := t.draw } ∧
      t.vault.pkeQueue = s.vault.pkeQueue.filter (fun y => y.ctx ≠ q.ctx) ∧
      (code ≠ 0 → t.vault.slots = s.vault.slots ∧
        ∀ m, m < pageAddr q.ctx 0xF50 ∨ pageAddr q.ctx 0xF58 ≤ m → t.rd m = s.rd m) ∧
      (s.vault.rootOk = false → code = 7) ∧
      (s.vault.rootOk = true → op = 0 ∨ 10 < op → code = 17) ∧
      (s.vault.rootOk = true → 0 < op → op ≤ 10 → s.granted q.ctx 9 = false → code = 11) ∧
      (s.vault.rootOk = true → s.granted q.ctx 9 = true →
        (op = 1 ∨ op = 2 → typ ≠ 0x20 → typ ≠ 0x21 → code = 4) ∧ (op = 4 ∨ op = 6 → typ ≠ 0x22 → typ ≠ 0x23 → code = 4) ∧
        (op = 3 ∨ op = 5 ∨ op = 8 ∨ op = 10 → s.keyOf q.ctx r.arg0 = none → code = 1) ∧
        (op = 1 ∨ op = 4 ∨ op = 7 → code = 0 → filled t q 0xF40 typ r.policy.toNat (bit r.typ 7)) ∧
        (op = 2 ∨ op = 3 ∨ op = 10 → code = 0 → filled t q 0xF40 2 r.policy.toNat (bit r.typ 7)) ∧
        (op = 6 → typ = 0x22 ∨ typ = 0x23 → s.lanesOut = true → code = 16) ∧
        (op = 6 → typ = 0x22 ∨ typ = 0x23 → s.lanesOut = false → s.engineRange q.ctx r.arg1.toNat 32 false = true →
          (∀ y ∈ [a, b, x], s.engineRange q.ctx y.1 y.2 false = true) →
          (b.2 ≠ (if typ = 0x22 then 1952 else 2592) ∨ x.2 ≠ (if typ = 0x22 then 3309 else 4627) → code = 13) ∧
          (b.2 = (if typ = 0x22 then 1952 else 2592) → x.2 = (if typ = 0x22 then 3309 else 4627) → code =
            if Config.mldsaVerify typ (s.rdBytes b.1 b.2) (s.rdBytes a.1 a.2) (s.rdBytes x.1 x.2) then 0 else 14)))) ∧
  (s.vault.queue = [] → exec .vaultRequestDone s = .next s) ∧ (s.vault.pkeQueue = [] → exec .pkeRequestDone s = .next s)

/-- PAGE_WRITE_DONE puts the new data into the page and completes with OK; one that fails to verify completes with NVM_FAULT; NVM_ABORT_AT in TEST_OPEN leaves the entry deferred. The NVM commands are refused with the code of R301, R311-R313 or BUSY, or run, and at their end have the effect the rules give. A health failure stops the DRBG with line 7; a passing repeat clears it, the third failing one stops it until RETEST; a reseed restarts the request count. Interrupted erases end with line 7. What bytes a page holds after a write that fails to verify the spec leaves open. -/
def Obligations.NvmAndRandom : Prop := ∀ s : State,
  (s.alive = true →
    (∀ j : NvmJob, s.nvm.active = some j → s.nvm.queue = [] → s.ctxLive j.req.ctx = true → pagesBase > j.page + 2048 →
      j.data.length = 2048 → ∀ ok : Bool, ∃ t, exec (.pageWriteDone ok) s = .next t ∧
        t = { s with mem := t.mem, nvm := t.nvm, ks := t.ks, casks := t.casks, draw := t.draw } ∧ t.nvm.active = none ∧
        t.nvm.queue = [] ∧ t.rd (pageAddr j.req.ctx 0xF14) = (if ok then 0 else 5) ∧ t.rd (pageAddr j.req.ctx 0xF17) = 0x80 ∧
        bit (t.pendOf j.req.ctx) j.req.req.line.toNat = true ∧ (ok = true → t.rdBytes j.page 2048 = j.data) ∧
        (∀ a, a < j.page ∨ j.page + 2048 ≤ a → a < pageAddr j.req.ctx 0xF10 ∨ pageAddr j.req.ctx 0xF18 ≤ a → t.rd a = s.rd a) ∧
        (ok = true → s.nvm.abortArm = true → s.life.state = .testOpen → t.nvm.deferred = true ∧ t.nvm.abortArm = false ∧
          ∃ e ∈ t.nvm.journal, e.page = j.page ∧ e.data = j.data ∧ e.units = s.nvm.abortUnits.toNat ∧ e.deferred = true) ∧
        (ok = true → s.nvm.abortArm = false → t.nvm =
          { s.nvm with active := none, journal := s.nvm.journal.filter fun x => x.page ≠ j.page })) ∧
    (s.pwr.booting = false → s.nvm.eraseQueue ≠ [] → ∃ t, exec .backgroundEraseDone s = .next t ∧
      t = { s with mem := t.mem, nvm := { s.nvm with eraseQueue := [] }, ks := { s.ks with pend := s.ks.pend ||| oneHot 7 } } ∧
      (∀ j ∈ s.nvm.eraseQueue, j < 960 → ∀ i, i < 0x4000 → t.rd (sectorAddr j + i) = 0xFF) ∧
      (∀ a, (∀ j ∈ s.nvm.eraseQueue, ¬ (sectorAddr j ≤ a ∧ a < sectorAddr j + 0x4000)) → t.rd a = s.rd a)) ∧
    (∀ cmd a0 a1, s.nvm.running = some (cmd, a0, a1) → ∃ t, exec .nvmCmdDone s = .next t ∧ t.nvm.busy = false ∧
      t.nvm.running = none ∧ t.nvm.result = 0 ∧ t = { s with mem := t.mem, nvm := t.nvm, draw := t.draw } ∧
      (cmd = 1 → tget t.nvm.sectOwn a0.toNat 0x7FF = BitVec.ofNat 11 a1.toNat ∨ s.sectOwner a0.toNat = a1.toNat) ∧
      (cmd = 1 → s.sectOwner a0.toNat ≠ a1.toNat → a0.toNat < 960 → ∀ i, i < 0x4000 → t.rd (sectorAddr a0.toNat + i) = 0xFF) ∧
      (cmd = 1 → ∀ a, a < sectorAddr a0.toNat ∨ sectorAddr a0.toNat + 0x4000 ≤ a → t.rd a = s.rd a) ∧
      (cmd ≠ 1 → t.mem = s.mem ∧ t.nvm.sectOwn = s.nvm.sectOwn) ∧
      (cmd = 2 → t.nvm.ctrMap = tset s.nvm.ctrMap a0.toNat (BitVec.ofNat 24 a1.toNat)) ∧ t.ctrs = s.ctrs ∧
      (cmd = 3 → t.nvm.journal = [] ∧ t.nvm.deferred = false) ∧
      (cmd = 4 → (∀ e ∈ s.nvm.journal, e.page = a0.toNat → e.deferred = false) → t.nvm.rawData.length = 2048 ∧
        t.nvm.rawStat.length = 128 ∧ ∀ i, i < 2048 → t.nvm.rawData.getD i 0 = s.rd (a0.toNat + i)) ∧
      (cmd = 5 → ∀ b, ctrBase (s.ctr a0.toNat) = some b → t.nvm.ctrGen = b.gen)) ∧
    (s.vault.rngFail = false → exec .rngHealthFail s = .next { s with
      vault := { s.vault with rngFail := true }, ks := { s.ks with pend := s.ks.pend ||| oneHot 7 }
      rng := { s.rng with instantiated := false, retests := 0, stopped := false, buffers := [] } }) ∧
    (s.vault.rngFail = true → s.rng.stopped = false →
      exec (.rngRetestTimer true) s = .next { s with
        vault := { s.vault with rngFail := false }
        rng := { s.rng with instantiated := true, requests := 0, retests := 0 } } ∧
      exec (.rngRetestTimer false) s =
        .next { s with rng := { s.rng with retests := s.rng.retests + 1, stopped := decide (3 ≤ s.rng.retests + 1) } }) ∧
    (s.rng.stopped = true → ∀ p, exec (.rngRetestTimer p) s = .next s)) ∧
  (s.rng.instantiated = true → exec .drbgReseed s = .next { s with rng := { s.rng with requests := 0 } }) ∧
  (s.ksWriter = true → exec .vaultRetest s = .next { s with rng := { s.rng with retests := 0, stopped := false } } ∧
    ∀ a0 a1 : Word,
      let live (o : Nat) : Prop := o < 1024 ∧ (s.cask o).state ≠ .disabled
      let first := a1.toNat % 4096
      let count := a1.toNat / 4096 % 4096
      let lab : Prop := s.life.state = .testOpen ∨ s.life.state = .analysis
      ∀ (i : Instr) (cmd : BitVec 4) (x y : Word) (code : Nat), (i, cmd, x, y, code) ∈
        [(Instr.nvmAllocSect a0 a1, (1 : BitVec 4), a0, a1,
            if 960 ≤ a0.toNat ∨ 0x400 < a1.toNat ∧ a1.toNat ≠ 0x7FF then 3
            else if live (s.sectOwner a0.toNat) ∨ live a1.toNat then 1 else 0),
         (.nvmAllocCtr a0 a1, 2, a0, a1,
            if 1024 ≤ a0.toNat ∨ 0 < count ∧ (first < 256 ∨ 4096 < first + count) then 3
            else if (s.cask a0.toNat).state ≠ .disabled then 1
            else if ∃ e ∈ s.nvm.ctrMap, e.1 ≠ a0.toNat ∧ first < e.2.toNat % 4096 + e.2.toNat / 4096 ∧
              e.2.toNat % 4096 < first + count then 4 else 0),
         (.nvmComplete, 3, s.nvm.arg0, s.nvm.arg1, 0),
         (.nvmRawRead a0, 4, a0, s.nvm.arg1,
            if ¬ lab then 6 else if a0.toNat % 2048 = 0 ∧ flashBase ≤ a0.toNat ∧ a0.toNat + 2048 ≤ flashEnd then 0 else 3),
         (.nvmCtrGen a0, 5, a0, s.nvm.arg1,
            if 4608 ≤ a0.toNat then 3 else if ctrBase (s.ctr a0.toNat) = none then 5 else 0)] →
      (s.nvm.busy = true → exec i s = .next { s with nvm := { s.nvm with cmd := cmd, arg0 := x, arg1 := y, result := 7 } }) ∧
      (s.nvm.busy = false → code ≠ 0 →
        exec i s = .next { s with nvm := { s.nvm with cmd := cmd, arg0 := x, arg1 := y, result := BitVec.ofNat 4 code } }) ∧
      (s.nvm.busy = false → code = 0 → ∃ t, exec i s = .next t ∧
        t = { s with nvm := { s.nvm with cmd := cmd, arg0 := x, arg1 := y, busy := true, running := some (cmd, x, y) }
                     clk := { s.clk with gated := t.clk.gated } }))

/-- For each of the twelve modes and directions: a GO on a page that holds a job only sets REFUSED (the row's MODE word is written first). On a page without one it clears REFUSED and the page holds a job that latches every port; the job fails with PARITY while no pipeline is in service, and else with the code of the first check of R325 that fails, writing nothing; when every check but the nonce passes it holds its key and has not failed but for an exhausted GEN count. CANCEL ends a page's job with ABORTED, releasing its staging slot and pipeline, and has no effect without a job. -/
def Obligations.PressSubmit : Prop := ∀ (s : State) (c : Ctx) (mode : Word), s.canTrigger c = true → s.granted c 0 = true →
  s.tabsOk →
  let n := ctxNum c
  let p := tget s.press.pages n {}
  (∀ (i : Instr) (row : Word), (i, row) ∈
      [(Instr.cryCtrEncrypt c mode, (1 : Word)), (.cryCtrDecrypt c mode, 9), (.cryGcmEncrypt c mode, 2), (.cryGcmDecrypt c mode, 10),
       (.cryXtsEncrypt c mode, 3), (.cryXtsDecrypt c mode, 11), (.cryCmacGenerate c mode, 4), (.cryCmacVerify c mode, 12),
       (.cryKwWrap c mode, 5), (.cryKwUnwrap c mode, 13), (.cryKwpWrap c mode, 6), (.cryKwpUnwrap c mode, 14)] →
    let m : Word := (mode &&& 0xFFFFFFF0) ||| row
    let md := row.toNat % 8
    let dec : Prop := 8 ≤ row.toNat
    let nonce : Prop := ¬ dec ∧ (md = 1 ∨ md = 2)
    let gen : Prop := bit mode 4 = true
    let job : PressJob := { mode := m, key := p.key, key2 := p.key2, src := p.src, dst := p.dst, len := p.len, aad := p.aad, alen := p.alen, iv := p.iv, tag := p.tag, nfix := p.nfix, nctr := p.nctr }
    let tlen := mode.toNat / 256 % 32
    let len := p.len.toNat
    let goodTag : Prop := if md = 2 then 12 ≤ tlen ∧ tlen ≤ 16 else if md = 4 then 8 ≤ tlen ∧ tlen ≤ 16 else tlen = 0
    let goodMode : Prop := mode.toNat / 2 ^ 5 % 8 = 0 ∧ mode.toNat / 2 ^ 13 % 8 = 0 ∧ mode.toNat / 2 ^ 22 = 0 ∧ goodTag ∧
      (nonce → ¬ gen → s.nctrOf n p.nctr.toNat ≠ none)
    let goodLen : Prop :=
      (md = 1 → 1 ≤ len ∧ len ≤ 2 ^ 20) ∧ (md = 2 → p.alen.toNat ≤ 2 ^ 16 ∧ (dec → len ≤ 2 ^ 14) ∧ len ≤ 2 ^ 20) ∧
      (md = 3 → 16 ≤ len ∧ len ≤ 2 ^ 20) ∧ (md = 4 → len ≤ 2 ^ 20) ∧
      (md = 5 → len % 8 = 0 ∧ (dec → 24 ≤ len ∧ len ≤ 4104) ∧ (¬ dec → 16 ≤ len ∧ len ≤ 4096)) ∧
      (md = 6 → (dec → len % 8 = 0 ∧ 16 ≤ len ∧ len ≤ 4104) ∧ (¬ dec → 1 ≤ len ∧ len ≤ 4096))
    let fails (e : BitVec 5) : Prop := ∃ t, exec i s = .next t ∧
      t = { s with clk := { s.clk with gated := t.clk.gated }
                   press := { s.press with pages := tset s.press.pages n { p with mode := m, refused := false, job := some { job with phase := .failed e } } } }
    let k := s.keyOf c p.key
    let k2 := if md = 3 then s.keyOf c p.key2 else k
    let right : Nat := if md = 4 then (if dec then 3 else 2) else if dec then 1 else 0
    (p.job ≠ none → exec i s = .next { s with press := { s.press with
      pages := tset s.press.pages n { p with mode := m, refused := true } } }) ∧
    (p.job = none →
      ((∀ x, x < 16 → (s.pipeAt x).test = true ∨ 3 ≤ (s.pipeAt x).faults) → fails 11) ∧
      ((∃ x, x < 16 ∧ (s.pipeAt x).test = false ∧ (s.pipeAt x).faults < 3) →
        (¬ goodMode → fails 2) ∧
        (goodMode → ¬ goodLen → fails 5) ∧
        (goodMode → goodLen → s.cryAddrOk c job = false → fails 12) ∧
        (goodMode → goodLen → s.cryAddrOk c job = true →
          (s.vault.rootOk = false → fails 7) ∧
          (s.vault.rootOk = true → k = none ∨ k2 = none → fails 1) ∧
          (∀ v w : VSlot, s.vault.rootOk = true → k = some v → k2 = some w →
            let aes : Prop := (v.typ = 1 ∨ v.typ = 2) ∧ (w.typ = 1 ∨ w.typ = 2) ∧ v.typ = w.typ
            let may : Prop := bit v.policy right = true ∧ bit v.policy 7 = false ∧ bit w.policy right = true ∧ bit w.policy 7 = false
            (¬ aes → fails 4) ∧ (aes → ¬ may → fails 3) ∧
            (aes → may → md = 3 → v.key = w.key → fails 6) ∧
            (aes → may → nonce → gen → s.vault.rngFail = true → fails 8) ∧
            (aes → may → (md = 3 → v.key ≠ w.key) → (nonce → gen → s.vault.rngFail = false) →
              ∃ (t : State) (j : PressJob), exec i s = .next t ∧ tget t.press.pages n {} =
                  { p with mode := m, refused := false, job := some j, gen := (tget t.press.pages n {}).gen, resv := (tget t.press.pages n {}).resv } ∧
                j.mat = v.key ∧ { j with mat := [], mat2 := [], nonce := [], begun := false, input := [], aadIn := [], ivIn := [], tagIn := [], slot := none, phase := .waitPipe } = job ∧
                t = { s with clk := { s.clk with gated := t.clk.gated }, mem := t.mem, rng := t.rng, press := t.press, frame := t.frame, stale := t.stale, draw := t.draw } ∧
                (∀ e, j.phase = .failed e → e = 13 ∧ nonce ∧ gen ∧ 2 ^ 32 ≤ p.gen))))))) ∧
  (p.job = none → exec (.cryCancel c) s = .next s) ∧
  (∀ j e, p.job = some j → j.phase = .failed e → exec (.cryCancel c) s = .next s) ∧
  (∀ j, p.job = some j → (∀ e, j.phase ≠ .failed e) → ∃ (t : State) (w : Nat), exec (.cryCancel c) s = .next t ∧
    t = { s with mem := t.mem, press := t.press, frame := t.frame, stale := t.stale, draw := t.draw } ∧
    tget t.press.pages n {} = { p with job := some { j with phase := .failed 10, written := w, slot := none } } ∧
    (mStaged j.mode = true → w = j.written) ∧
    (∀ e ∈ t.press.pipes, e.2.use ≠ .page n) ∧ ∀ e ∈ t.press.staging, e.2 ≠ n)

/-- A job that waits for its reservation takes the nonce FIXED, C, L = 0 with C the counter's new value, and the next L is 1, unless the counter is at 2^48 - 1 or more (NONCE_EXHAUSTED). A free staging slot goes to a waiting job. A job that has run completes: RESULT and OLEN, ACTIVE off, its line when EVENT is 1; with TAG_FAIL it writes nothing. A failed job completes with its code. At 4,096 blocks a job makes room. A parity error resets the page with RESULT PARITY, sets PRESS_FAULT and line 13, and the pipeline is tested, out of service after the third failure. Which waiting job the next pipeline takes is free, log entry 38. -/
def Obligations.PressEvents : Prop := ∀ s : State, s.alive = true → s.tabsOk →
  let moved (t : State) : Prop := t = { s with mem := t.mem, ctrs := t.ctrs, ks := t.ks, casks := t.casks, press := t.press, frame := t.frame, stale := t.stale, draw := t.draw }
  let live : Prop := ∃ x, x < 16 ∧ (s.pipeAt x).faults < 3
  (∀ c : Ctx,
    let n := ctxNum c
    let p := tget s.press.pages n {}
    let quiet : Prop := s.pressWaiting = [] ∧ s.frame.segs = []
    (p.job = none → exec (.pressNonceReserved c) s = .next s ∧ exec (.pressJobDone c) s = .next s) ∧
    (∀ j, p.job = some j →
      (j.phase ≠ .waitNonce → exec (.pressNonceReserved c) s = .next s) ∧
      (j.phase = .waitNonce → ∀ i, s.nctrOf n j.nctr.toNat = some i →
        (2 ^ 48 - 1 ≤ s.ctrNat i → exec (.pressNonceReserved c) s = .next { s with
          press := { s.press with pages := tset s.press.pages n { p with job := some { j with phase := .failed 13 } } } }) ∧
        (∀ v, ctrVal (s.ctr i) = some v → v < 2 ^ 48 - 1 → live → ∃ (t : State) (j' : PressJob), exec (.pressNonceReserved c) s = .next t ∧
          moved t ∧ t.ctrs = tset s.ctrs i (ctrInc (s.ctr i) 1) ∧ (tget t.press.pages n {}).job = some j' ∧
          j'.nonce = beBytes 4 j.nfix.toNat ++ beBytes 6 (v + 1) ++ [0, 0] ∧ (∀ e, j'.phase ≠ .failed e) ∧
          (tget t.press.pages n {}).resv = (if p.nctr = j.nctr then some (BitVec.ofNat 64 (v + 1), 1) else none))) ∧
      (∀ e, j.phase = .failed e → ∃ t, exec (.pressJobDone c) s = .next t ∧ moved t ∧
        tget t.press.pages n {} = { p with job := none, result := e, olen := BitVec.ofNat 32 j.written } ∧
        (bit j.mode 21 = true → s.ctxLive c = true → bit (t.pendOf c) (j.mode.toNat / 2 ^ 16 % 32) = true)) ∧
      (∀ x, j.phase = .running x → ∃ t, exec (.pressJobDone c) s = .next t ∧ moved t ∧
        (bit j.mode 21 = true → s.ctxLive c = true → bit (t.pendOf c) (j.mode.toNat / 2 ^ 16 % 32) = true) ∧
        (∀ e ∈ t.press.staging, e.2 ≠ n) ∧
        (∀ o tag, cryOutput j = .ok (o, tag) →
          tget t.press.pages n {} = { p with job := none, result := 0, olen := BitVec.ofNat 32 o.length } ∧
          (quiet → s.ctxLive c = true → j.dst.toNat + o.length ≤ pagesBase →
            j.tag.toNat + tag.length ≤ j.dst.toNat ∨ j.dst.toNat + o.length ≤ j.tag.toNat ∨ tag = [] →
            t.rdBytes j.dst.toNat o.length = o)) ∧
        (∀ e, cryOutput j = .error e →
          tget t.press.pages n {} = { p with job := none, result := BitVec.ofNat 5 e, olen := 0 } ∧ (quiet → t.mem = s.mem))) ∧
      (j.phase = .waitNonce ∨ j.phase = .waitSlot ∨ j.phase = .waitPipe → exec (.pressJobDone c) s = .next s) ∧
      (∀ x, j.phase = .running x → s.freePipe = none → s.pressWaiting ≠ [] → mStaged j.mode = false → live → ∀ o tag,
        cryOutput j = .ok (o, tag) → ∃ (t : State) (j' : PressJob), exec (.pressBurstLimit c) s = .next t ∧ moved t ∧
          (tget t.press.pages n {}).job = some j' ∧ j'.burst = 0 ∧ j'.written = min o.length (j.written + 0x10000) ∧
          (j'.phase = .waitPipe ∧ j'.suspended = true ∨ ∃ y, j'.phase = .running y))) ∧
    (s.freePipe ≠ none ∨ s.pressWaiting = [] → exec (.pressBurstLimit c) s = .next s)) ∧
  (∀ n j, s.slotWaiter = some (n, j) → (∃ i, i < 32 ∧ ∀ e ∈ s.press.staging, e.1 ≠ i) → mStaged j.mode = true →
    ∃ (t : State) (i : Nat) (j' : PressJob), exec .pressStagingSlotFree s = .next t ∧ moved t ∧ i < 32 ∧
      (∀ e ∈ s.press.staging, e.1 ≠ i) ∧ t.press.staging = tset s.press.staging i n ∧
      (tget t.press.pages n {}).job = some j' ∧ j'.slot = some i ∧ j'.phase ≠ .waitSlot) ∧
  ((s.slotWaiter = none ∨ s.freeStage = none) → exec .pressStagingSlotFree s = .next s) ∧
  (∀ x : Fin 16,
    let q := tget s.press.pipes x.val {}
    (q.use = .idle → exec (.pressParityError x) s = .next s) ∧
    (∀ n j, q.use = .page n → (tget s.press.pages n {}).job = some j →
      ∃ t, exec (.pressParityError x) s = .next t ∧ moved t ∧ tget t.press.pages n {} = { result := 11 } ∧
        bit t.ks.pend 13 = true ∧ t.press.faultNew = true ∧ t.press.faultPage = BitVec.ofNat 11 n ∧
        t.press.faultPipe = BitVec.ofNat 4 x.val ∧ (tget t.press.pipes x.val {}).faults = q.faults + 1 ∧
        (tget t.press.pipes x.val {}).test = decide (q.faults + 1 < 3)) ∧
    (q.use = .frame → (∃ g ∈ s.frame.segs, g.pipe = some x.val) → ∃ t, exec (.pressParityError x) s = .next t ∧ moved t ∧
      bit t.ks.pend 13 = true ∧ t.press.faultNew = true ∧ t.press.faultPage = 0x7FE ∧
      (tget t.press.pipes x.val {}).faults = q.faults + 1) ∧
    (q.test = true → ∀ pass : Bool, ∃ t, exec (.pressPipeTestDone x pass) s = .next t ∧ moved t ∧
      (tget t.press.pipes x.val {}).faults = (if pass then q.faults else q.faults + 1) ∧
      (tget t.press.pipes x.val {}).test = (!pass && decide (q.faults + 1 < 3))) ∧
    (q.test = false → ∀ pass : Bool, exec (.pressPipeTestDone x pass) s = .next s))

/-- For each of the eighteen operations: a GO on a page that holds a job only sets REFUSED; on a page without one it clears REFUSED and REFRESHED and the page holds a job that latches every port. The job fails with LANE_FAULT while no lane is in service, and else with BAD_OP for reserved bits or an ARG out of range, BAD_OBJECT for a handle that names no sound object, BAD_ADDRESS, NO_ROOT, and so on in R373's order; a job whose checks pass has reserved its granules and runs on a free lane when it is alone. CANCEL ends a job that waits with ABORTED, marks one that runs, and has no effect without a job. That an ARG range is checked against the operand only where its handle is valid is log entry 40. -/
def Obligations.LatSubmit : Prop := ∀ (s : State) (c : Ctx) (op : Word), s.canTrigger c = true → s.granted c 1 = true → s.tabsOk →
  let n := ctxNum c
  let p := tget s.lat.pages n {}
  (∀ (i : Instr) (row : Word), (i, row) ∈
      [(Instr.latImport c op, (0x01 : Word)), (.latExport c op, 0x02), (.latFree c op, 0x03), (.latCopy c op, 0x04),
       (.latKeygen c op, 0x08), (.latEncrypt c op, 0x10), (.latDecrypt c op, 0x11), (.latAdd c op, 0x20), (.latSub c op, 0x21),
       (.latNeg c op, 0x22), (.latPadd c op, 0x23), (.latPsub c op, 0x24), (.latPmul c op, 0x25), (.latCmul c op, 0x26),
       (.latMul c op, 0x30), (.latRotate c op, 0x31), (.latDrop c op, 0x32), (.latRefresh c op, 0x40)] →
    let o : Word := (op &&& 0xFFFFFF00) ||| row
    let s1 : State := { s with lat := { s.lat with pages := tset s.lat.pages n { p with op := o } } }
    let job : LatJob := { op := o, a := p.a, b := p.b, dst := p.dst, sk := p.sk, kaddr := p.kaddr, addr := p.addr, len := p.len, arg := p.arg, cfg := p.cfg, rkey := p.rkey }
    let took (j : LatJob) : Prop := ∃ t, exec i s = .next t ∧
      t = { s with clk := { s.clk with gated := t.clk.gated }
                   lat := { s.lat with pages := t.lat.pages, deficit := t.lat.deficit }, draw := t.draw } ∧
      tget t.lat.pages n {} = { p with op := o, refused := false, refreshed := false, job := some j }
    let fails (e : Byte) : Prop := took { job with code := some e }
    let gone (h : Word) : Prop := match s.objOf n h with
      | some e => e.2.damaged = true
      | none => True
    (p.job ≠ none → exec i s = .next { s with lat := { s.lat with pages := tset s.lat.pages n { p with op := o, refused := true } } }) ∧
    (p.job = none →
      (s.lanesOut = true → fails 14) ∧
      (s.lanesOut = false →
        (op.toNat / 2 ^ 8 % 2 ^ 8 ≠ 0 ∨ op.toNat / 2 ^ 22 ≠ 0 → fails 2) ∧
        (row = 0x32 → p.arg = 0 → fails 2) ∧ (row = 0x08 → p.arg.toNat % 256 < 4 ∨ 7 < p.arg.toNat % 256 → fails 2) ∧
        (s1.latCheck1 n job = true →
          (row ≠ 0x01 → row ≠ 0x03 → row ≠ 0x08 → gone p.a → fails 5) ∧ (row = 0x03 → s.objOf n p.a = none → fails 5) ∧
          (row ∈ [(0x08 : Word), 0x20, 0x21, 0x23, 0x24, 0x25, 0x30] → gone p.b → fails 5) ∧
          (row ∉ [(0x02 : Word), 0x03, 0x08] → p.dst ≠ 0 → gone p.dst → fails 5) ∧
          (s1.latCheck2 n job = true →
            (row = 0x01 → s.latRange c p.addr.toNat p.len.toNat false = false → fails 10) ∧
            (row = 0x02 ∨ row = 0x08 → s.latRange c p.addr.toNat p.len.toNat true = false → fails 10) ∧
            (s1.latCheck3 n job = true →
              (s.vault.rootOk = false → fails 17) ∧
              (s.vault.rootOk = true → row = 0x08 ∨ row = 0x11 → s.keyOf c p.sk = none → fails 1) ∧
              (∀ k : VSlot, s.vault.rootOk = true → row = 0x08 ∨ row = 0x11 → s.keyOf c p.sk = some k →
                (k.typ ≠ 0x30 → fails 4) ∧
                (k.typ = 0x30 → bit k.policy 7 = true ∨ bit k.policy (if row = 0x11 then 1 else 0) = false → fails 3) ∧
                (k.typ = 0x30 → row = 0x11 → bit k.policy 7 = false → bit k.policy 1 = true → s.granted c 8 = false → fails 16))))) ∧
        (∀ e, s1.latCheck n job = .error e → fails (byte e)) ∧
        (∀ need, s1.latCheck n job = .ok need → ∃ l : Option (Fin 8), took { job with need := need, lane := l } ∧
          (s.latWaiting = [] → s.freeLane ≠ none → l ≠ none))))) ∧
  (p.job = none → exec (.latCancel c) s = .next s) ∧
  (∀ j, p.job = some j →
    (j.code ≠ none → exec (.latCancel c) s = .next s) ∧
    (j.code = none →
      let j' : LatJob := if j.lane = none then { j with code := some 13, need := 0 } else { j with cancel := true }
      exec (.latCancel c) s = .next { s with lat := { s.lat with pages := tset s.lat.pages n { p with job := some j' } } }))

/-- A job that failed a check completes with its code; one that ran commits its object to DST, or to a new entry with a fresh non-zero INCARN whose handle R names, with LVL as the operation gives it, or leaves every object as it was when its status is not OK; FREE zeroizes and frees. CANCEL takes effect with ABORTED at the end of a fused step; a drained job reports nothing. A vat ECC error marks the object DAMAGED, ends the job that reads it with VAT_ECC and sets LAT_FAULT and line 13; a lane fault ends its job, or the lane service, with LANE_FAULT, and the lane is tested, out of service after the third failure. R and LVL of a failed job the spec leaves open (log entry 42). -/
def Obligations.LatEvents : Prop := ∀ s : State, s.tabsOk →
  let moved (t : State) : Prop := t = { s with mem := t.mem, rng := t.rng, ks := t.ks, casks := t.casks, lat := t.lat, stale := t.stale, draw := t.draw }
  let ended (t : State) (n : Nat) (j : LatJob) (e : Byte) : Prop :=
    (j.discard = true → tget t.lat.pages n {} = {}) ∧
    (j.discard = false → tget t.lat.pages n {} = { tget s.lat.pages n {} with job := none, result := e, refreshed := (tget t.lat.pages n {}).refreshed, r := (tget t.lat.pages n {}).r, lvl := (tget t.lat.pages n {}).lvl } ∧
      (bit j.op 21 = true → s.ctxLive (ctxOf n) = true → bit (t.pendOf (ctxOf n)) (j.op.toNat / 2 ^ 16 % 32) = true))
  (∀ c : Ctx,
    let n := ctxNum c
    let p := tget s.lat.pages n {}
    (p.job = none → exec (.latJobDone c) s = .next s) ∧
    (∀ j, p.job = some j → s.alive = true →
      (∀ e, j.code = some e → ∃ t, exec (.latJobDone c) s = .next t ∧ moved t ∧ ended t n j e ∧ t.lat.objs = s.lat.objs ∧ t.mem = s.mem) ∧
      (j.code = none → j.lane = none → exec (.latJobDone c) s = .next s) ∧
      (j.code = none → j.lane ≠ none → j.discard = true ∨ j.cancel = true →
        ∃ t, exec (.latJobDone c) s = .next t ∧ moved t ∧ ended t n j 13 ∧ t.lat.objs = s.lat.objs ∧ t.mem = s.mem) ∧
      (j.code = none → j.lane ≠ none → j.discard = false → j.cancel = false → s.wantsRefresh n j = false →
        let a := s.latA n j
        let b := s.latB n j
        let low := min a.level.toNat b.level.toNat
        (j.op.toNat % 256 = 0x03 →
          (s.objOf n j.a = none → ∃ t, exec (.latJobDone c) s = .next t ∧ ended t n j 5 ∧ t.lat.objs = s.lat.objs ∧ t.mem = s.mem) ∧
          (∀ e, s.objOf n j.a = some e → ∃ t, exec (.latJobDone c) s = .next t ∧ moved t ∧ ended t n j 0 ∧
            t.lat.objs = tdel s.lat.objs e.1 ∧ (∀ g ∈ e.2.grans, ∀ i, i < 0x1000 → t.rd (granAddr g + i) = 0) ∧
            ∀ m, (∀ g ∈ e.2.grans, ¬ (granAddr g ≤ m ∧ m < granAddr g + 0x1000)) → t.rd m = s.rd m)) ∧
        (j.op.toNat % 256 ≠ 0x03 →
          let x := s.latRun n j
          (x.code ≠ 0 → ∃ t, exec (.latJobDone c) s = .next t ∧ moved t ∧ ended t n j (byte x.code) ∧
            t.lat.objs = s.lat.objs ∧ t.mem = s.mem) ∧
          (∀ o, x.code = 0 → x.obj = some o → ∃ t, exec (.latJobDone c) s = .next t ∧ moved t ∧ ended t n j 0 ∧
            (∀ e, s.objOf n j.dst = some e → (tget t.lat.pages n {}).r = j.dst ∧ ∃ gs : List Nat,
              t.lat.objs = tset (tdel s.lat.objs e.1) e.1 { o.1 with owner := n, incarn := e.2.incarn, grans := gs }) ∧
            (s.objOf n j.dst = none → s.freeEntry ≠ none → ∃ (e : Nat) (inc : BitVec 16) (gs : List Nat), e < 4096 ∧ inc ≠ 0 ∧
              (∀ y ∈ s.lat.objs, y.1 ≠ e) ∧ (tget t.lat.pages n {}).r.toNat = e + inc.toNat * 2 ^ 16 ∧
              t.lat.objs = tset s.lat.objs e { o.1 with owner := n, incarn := inc, grans := gs }) ∧
            (∀ (f v : Nat), (f, v) ∈ [(0x04, a.level.toNat), (0x10, a.par.l - 1), (0x11, 0), (0x20, low), (0x21, low),
                (0x22, a.level.toNat), (0x23, a.level.toNat), (0x24, a.level.toNat), (0x25, a.level.toNat), (0x26, a.level.toNat),
                (0x30, low - 1), (0x31, a.level.toNat), (0x32, a.level.toNat - j.arg.toNat), (0x40, a.par.l - 1)] →
              j.op.toNat % 256 = f → (tget t.lat.pages n {}).lvl = BitVec.ofNat 6 v ∧ (f ≠ 0x04 → f ≠ 0x11 → o.1.kind = 2) ∧
                (f = 0x11 → o.1.kind = 3))) ∧
          (x.code = 0 → x.obj = none → ∃ t, exec (.latJobDone c) s = .next t ∧ moved t ∧ ended t n j 0 ∧
            t.lat.objs = s.lat.objs ∧ ∀ m, m < j.addr.toNat ∨ j.addr.toNat + x.bytes.length ≤ m → t.rd m = s.rd m))))) ∧
  (∀ lane : Fin 8,
    (s.laneJob lane.val = none → exec (.latFusedStepEnd lane) s = .next s) ∧
    (∀ n j, s.laneJob lane.val = some (n, j) → s.alive = true →
      (j.discard = true ∨ j.cancel = true →
        ∃ t, exec (.latFusedStepEnd lane) s = .next t ∧ moved t ∧ ended t n j 13 ∧ t.lat.objs = s.lat.objs ∧ t.mem = s.mem) ∧
      (j.discard = false → j.cancel = false →
        (s.latWaiting = [] → ∃ t, exec (.latFusedStepEnd lane) s = .next t ∧ t = { s with draw := t.draw }) ∧
        ∃ (t : State) (l : Option (Fin 8)), exec (.latFusedStepEnd lane) s = .next t ∧ moved t ∧
          ((tget t.lat.pages n {}).job = some { j with lane := l } ∨
            s.lanesOut = true ∧ (tget t.lat.pages n {}).job = some { j with lane := l, code := some 14 }) ∧
          t.lat.objs = s.lat.objs ∧ t.mem = s.mem) ∧
      (n ≤ 1024 → ∃ t, exec (.laneFault lane) s = .next t ∧ moved t ∧ ended t n j 14 ∧ bit t.ks.pend 13 = true ∧ t.lat.faultNew = true ∧
        t.lat.faultPage = BitVec.ofNat 11 n ∧ t.lat.faultLane = BitVec.ofNat 3 lane.val ∧ t.lat.objs = s.lat.objs ∧
        (tget t.lat.lanes lane.val {}).faults = (s.laneRec lane.val).faults + 1 ∧
        (tget t.lat.lanes lane.val {}).test = decide ((s.laneRec lane.val).faults + 1 < 3))) ∧
    (∀ q, s.alive = true → s.laneJob lane.val = none → s.pkeNext = some q → q.op.toNat ≤ 6 → s.laneServes lane.val = true →
      s.ctxLive q.ctx = true → ∃ t, exec (.laneFault lane) s = .next t ∧ t.rd (pageAddr q.ctx 0xF54) = 16 ∧
        t.rd (pageAddr q.ctx 0xF57) = 0x80 ∧ bit (t.pendOf q.ctx) q.req.line.toNat = true ∧ bit t.ks.pend 13 = true ∧
        t.vault.pkeQueue = s.vault.pkeQueue.filter (fun y => y.ctx ≠ q.ctx) ∧
        (tget t.lat.lanes lane.val {}).faults = (s.laneRec lane.val).faults + 1) ∧
    (s.laneJob lane.val = none → s.pkeNext = none → exec (.laneFault lane) s = .next s) ∧
    (∀ pass : Bool, s.alive = true → (s.laneRec lane.val).test = true → ∃ t, exec (.laneTestDone lane pass) s = .next t ∧
      t = { s with lat := { s.lat with pages := t.lat.pages, deficit := t.lat.deficit, lanes := t.lat.lanes }, draw := t.draw } ∧
      (tget t.lat.lanes lane.val {}).faults = (s.laneRec lane.val).faults + (if pass then 0 else 1) ∧
      (tget t.lat.lanes lane.val {}).test = (!pass && decide ((s.laneRec lane.val).faults + 1 < 3))) ∧
    (∀ pass : Bool, (s.laneRec lane.val).test = false → exec (.laneTestDone lane pass) s = .next s)) ∧
  (∀ g : Fin 2048,
    ((∀ e ∈ s.lat.objs, g.val ∉ e.2.grans) → exec (.vatEccError g) s = .next s) ∧
    (∀ e o, s.lat.objs.find? (fun y => y.2.grans.contains g.val) = some (e, o) →
      ∃ t, exec (.vatEccError g) s = .next t ∧ moved t ∧ t.mem = s.mem ∧
        t.lat.objs = tset s.lat.objs e { o with damaged := true } ∧ bit t.ks.pend 13 = true ∧ t.lat.faultNew = true ∧
        t.lat.faultPage = BitVec.ofNat 11 o.owner ∧
        (∀ j, (tget s.lat.pages o.owner {}).job = some j → jobNames j e = true → ended t o.owner j 15) ∧
        (∀ j, (tget s.lat.pages o.owner {}).job = some j → jobNames j e = false → t.lat.pages = s.lat.pages)))

/-- The lane states move as R426-R431 state: LINK_CFG takes effect in DOWN with a VC count the generation allows and else sets CFG_ERR; TRAIN starts CAL; CAL, WAIT, TRAIN and RETRAIN move on calibration, lock and time-outs; the 8th valid set in a row is checked, with CAUSE and FAILED on the first check that fails; the 8th TS2 in a row enters UP with the largest VC count both ends allow and the partner latched. A retrain of this end's sends four RETRAIN packets, one on a received RETRAIN or set sends none; an attempt that fails starts the next, the third leads to WAIT with RETRAIN_FAILED. DOWN ends every queue. That TS2 are counted from the set after the checks is log entry 44. -/
def Obligations.LaneTraining : Prop := ∀ (s : State) (l : Lane),
  let x := tget s.lanes l.val {}
  let lane (y : LaneSt) : State := { s with lanes := tset s.lanes l.val y }
  let goes (y : LaneSt) (st : LState) (att : BitVec 2) : LaneSt := { y with state := st, tsCount := 0, ts2 := false, ts2Count := 0, locked := false, attempt := att }
  let at' (t : State) : LaneSt := tget t.lanes l.val {}
  let told (t : State) : Prop := bit t.ks.pend 8 = true
  let allowed (g v : Nat) : Prop := g = 0 ∨ g = 1 ∧ v = 1 ∨ g = 2 ∧ (v = 2 ∨ v = 4) ∨ g = 3 ∧ 2 ≤ v ∧ v ≤ 8
  let left (t : State) : Prop := (at' t).state = .retrain ∧ (at' t).attempt = 1 ∧ (at' t).v = 0 ∧ (at' t).evtLeft = true ∧ told t ∧
    ∀ e ∈ (at' t).vc, e.2.replay = [] ∧ ∀ q ∈ e.2.queue, q.typ = .req
  (s.ksWriter = true →
    (∀ w : Word,
      let gen := w.toNat / 4 % 4
      let vcs := w.toNat / 16 % 16
      (x.state = .down → allowed gen vcs → exec (.linkCfgWrite l w) s = .next (lane { x with
        role := BitVec.ofNat 2 w.toNat, gen := BitVec.ofNat 2 gen, vcs := BitVec.ofNat 4 vcs
        ffe := BitVec.ofNat 2 (w.toNat / 256) })) ∧
      (x.state ≠ .down ∨ ¬ allowed gen vcs → exec (.linkCfgWrite l w) s = .next (lane { x with cfgErr := true }))) ∧
    (x.state = .down → x.gen ≠ 0 → x.role ≠ 0 → s.laneClocked l.val = true →
      exec (.linkCtrlTrain l) s = .next (lane (goes x .cal 0))) ∧
    (x.state ≠ .down ∨ x.gen = 0 ∨ x.role = 0 → exec (.linkCtrlTrain l) s = .next s) ∧
    (∃ t, exec (.linkCtrlDown l) s = .next t ∧ (at' t).state = .down ∧ (∀ e ∈ (at' t).vc, e.2.queue = []) ∧
      (x.state = .up → (at' t).v = 0 ∧ (at' t).evtLeft = true ∧ told t ∧ ∀ e ∈ (at' t).vc, e.2.replay = [])) ∧
    (x.state = .up → ∃ t, exec (.linkCtrlRetrain l) s = .next t ∧ left t ∧
      t.out = List.replicate 4 (.ctrl l 0x06 0 0 0) ++ s.out) ∧
    (x.state ≠ .up → exec (.linkCtrlRetrain l) s = .next s)) ∧
  (x.state = .up → ∃ t, exec (.retrain l) s = .next t ∧ left t ∧ (at' t).cause = 8 ∧ t.out = s.out) ∧
  (x.state ≠ .up → exec (.retrain l) s = .next s) ∧
  (x.state = .cal → exec (.laneCalDone l) s = .next (lane (goes x .wait 0))) ∧
  (x.state ≠ .cal → exec (.laneCalDone l) s = .next s) ∧
  (∀ inv : Bool,
    (x.state = .wait → exec (.laneLock l inv) s = .next (lane { (goes x .train 0) with polinv := inv })) ∧
    (x.state = .retrain → exec (.laneLock l inv) s = .next (lane { x with locked := true, polinv := inv })) ∧
    (x.state ≠ .wait → x.state ≠ .retrain → exec (.laneLock l inv) s = .next s)) ∧
  (x.state = .train → exec (.laneTrainTimeout l) s = .next (lane { (goes x .wait 0) with cause := 4 })) ∧
  (x.state ≠ .train → exec (.laneTrainTimeout l) s = .next s) ∧
  (x.state = .retrain →
    (x.attempt.toNat < 3 → exec (.retrainAttemptTimeout l) s = .next (lane (goes x .retrain (x.attempt + 1)))) ∧
    (x.attempt = 3 → ∃ t, exec (.retrainAttemptTimeout l) s = .next t ∧ (at' t).state = .wait ∧ (at' t).cause = 7 ∧
      (at' t).evtFail = true ∧ told t ∧ ∀ e ∈ (at' t).vc, e.2.queue = [])) ∧
  (x.state ≠ .retrain → exec (.retrainAttemptTimeout l) s = .next s) ∧
  (∀ set : BitVec 128,
    let gen := set.toNat / 2 ^ 8 % 2 ^ 8
    let vcs := set.toNat / 2 ^ 16 % 2 ^ 8
    let role := set.toNat / 2 ^ 24 % 2 ^ 8
    let both (v : Nat) : Prop := 1 ≤ v ∧ v ≤ 8 ∧ allowed x.gen.toNat v ∧ v ≤ x.vcs.toNat ∧ v ≤ vcs
    let pairs : Prop := role = (if x.role = 1 then 9 else if x.role = 2 then 8 else 3)
    let trains : Prop := x.state = .train ∨ x.state = .retrain ∧ x.locked = true
    let good : Prop := gen = x.gen.toNat ∧ pairs ∧ ∃ v, both v
    let cause : BitVec 4 := if gen ≠ x.gen.toNat then 1 else if ¬ pairs then 2 else 3
    (trains → tsValid set = false → exec (.trainingSet l set) s = .next (lane { x with tsCount := 0, ts2Count := 0 })) ∧
    (trains → tsValid set = true →
      (x.ts2 = false → x.tsCount < 7 → exec (.trainingSet l set) s = .next (lane { x with tsCount := x.tsCount + 1 })) ∧
      (x.ts2 = false → 7 ≤ x.tsCount → good →
        exec (.trainingSet l set) s = .next (lane { x with tsCount := 0, ts2 := true, ts2Count := 0 })) ∧
      (x.ts2 = true → set.toNat % 256 ≠ 2 → exec (.trainingSet l set) s = .next (lane { x with ts2Count := 0 })) ∧
      (x.ts2 = true → set.toNat % 256 = 2 → x.ts2Count < 7 →
        exec (.trainingSet l set) s = .next (lane { x with ts2Count := x.ts2Count + 1 })) ∧
      (7 ≤ x.tsCount ∧ x.ts2 = false ∨ 7 ≤ x.ts2Count ∧ x.ts2 = true ∧ set.toNat % 256 = 2 → ¬ good →
        ∃ t, exec (.trainingSet l set) s = .next t ∧ (at' t).evtFail = true ∧ told t ∧
          (x.state = .train → (at' t).state = .wait ∧ (at' t).cause = cause) ∧
          (x.state = .retrain → x.attempt.toNat < 3 →
            at' t = { (goes x .retrain (x.attempt + 1)) with cause := cause, evtFail := true }) ∧
          (x.state = .retrain → x.attempt = 3 → (at' t).state = .wait ∧ (at' t).cause = 7)) ∧
      (x.ts2 = true → set.toNat % 256 = 2 → 7 ≤ x.ts2Count → good → ∃ (t : State) (v : Nat),
        exec (.trainingSet l set) s = .next t ∧ (at' t).state = .up ∧ (at' t).v = v ∧ both v ∧ (∀ w, both w → w ≤ v) ∧
        (at' t).evtUp = true ∧ told t ∧ (at' t).attempt = 0 ∧ (at' t).partner = BitVec.ofNat 64 (set.toNat / 2 ^ 32) ∧
        (at' t).partnerRole.toNat = role ∧ (at' t).partnerLane = BitVec.ofNat 8 (set.toNat / 2 ^ 96) ∧
        (at' t).partnerVcs = BitVec.ofNat 4 vcs ∧ ∀ e ∈ (at' t).vc, e.2.exp = 0)) ∧
    (x.state = .up → tsValid set = true → ∃ t, exec (.trainingSet l set) s = .next t ∧ left t ∧ t.out = s.out) ∧
    (x.state = .down ∨ x.state = .cal ∨ x.state = .wait → exec (.trainingSet l set) s = .next s))

/-- A packet of any type received on an UP lane's agreed VC with d = (SEQ - EXP) mod 4,096: d = 0 is accepted, EXP advances by 1 and an outstanding NAK is cleared; for d in 1-2,047 it is discarded, with a NAK of SEQ = EXP - 1 unless one is outstanding; for other d it is discarded and answered by an ACK of SEQ = EXP - 1. A packet that breaks R414 is counted in LINK_CNT_CRC. An ACK frees what it acknowledges, one for packets never sent does nothing; a NAK then replays the rest, as the replay timer does; a fifth replay and the credit time-out break the link; the ACK timer sends an ACK. A REQ has no consumer and is counted as dropped. STAMP latches TIME and PARAM. -/
def Obligations.LinkSequence : Prop := ∀ (s : State) (l : Lane),
  let x := tget s.lanes l.val {}
  let at' (t : State) : LaneSt := tget t.lanes l.val {}
  let lane (y : LaneSt) : State := { s with lanes := tset s.lanes l.val y }
  let tells (t : State) (o : Output) : State := { t with out := o :: t.out }
  let broken (t : State) (cause : BitVec 4) : Prop := (at' t).state = .retrain ∧ (at' t).cause = cause ∧ (at' t).attempt = 1 ∧
    (at' t).cntBroken = satAdd1 x.cntBroken ∧ (at' t).evtLeft = true ∧ bit t.ks.pend 8 = true ∧
    (∀ e ∈ (at' t).vc, e.2.replay = []) ∧ t.out = List.replicate 4 (.ctrl l 0x06 0 0 0) ++ s.out
  (∀ p : Pkt,
    let v := p.vc.val
    let c := x.vcAt v
    let d := (p.seq - c.exp).toNat
    let put (y : VcState) : State := lane (x.setVc v y)
    ∀ i ∈ [Instr.rsp l p, .req l p, .dataPacket l p, .fack l p, .enumRsp l p, .pong l p, .linkChange l p, .authResp l p,
        .authDone l p, .senseRsp l p, .limitAck l p],
      (x.state ≠ .up → exec i s = .next s) ∧
      (x.state = .up → x.v ≤ v ∨ 1024 < p.body.length → exec i s = .next (lane { x with cntCrc := satAdd1 x.cntCrc })) ∧
      (x.state = .up → v < x.v → p.body.length ≤ 1024 →
        (d = 0 → ∃ t, exec i s = .next t ∧ ((at' t).vcAt v).exp = c.exp + 1 ∧ ((at' t).vcAt v).nakOut = false ∧
          (i = .req l p → (at' t).cntDrop = satAdd1 x.cntDrop ∧ t = { s with lanes := t.lanes, out := t.out })) ∧
        (1 ≤ d → d ≤ 2047 → c.nakOut = true → exec i s = .next s) ∧
        (1 ≤ d → d ≤ 2047 → c.nakOut = false → exec i s =
          .next (tells (put { c with nakOut := true, sinceAck := 0 }) (.ctrl l 0x02 v (c.exp - 1) 0))) ∧
        (2048 ≤ d → exec i s = .next (tells (put { c with sinceAck := 0 }) (.ctrl l 0x01 v (c.exp - 1) 0))))) ∧
  (x.state = .up → exec (.discardedPacket l) s = .next (lane { x with cntCrc := satAdd1 x.cntCrc })) ∧
  (x.state ≠ .up → exec (.discardedPacket l) s = .next s) ∧
  (∀ (vc : Vc) (seq : BitVec 12),
    let v := vc.val
    let c := x.vcAt v
    let k := (seq - (c.replay.head?.map (·.seq)).getD c.txSeq).toNat
    let freed := if k < c.replay.length then k + 1 else 0
    let stays := (c.replay.drop freed).map (·.seq)
    let worn : Prop := ∃ q ∈ c.replay.drop freed, 5 ≤ q.sent
    (x.state ≠ .up ∨ x.v ≤ v → exec (.ack l vc seq) s = .next s ∧ exec (.nak l vc seq) s = .next s) ∧
    (x.state = .up → v < x.v → c.replay.length ≤ k → k < 2048 → exec (.ack l vc seq) s = .next s ∧ exec (.nak l vc seq) s = .next s) ∧
    (x.state = .up → v < x.v → k < c.replay.length ∨ 2048 ≤ k →
      (∃ (t : State) (new : List TxPkt), exec (.ack l vc seq) s = .next t ∧
        t = { s with lanes := t.lanes, lnk := t.lnk, ks := t.ks, casks := t.casks } ∧
        ((at' t).vcAt v).replay.map (·.seq) = stays ++ new.map (·.seq)) ∧
      (¬ worn → ∃ (t : State) (new : List TxPkt), exec (.nak l vc seq) s = .next t ∧ (at' t).state = .up ∧
        t = { s with lanes := t.lanes, lnk := t.lnk, ks := t.ks, casks := t.casks } ∧
        ((at' t).vcAt v).replay.map (fun q => (q.seq, q.sent)) =
          (c.replay.drop freed).map (fun q => (q.seq, q.sent + 1)) ++ new.map fun q => (q.seq, q.sent)) ∧
      (worn → ∃ t, exec (.nak l vc seq) s = .next t ∧ broken t 5)) ∧
    (x.state = .up → c.replay ≠ [] →
      ((∃ q ∈ c.replay, 5 ≤ q.sent) → ∃ t, exec (.replayTimer l vc) s = .next t ∧ broken t 5) ∧
      ((∀ q ∈ c.replay, q.sent < 5) →
        let y : LaneSt := { x with cntReplay := BitVec.ofNat 32 (min (2 ^ 32 - 1) (x.cntReplay.toNat + c.replay.length)) }
        let more : VcState := { c with replay := c.replay.map fun q => { q with sent := q.sent + 1 } }
        exec (.replayTimer l vc) s = .next (lane (y.setVc v more))) ∧
      ∃ t, exec (.creditTimeout l vc) s = .next t ∧ broken t 6) ∧
    (x.state ≠ .up ∨ c.replay = [] → exec (.replayTimer l vc) s = .next s ∧ exec (.creditTimeout l vc) s = .next s) ∧
    (x.state = .up → 0 < c.sinceAck → exec (.ackTimer l vc) s =
      .next (tells (lane (x.setVc v { c with sinceAck := 0 })) (.ctrl l 0x01 v (c.exp - 1) 0))) ∧
    (x.state ≠ .up ∨ c.sinceAck = 0 → exec (.ackTimer l vc) s = .next s)) ∧
  (∀ (param : BitVec 16) (now : Time), x.state = .up → ∃ t, exec (.stamp l param now) s = .next t ∧
    (at' t).stampRx = t.clk.time ∧ (at' t).stampRxId = param ∧
    t = { s with clk := { s.clk with time := t.clk.time }, casks := t.casks, lanes := t.lanes, span := t.span, out := t.out })

/-- A GO of a page with a request only sets REFUSED; else it completes at once with BAD_DEST, BAD_LENGTH, BAD_ADDRESS or BUSY for the first check of R437 that fails, or latches the ports and puts the payload as it then stands at the end of the VC's queue. CANCEL completes a request with ABORTED, the time-out of an unposted one on an UP lane with TIMEOUT. A response with equal lane, VC, ADDR and TAG is written up to RCAP and completes the request with OK or TRUNCATED; one without a request is counted as dropped. -/
def Obligations.LnkRequests : Prop := ∀ (s : State) (c : Ctx), s.tabsOk →
  let n := ctxNum c
  let p := tget s.lnk n {}
  let told (t : State) (j : LnkReq) : Prop := j.event = true → s.ctxLive c = true → bit (t.pendOf c) j.line.toNat = true
  let moved (t : State) : Prop := t = { s with lanes := t.lanes, lnk := t.lnk, ks := t.ks, casks := t.casks }
  (s.canTrigger c = true → s.granted c 2 = true →
    (p.job ≠ none → exec (.lnkGo c) s = .next { s with lnk := tset s.lnk n { p with refused := true } }) ∧
    (p.job = none →
      let l := p.dest.toNat % 16
      let v := p.dest.toNat / 16 % 8
      let x := tget s.lanes l {}
      let y := x.vcAt v
      let dest : Prop := l < 12 ∧ x.role ≠ 0 ∧ (x.state = .up → v < x.v) ∧
        (y.owner.toNat = n ∨ y.owner = 0x7FD ∧ n < 1024)
      let lens : Prop := p.len.toNat ≤ 1024 ∧ p.rcap.toNat ≤ 1024
      let addrs : Prop := s.engineRange c p.src.toNat p.len.toNat false = true ∧ s.engineRange c p.rbuf.toNat p.rcap.toNat true = true
      let fails (e : BitVec 5) : Prop := ∃ t, exec (.lnkGo c) s = .next t ∧ moved t ∧
        tget t.lnk n {} = { p with job := none, refused := false, result := e } ∧
        (bit p.cfg 21 = true → s.ctxLive c = true → bit (t.pendOf c) (p.cfg.toNat / 2 ^ 16 % 32) = true)
      (¬ dest → fails 2) ∧ (dest → ¬ lens → fails 3) ∧ (dest → lens → ¬ addrs → fails 4) ∧
      (dest → lens → addrs → 16 ≤ y.queue.length → fails 1) ∧
      (dest → lens → addrs → y.queue.length < 16 → ∃ (t : State) (j : LnkReq), exec (.lnkGo c) s = .next t ∧
        t = { s with lanes := t.lanes, lnk := tset s.lnk n { p with job := some j, refused := false, result := 0 } } ∧
        j.lane.val = l ∧ j.vc.val = v ∧ j.addr = BitVec.ofNat 8 (p.dest.toNat / 2 ^ 8) ∧
        j.tag = BitVec.ofNat 16 (p.dest.toNat / 2 ^ 16) ∧ j.posted = bit p.cfg 22 ∧ j.event = bit p.cfg 21 ∧
        j.line = BitVec.ofNat 5 (p.cfg.toNat / 2 ^ 16) ∧ j.tmo = BitVec.ofNat 16 p.cfg.toNat ∧ j.rbuf = p.rbuf ∧ j.rcap = p.rcap.toNat ∧
        (x.state ≠ .up → ((tget t.lanes l {}).vcAt v).queue = y.queue ++
          [{ typ := .req, addr := j.addr, tag := j.tag, body := s.rdBytes p.src.toNat p.len.toNat, owner := some n }])))) ∧
  (s.canTrigger c = true → s.granted c 2 = true →
    (p.job = none → exec (.lnkCancel c) s = .next s) ∧
    (∀ j, p.job = some j → ∃ t, exec (.lnkCancel c) s = .next t ∧ moved t ∧ told t j ∧
      tget t.lnk n {} = { p with job := none, result := 8 })) ∧
  (∀ j, p.job = some j →
    (j.tmo ≠ 0 → j.posted = false → (tget s.lanes j.lane.val {}).state = .up → ∃ t, exec (.lnkRequestTimeout c) s = .next t ∧
      moved t ∧ told t j ∧ tget t.lnk n {} = { p with job := none, result := 6 }) ∧
    (j.tmo = 0 ∨ j.posted = true ∨ (tget s.lanes j.lane.val {}).state ≠ .up → exec (.lnkRequestTimeout c) s = .next s)) ∧
  (p.job = none → exec (.lnkRequestTimeout c) s = .next s) ∧
  (∀ (l : Lane) (q : Pkt),
    let x := tget s.lanes l.val {}
    let answers (j : LnkReq) : Prop := j.posted = false ∧ j.lane = l ∧ j.vc = q.vc ∧ j.addr = q.addr ∧ j.tag = q.tag
    x.state = .up → q.vc.val < x.v → q.body.length ≤ 1024 → q.seq = (x.vcAt q.vc.val).exp →
      ((∀ e ∈ s.lnk, ∀ j, e.2.job = some j → ¬ answers j) → ∃ t, exec (.rsp l q) s = .next t ∧
        t = { s with lanes := t.lanes, out := t.out } ∧ (tget t.lanes l.val {}).cntDrop = satAdd1 x.cntDrop) ∧
      (∀ j, p.job = some j → answers j → (∀ e ∈ s.lnk, e.1 < n → ∀ k, e.2.job = some k → ¬ answers k) →
        ∃ t, exec (.rsp l q) s = .next t ∧ told t j ∧
          t = { s with lanes := t.lanes, lnk := t.lnk, ks := t.ks, casks := t.casks, mem := t.mem, stale := t.stale, out := t.out } ∧
          tget t.lnk n {} = { p with job := none, result := if j.rcap < q.body.length then 7 else 0, rlen := BitVec.ofNat 11 (min j.rcap q.body.length) } ∧
          (s.ctxLive c = true → j.rbuf.toNat + q.body.length ≤ pagesBase →
            t.rdBytes j.rbuf.toNat (min j.rcap q.body.length) = q.body.take j.rcap) ∧
          ∀ a, a < j.rbuf.toNat ∨ j.rbuf.toNat + min j.rcap q.body.length ≤ a → t.rd a = s.rd a))

/-- On an egress lane a presence pulse aborts a running pass (the eighth makes the chain UNSTABLE with ALERT and keystone line 9), and outside one schedules a discovery; 2 ms later a new pass starts from the root, or the discovery begins: a search on a G1 chain that is IDLE, on another chain an ENUM with the lowest free address. A search sequence finds the lowest ID below the branch it follows and notes every branch it leaves; the sequence that ends the pass leads to confirmation. A confirmed ID or an ENUM_RSP makes a tile FOUND at its address, which authenticates when AUTO is 1 and fewer than eight do. STUCK_LOW ends every presence operation until the wire is high; a chain whose PSTATE is OFF watches no wire. A PONG with the tile's ID answers a PING; LINK_CHANGE 1 starts an enumeration, LINK_CHANGE 0 pings every addressed tile that is not under authentication; an ENUM without answer ends the enumeration. TILE_CMD DISCOVER and FORGET answer BAD_STATE, BUSY or OK; FORGET makes every tile of the chain GONE. -/
def Obligations.TileDiscovery : Prop := ∀ (s : State) (l : Lane),
  let x := tget s.lanes l.val {}
  let c := tget s.tile.chains l.val {}
  let auto := bit s.tile.auto l.val
  let tile (t : State) (a : Nat) : Tile := tget t.tile.tiles (64 * l.val + a) {}
  let held (a : Nat) : Prop := (tile s a).state ≠ .absent ∧ (tile s a).state ≠ .gone
  let chain (y : Chain) : State := { s with tile := { s.tile with chains := tset s.tile.chains l.val y } }
  let at' (t : State) : Chain := tget t.tile.chains l.val {}
  let only (t : State) (y : Chain) : Prop := at' t = y ∧ ∀ k, k ≠ l.val → tget t.tile.chains k {} = tget s.tile.chains k {}
  let packets (t : State) (addr : Byte) (body : Bytes) : Nat :=
    let v := (tget t.lanes l.val {}).vcAt 0
    (v.queue ++ v.replay).countP fun q => q.typ == .mgmt && q.addr == addr && q.body == body
  let sent (t : State) (addr : Byte) (body : Bytes) : Prop := packets t addr body = packets s addr body + 1
  let alerted (t : State) : Prop := bit t.tile.alert l.val = true ∧ bit t.ks.pend 9 = true
  let begins (y : Chain) (t : State) : Prop := t.tile.tiles = s.tile.tiles ∧
    (x.role ≠ 2 → only t y ∧ t.lanes = s.lanes) ∧
    (x.role = 2 → x.gen = 1 → t.lanes = s.lanes ∧
      (y.pstate = .idle → only t { y with pstate := .searching, restarts := 0, search := some {}, scheduled := false }) ∧
      (y.pstate ≠ .idle → only t y)) ∧
    (x.role = 2 → x.gen ≠ 1 →
      (y.enum ≠ none → only t y ∧ t.lanes = s.lanes) ∧
      (y.enum = none → (∀ a, a < 64 → held a) → only t y ∧ t.lanes = s.lanes) ∧
      (∀ a, a < 64 → y.enum = none → ¬ held a → (∀ b, b < a → held b) →
        only t { y with enum := some (BitVec.ofNat 6 a) } ∧ sent t 0xFF [1, 0, 0, 0, byte a]))
  let found (t : State) (a : Nat) (id : Dword) : Prop :=
    (auto = false → tile t a = { id := id, state := .found }) ∧
    (auto = true → tile t a = { id := id, state := .found, wantAuth := true } ∨ tile t a = { id := id, state := .auth, exch := [.keygen] }) ∧
    (auto = true → (∀ e ∈ s.tile.tiles, e.2.wantAuth = false) → s.tile.tiles.countP (fun e => e.2.state == .auth) < 8 →
      (tile t a).state = .auth) ∧
    ∀ k, k ≠ 64 * l.val + a → (tget s.tile.tiles k {}).wantAuth = false → tget t.tile.tiles k {} = tget s.tile.tiles k {}
  let fits (p : Pkt) : Prop := x.state = .up ∧ p.vc.val < x.v ∧ p.body.length ≤ 1024 ∧ p.seq = (x.vcAt p.vc.val).exp
  let rx (t : State) : Prop := t = { s with tile := t.tile, lanes := t.lanes, out := t.out }
  (s.alive = true → x.role = 2 →
    (c.pstate = .searching → c.restarts < 7 →
      exec (.presencePulse l) s = .next (chain { c with restarts := c.restarts + 1, search := none, pstate := .waiting })) ∧
    (c.pstate = .searching → 7 ≤ c.restarts → ∃ t, exec (.presencePulse l) s = .next t ∧ alerted t ∧
      only t { c with restarts := c.restarts + 1, search := none, pstate := .unstable } ∧
      t = { s with tile := { s.tile with chains := t.tile.chains, alert := t.tile.alert }, ks := { s.ks with pend := t.ks.pend } }) ∧
    (c.pstate = .idle → exec (.presencePulse l) s = .next (chain { c with scheduled := true })) ∧
    (c.pstate ≠ .searching → c.pstate ≠ .idle → exec (.presencePulse l) s = .next s) ∧
    (c.pstate ≠ .stuckLow → c.pstate ≠ .off → ∃ t, exec (.stuckLowDetect l) s = .next t ∧ alerted t ∧
      only t { c with pstate := .stuckLow, search := none, scheduled := false } ∧
      t = { s with tile := { s.tile with chains := t.tile.chains, alert := t.tile.alert }, ks := { s.ks with pend := t.ks.pend } }) ∧
    (c.pstate = .stuckLow ∨ c.pstate = .off → exec (.stuckLowDetect l) s = .next s)) ∧
  (s.alive = false ∨ x.role ≠ 2 → exec (.presencePulse l) s = .next s ∧ exec (.stuckLowDetect l) s = .next s) ∧
  (c.pstate = .waiting → exec (.passRestartTimer l) s = .next (chain { c with pstate := .searching, search := some {} })) ∧
  (c.pstate ≠ .waiting → exec (.passRestartTimer l) s = .next s) ∧
  (let starts (i : Instr) (y : Chain) : Prop := ∃ t, exec i s = .next t ∧ begins y t ∧
      t = { s with tile := { s.tile with chains := t.tile.chains }, lanes := t.lanes }
   (c.scheduled = true → starts (.discoveryStart l) { c with scheduled := false }) ∧
   (c.scheduled = false → exec (.discoveryStart l) s = .next s) ∧
   (c.pstate = .unstable → starts (.unstableRetryTimer l) { c with pstate := .idle, restarts := 0 }) ∧
   (c.pstate ≠ .unstable → exec (.unstableRetryTimer l) s = .next s) ∧
   (c.pstate = .stuckLow → starts (.stuckLowCheck l true) { c with pstate := .idle }) ∧
   (∀ high, c.pstate ≠ .stuckLow ∨ high = false → exec (.stuckLowCheck l high) s = .next s)) ∧
  (∀ (ids : List Dword) (z : Search), c.pstate = .searching → c.search = some z → z.confirm = none →
    let ends (w : List Dword) : Prop := exec (.searchSequence l ids) s = .next (chain
      (if w = [] then { c with search := none, pstate := .idle }
       else { c with search := some { found := w, todo := [], confirm := some w } }))
    (z.todo = [] → ends z.found) ∧
    (∀ (p : List Bool) (ps : List (List Bool)), z.todo = p :: ps → p.length ≤ 64 →
      let on (d : Dword) : Prop := ∀ k b, p[k]? = some b → bit d (63 - k) = b
      ((∀ d ∈ ids, ¬ on d) → ids = [] ∨ ps = [] → ends z.found) ∧
      ((∀ d ∈ ids, ¬ on d) → ids ≠ [] → ps ≠ [] →
        exec (.searchSequence l ids) s = .next (chain { c with search := some { z with todo := ps } })) ∧
      (∀ m ∈ ids, on m → (∀ d ∈ ids, on d → m.toNat ≤ d.toNat) → ∃ new : List (List Bool),
        (∀ q, q ∈ new ↔ ∃ k, p.length ≤ k ∧ k < 64 ∧ bit m (63 - k) = false ∧
          (∃ d ∈ ids, (∀ j, j < k → bit d (63 - j) = bit m (63 - j)) ∧ bit d (63 - k) = true) ∧
          q = (List.range k).map (fun j => bit m (63 - j)) ++ [true]) ∧
        (new ++ ps = [] → ends (z.found ++ [m])) ∧
        (new ++ ps ≠ [] → exec (.searchSequence l ids) s =
          .next (chain { c with search := some { z with found := z.found ++ [m], todo := new ++ ps } }))))) ∧
  (∀ ids, c.pstate ≠ .searching ∨ c.search = none → exec (.searchSequence l ids) s = .next s) ∧
  (∀ (ids : List Dword) (z : Search), c.search = some z → z.confirm ≠ none → exec (.searchSequence l ids) s = .next s) ∧
  (∀ (z : Search) (id : Dword) (rest : List Dword) (reply : Byte), c.pstate = .searching → c.search = some z →
    z.confirm = some (id :: rest) →
    let y : Chain := if rest = [] then { c with search := none, pstate := .idle } else { c with search := some { z with confirm := some rest } }
    let known : Prop := ∃ a, a < 64 ∧ held a ∧ (tile s a).id = id
    (known ∨ (∀ a, a < 64 → held a) → exec (.confirmSequence l reply) s = .next (chain y)) ∧
    (∀ a, a < 64 → ¬ known → ¬ held a → (∀ b, b < a → held b) →
      (reply ≠ byte (a + 0x80) → exec (.confirmSequence l reply) s = .next (chain y)) ∧
      (reply = byte (a + 0x80) → ∃ t, exec (.confirmSequence l reply) s = .next t ∧ only t y ∧ found t a id ∧
        t = { s with tile := { s.tile with chains := t.tile.chains, tiles := t.tile.tiles } }))) ∧
  (∀ reply, c.pstate ≠ .searching ∨ c.search = none → exec (.confirmSequence l reply) s = .next s) ∧
  (∀ (z : Search) (reply : Byte), c.search = some z → z.confirm = none ∨ z.confirm = some [] →
    exec (.confirmSequence l reply) s = .next s) ∧
  (∀ p : Pkt, fits p →
    (∀ a : BitVec 6, c.enum = some a → p.addr.toNat = a.toNat → p.body.length = 16 → ∃ t, exec (.enumRsp l p) s = .next t ∧ rx t ∧
      found t a.toNat (BitVec.ofNat 64 (leNat (p.body.take 8))) ∧
      ((∀ b, b < 64 → held b ∨ b = a.toNat) → only t { c with enum := none }) ∧
      (∀ b, b < 64 → ¬ held b → b ≠ a.toNat → (∀ d, d < b → held d ∨ d = a.toNat) →
        only t { c with enum := some (BitVec.ofNat 6 b) } ∧ sent t 0xFF [1, 0, 0, 0, byte b])) ∧
    (c.enum = none ∨ p.body.length ≠ 16 ∨ (∀ a, c.enum = some a → p.addr.toNat ≠ a.toNat) →
      ∃ t, exec (.enumRsp l p) s = .next t ∧ rx t ∧ t.tile = s.tile) ∧
    (∃ t, exec (.pong l p) s = .next t ∧ rx t ∧ t.tile =
      (if p.addr.toNat < 64 ∧ p.body = leBytes 8 (tile s p.addr.toNat).id.toNat then
        let z : Tile := { (tile s p.addr.toNat) with exch := (tile s p.addr.toNat).exch.erase .ping }
        { s.tile with tiles := tset s.tile.tiles (64 * l.val + p.addr.toNat) z }
       else s.tile)) ∧
    (p.body.head? = some 1 → ∃ t, exec (.linkChange l p) s = .next t ∧ rx t ∧ t.tile = { s.tile with chains := t.tile.chains } ∧
      (x.gen = 1 → t.tile = s.tile) ∧
      (x.gen ≠ 1 → x.role = 2 → c.enum = none → ∀ a, a < 64 → ¬ held a → (∀ b, b < a → held b) →
        only t { c with enum := some (BitVec.ofNat 6 a) } ∧ sent t 0xFF [1, 0, 0, 0, byte a])) ∧
    (p.body.head? = some 0 → ∃ t, exec (.linkChange l p) s = .next t ∧ rx t ∧ t.tile = { s.tile with tiles := t.tile.tiles } ∧
      (∀ a, a < 64 → held a → (tile s a).state ≠ .auth →
        tile t a = { (tile s a) with exch := (tile s a).exch ++ [.ping] } ∧ sent t (byte a) [4, 0, 0, 0]) ∧
      (∀ a, a < 64 → ¬ held a ∨ (tile s a).state = .auth → tile t a = tile s a)) ∧
    (p.body.head? ≠ some 0 → p.body.head? ≠ some 1 → ∃ t, exec (.linkChange l p) s = .next t ∧ rx t ∧ t.tile = s.tile)) ∧
  (∀ a, x.state = .up → c.enum = some a → exec (.mgmtTimeout l a) s = .next (chain { c with enum := none })) ∧
  (∀ a, x.state ≠ .up → exec (.mgmtTimeout l a) s = .next s) ∧
  (let busy : Prop := c.search ≠ none ∨ c.pstate = .waiting ∨ c.enum ≠ none
   let ctl (k r : Nat) : State := { s with tile := { s.tile with cmd := BitVec.ofNat 14 (l.val + 16 * k), result := BitVec.ofNat 4 r } }
   let chained (t : State) : TileCtl := { (ctl 1 0).tile with chains := t.tile.chains }
   (s.ksWriter = true → x.role ≠ 2 ∨ x.state ≠ .up →
     exec (.tileCmdDiscover l) s = .next (ctl 1 1) ∧ exec (.tileCmdForget l) s = .next (ctl 2 1)) ∧
   (s.ksWriter = true → x.role = 2 → x.state = .up →
     (busy ∨ x.gen = 1 ∧ c.pstate ≠ .idle → exec (.tileCmdDiscover l) s = .next (ctl 1 2)) ∧
     (¬ busy → x.gen = 1 → c.pstate = .idle → ∃ t, exec (.tileCmdDiscover l) s = .next t ∧ begins c t ∧
       t = { s with tile := chained t }) ∧
     (¬ busy → x.gen ≠ 1 → ∃ t, exec (.tileCmdDiscover l) s = .next t ∧ begins c t ∧
       t = { s with tile := chained t, lanes := t.lanes }) ∧
     (busy → exec (.tileCmdForget l) s = .next (ctl 2 2)) ∧
     (¬ busy → ∃ t, exec (.tileCmdForget l) s = .next t ∧ t.tile.result = 0 ∧ sent t 0xFF [3, 0, 0, 0] ∧
       t = { s with tile := t.tile, lanes := t.lanes, mem := t.mem, ks := t.ks, casks := t.casks, draw := t.draw } ∧
       only t { c with pstate := if c.pstate = .searching then .idle else c.pstate } ∧
       (∀ a, a < 64 → held a → (tile t a).state = .gone ∧ (tile t a).kdat = [] ∧ (tile t a).kctl = [] ∧ (tile t a).kack = [] ∧
         bit t.tile.change l.val = true ∧ bit t.ks.pend 9 = true))) ∧
   (s.ksWriter = false → exec (.tileCmdDiscover l) s = .next s ∧ exec (.tileCmdForget l) s = .next s))

/-- An exchange under authentication goes on as R462-R466 state: the key generation sends AUTH_HELLO with a fresh nonce and key; AUTH_RESP is kept for the verification, which makes the tile FAILED with the code of the first check that fails or derives the three keys and sends AUTH_FIN; a verified AUTH_DONE makes the tile ACTIVE with CHANGE and keystone line 9; anything else leaves the tiles as they are. A time-out makes the tile FAILED with TIMEOUT (AUTH_HELLO) or BAD_SIG (AUTH_FIN) or GONE (PING), sends a PING (SENSE_REQ, LIMIT_SET) and completes a LIMIT with TILE_GONE; TIMEOUT is tried again up to three times. REAUTH ends a session and authenticates afresh; clearing a maker's VALID fails its tiles with UNKNOWN_MAKER. LOOP_START, LOOP_STOP and LIMIT complete with the status of the first check that fails, or start the loop, stop it, or send LIMIT_SET. A tick sets STALE in old records and sends SENSE_REQ to every ACTIVE tile of the cask's makers; a SENSE_RSP or LIMIT_ACK whose MAC and SEQ pass writes the record or completes the LIMIT, and the last answer raises the pass line. That an agreement without result is BAD_SIG, that a pass without tiles ends at once, and the order of LIMIT's checks are the model's choices, log entries 46, 48 and 50. -/
def Obligations.TileSessions : Prop := ∀ s : State, s.tabsOk →
  let tile (t : State) (k : Nat) : Tile := tget t.tile.tiles k {}
  let packets (t : State) (k : Nat) (body : Bytes) : Nat :=
    let v := (tget t.lanes (k / 64) {}).vcAt 0
    (v.queue ++ v.replay).countP fun q => q.typ == .mgmt && q.addr == byte (k % 64) && q.body == body
  let sent (t : State) (k : Nat) (body : Bytes) : Prop := packets t k body = packets s k body + 1
  let told (t : State) (l : Nat) : Prop := bit t.tile.change l = true ∧ bit t.ks.pend 9 = true
  let waits (t : State) (k : Nat) (y : Tile) : Prop :=
    (tile t k = { y with wantAuth := true } ∨ tile t k = { y with state := .auth, fail := 0, wantAuth := false, exch := y.exch ++ [.keygen] }) ∧
    ((∀ e ∈ s.tile.tiles, e.2.wantAuth = false) → s.tile.tiles.countP (fun e => e.2.state == .auth) < 8 → (tile t k).state = .auth)
  let ended (t : State) (k : Nat) (st : TState) (code : BitVec 4) : Prop := (tile t k).state = st ∧ (tile t k).fail = code ∧
    (tile t k).kdat = [] ∧ (tile t k).kctl = [] ∧ (tile t k).kack = [] ∧ (tile t k).ephPriv = [] ∧ (tile t k).exch = [] ∧
    (tile t k).limitOf = none
  let wide (t : State) : Prop := t = { s with mem := t.mem, ks := t.ks, casks := t.casks, lanes := t.lanes, tile := t.tile, draw := t.draw }
  let owner (k n : Nat) : Prop := ∃ m : BitVec 3, (tile s k).maker = some m ∧ (tget s.tile.makers m.toNat {}).valid = true ∧
    (tget s.tile.makers m.toNat {}).owner.toNat = n
  let mac (y : Tile) (a mcode : Byte) (q : Word) (d : Bytes) : Bytes := (cmac y.kctl ([a, mcode] ++ leBytes 4 q.toNat ++ d)).take 8
  let status (t : State) (n : Nat) (line : BitVec 5) (code : Nat) : Prop := t.rd (pageAddr (.cask (BitVec.ofNat 10 n)) 0xF74) = byte code ∧
    t.rd (pageAddr (.cask (BitVec.ofNat 10 n)) 0xF77) = 0x80 ∧ bit (t.pendOf (.cask (BitVec.ofNat 10 n))) line.toNat = true
  (∀ (l : Lane) (a : BitVec 6),
    let k := 64 * l.val + a.toNat
    let y := tile s k
    let doing (m : Mgmt) : Prop := y.state = .auth ∧ m ∈ y.exch
    (s.alive = true → s.vault.rngFail = false → doing .keygen → ∃ (t : State) (nonce priv : Bytes),
      exec (.authEphemeralKeygenDone l a) s = .next t ∧ nonce.length = 16 ∧ priv.length = 32 ∧
      t = { s with lanes := t.lanes, tile := t.tile, rng := t.rng, draw := t.draw } ∧
      (let pub := Config.ecPublic 0x13 priv
       let hello := nonce ++ pub ++ leBytes 8 Config.deviceId.toNat ++ [byte l.val, byte a.toNat, 0, 0]
       tile t k = { y with exch := y.exch.erase .keygen ++ [.hello], nonceN := nonce, ephPriv := priv, ephN := pub, hello := hello } ∧
       sent t k ([0x10, 0, 0, 0] ++ hello))) ∧
    (s.alive = false ∨ s.vault.rngFail = true ∨ ¬ doing .keygen → exec (.authEphemeralKeygenDone l a) s = .next s) ∧
    (s.alive = true → doing .verify →
      let b := y.resp
      let alg := (b.getD 5 0).toNat
      let mk (m : Nat) : Maker := tget s.tile.makers m {}
      let fits (m : Nat) : Prop := m < 8 ∧ (mk m).valid = true ∧ (mk m).id = wordAt b 0x10 ∧ (mk m).alg.toNat = alg
      let fails (e : BitVec 4) : Prop := ∃ t, exec (.authVerifyDone l a) s = .next t ∧ wide t ∧ ended t k .failed e
      let h := sha256 (y.hello ++ b.take 208)
      let good : Prop := b.length = 272 ∧ certOk b y.id = true
      ((∀ m, ¬ fits m) → fails 1) ∧
      (∀ m, fits m → (∀ i, i < m → ¬ fits i) →
        let signed : Prop := Config.ecVerify (if alg = 1 then 0x10 else if alg = 2 then 0x11 else 0x12)
          ((List.range (if alg = 1 then 65 else if alg = 2 then 97 else 32)).map fun i => tget (mk m).key i 0) (b.take 64)
          (slice b 0x40 (if alg = 2 then 96 else 64)) = true
        let sig : Prop := Config.ecVerify 0x12 (slice b 0x18 32) (ascii "KZN1-TIL" ++ h) (slice b 208 64) = true
        let twin : Prop := ∃ e ∈ s.tile.tiles, e.1 ≠ k ∧ (e.2.state = .auth ∨ e.2.state = .active) ∧ e.2.id = y.id
        (¬ good → fails 2) ∧ (good → ¬ signed → fails 2) ∧ (good → signed → ¬ sig → fails 3) ∧
        (good → signed → sig → twin → fails 5) ∧
        (good → signed → sig → ¬ twin →
          (Config.ecAgree 0x13 y.ephPriv (slice b 160 32) = none → fails 3) ∧
          (∀ z, Config.ecAgree 0x13 y.ephPriv (slice b 160 32) = some z →
            let ks := sha256 ([0, 0, 0, 1] ++ z ++ h)
            ∃ t, exec (.authVerifyDone l a) s = .next t ∧ t = { s with lanes := t.lanes, tile := t.tile } ∧
              tile t k = { y with
                exch := y.exch.erase .verify ++ [.fin], maker := some (BitVec.ofNat 3 m), model := wordAt b 0x14, ephPriv := []
                h := h, kdat := kdf ks "TDAT" (h.take 16), kctl := kdf ks "TCTL" (h.take 16), kack := kdf ks "TACK" (h.take 16) } ∧
              sent t k ([0x12, 0, 0, 0] ++ cmac (kdf ks "TCTL" (h.take 16)) (ascii "FIN" ++ h)))))) ∧
    (s.alive = false ∨ ¬ doing .verify → exec (.authVerifyDone l a) s = .next s) ∧
    (y.state = .failed → y.fail = 4 → y.tries < 3 → ∃ t, exec (.authRetryTimer l a) s = .next t ∧
      t = { s with tile := { s.tile with tiles := t.tile.tiles } } ∧ waits t k { y with tries := y.tries + 1 }) ∧
    (y.state ≠ .failed ∨ y.fail ≠ 4 ∨ 3 ≤ y.tries → exec (.authRetryTimer l a) s = .next s) ∧
    ((tget s.lanes l.val {}).state = .up → (tget s.tile.chains l.val {}).enum ≠ some a →
      let ping (t : State) (y' : Tile) : Prop := (y.state = .active → tile t k = { y' with exch := y'.exch ++ [.ping] } ∧ sent t k [4, 0, 0, 0]) ∧
        (y.state ≠ .active → tile t k = y')
      (timedOut y = none → exec (.mgmtTimeout l a) s = .next s) ∧
      (∀ m, timedOut y = some m → ∃ t, exec (.mgmtTimeout l a) s = .next t ∧ wide t ∧
        (m = .hello → ended t k .failed 4) ∧ (m = .fin → ended t k .failed 3) ∧ (m = .ping → ended t k .gone 0 ∧ told t l.val) ∧
        (∀ q, m = .sense q → ping t { y with exch := y.exch.erase m }) ∧
        (∀ q, m = .limit q → ping t { y with exch := y.exch.erase m, limitOf := none } ∧
          ∀ n lim line, y.limitOf = some (n, lim, line) → s.caskLive n.toNat = true → status t n.toNat line 1))) ∧
    (s.ksWriter = true →
      let ctl (r : BitVec 4) : State := { s with tile := { s.tile with cmd := BitVec.ofNat 14 (l.val + 0x30 + a.toNat * 2 ^ 8), result := r } }
      let x := tget s.lanes l.val {}
      let held : Prop := y.state ≠ .absent ∧ y.state ≠ .gone
      (x.role ≠ 2 ∨ x.state ≠ .up → exec (.tileCmdReauth l a) s = .next (ctl 1)) ∧
      (x.role = 2 → x.state = .up → ¬ held → exec (.tileCmdReauth l a) s = .next (ctl 3)) ∧
      (x.role = 2 → x.state = .up → held → y.state = .auth ∨ y.wantAuth = true → exec (.tileCmdReauth l a) s = .next (ctl 2)) ∧
      (x.role = 2 → x.state = .up → held → y.state ≠ .auth → y.wantAuth = false → ∃ t, exec (.tileCmdReauth l a) s = .next t ∧
        t.tile.result = 0 ∧ wide t ∧ (tile t k).kdat = [] ∧ (tile t k).kctl = [] ∧ (tile t k).kack = [] ∧ (tile t k).tries = 0 ∧
        ((tile t k).state = .found ∧ (tile t k).wantAuth = true ∨ (tile t k).state = .auth ∧ (tile t k).exch = [.keygen]))) ∧
    (s.ksWriter = false → exec (.tileCmdReauth l a) s = .next s)) ∧
  (∀ (l : Lane) (p : Pkt),
    let x := tget s.lanes l.val {}
    let k := 64 * l.val + p.addr.toNat
    let y := tile s k
    let rx (t : State) : Prop := t = { s with tile := t.tile, lanes := t.lanes, out := t.out }
    let idle (i : Instr) : Prop := ∃ t, exec i s = .next t ∧ rx t ∧ t.tile = s.tile
    let put (t : State) (y' : Tile) : Prop := t.tile.tiles = tset s.tile.tiles k y'
    x.state = .up → p.vc.val < x.v → p.body.length ≤ 1024 → p.seq = (x.vcAt p.vc.val).exp →
      (p.addr.toNat < 64 → y.state = .auth →
        (.hello ∈ y.exch → ∃ t, exec (.authResp l p) s = .next t ∧ rx t ∧
          put t { y with resp := p.body, exch := y.exch.erase .hello ++ [.verify] }) ∧
        (.fin ∈ y.exch → p.body = cmac y.kctl (ascii "DONE" ++ y.h) → ∃ t, exec (.authDone l p) s = .next t ∧ told t l.val ∧
          t = { s with ks := { s.ks with pend := t.ks.pend }, tile := t.tile, lanes := t.lanes, out := t.out } ∧
          (y.wantAuth = false → tile t k =
            { y with exch := y.exch.erase .fin, state := .active, fail := 0, tries := 0, seq := 0, safe := true, lit := false
                     resp := [], hello := [] }))) ∧
      (64 ≤ p.addr.toNat ∨ y.state ≠ .auth ∨ .hello ∉ y.exch → idle (.authResp l p)) ∧
      (64 ≤ p.addr.toNat ∨ y.state ≠ .auth ∨ .fin ∉ y.exch ∨ p.body ≠ cmac y.kctl (ascii "DONE" ++ y.h) → idle (.authDone l p)) ∧
      (let q := wordAt p.body 0
       let passes (mcode : Byte) (n : Nat) : Prop := p.addr.toNat < 64 ∧ y.state = .active ∧ p.body.length = n + 12 ∧
         slice p.body (4 + n) 8 = mac y p.addr mcode q (slice p.body 4 n)
       (¬ (passes 0x21 16 ∧ .sense q ∈ y.exch) → idle (.senseRsp l p)) ∧
       (passes 0x21 16 → .sense q ∈ y.exch → ∃ t, exec (.senseRsp l p) s = .next t ∧
         t = { s with mem := t.mem, casks := t.casks, tile := t.tile, lanes := t.lanes, stale := t.stale, out := t.out } ∧
         put t { y with exch := y.exch.erase (.sense q) } ∧
         (∀ n, owner k n → s.caskLive n = true →
           let z := tget s.tile.loops n {}
           let at' := z.buffer.toNat + 32 * k
           (z.running = true → at' + 32 ≤ pagesBase → t.rdBytes at' 32 =
             leBytes 8 s.clk.time.toNat ++ [if y.safe then 9 else 1, 3, 0, 0] ++ slice p.body 4 16 ++ zeros 4 ∧
             ∀ b, b < at' ∨ at' + 32 ≤ b → t.rd b = s.rd b) ∧
           (k ∈ z.waiting → (∀ j ∈ z.waiting, j = k) → n < 1024 → (tget t.tile.loops n {}).waiting = [] ∧
             bit (t.pendOf (.cask (BitVec.ofNat 10 n))) z.line.toNat = true))) ∧
       (¬ (passes 0x23 2 ∧ .limit q ∈ y.exch) → idle (.limitAck l p)) ∧
       (passes 0x23 2 → .limit q ∈ y.exch → ∃ t, exec (.limitAck l p) s = .next t ∧
         t = { s with mem := t.mem, casks := t.casks, tile := t.tile, lanes := t.lanes, out := t.out, draw := t.draw } ∧
         tile t k = { y with exch := y.exch.erase (.limit q), safe := false, limitOf := none } ∧
         ∀ n lim line, y.limitOf = some (n, lim, line) → s.caskLive n.toNat = true → status t n.toNat line 0))) ∧
  (∀ (m : Fin 8) (off : BitVec 7) (w : Word),
    let old := tget s.tile.makers m.val {}
    let o := off.toNat
    let new : Maker :=
      if o = 0 then (if old.valid then old else { old with id := w })
      else if o = 4 then { old with alg := BitVec.ofNat 2 w.toNat, valid := bit w 4, owner := BitVec.ofNat 10 (w.toNat / 2 ^ 16) }
      else if 8 ≤ o ∧ o < 0x70 then { old with key := (List.range 4).foldl (fun t i => tset t (o - 8 + i) (byte (w.toNat / 2 ^ (8 * i)))) old.key }
      else old
    (s.ksWriter = false ∨ o % 4 ≠ 0 ∨ new = old → exec (.tileMakerWrite m off w) s = .next s) ∧
    (s.ksWriter = true → o % 4 = 0 → new ≠ old → ∃ t, exec (.tileMakerWrite m off w) s = .next t ∧
      t = { s with mem := t.mem, ks := t.ks, casks := t.casks, tile := t.tile, draw := t.draw } ∧
      tget t.tile.makers m.val {} = new ∧ (∀ j, j ≠ m.val → tget t.tile.makers j {} = tget s.tile.makers j {}) ∧
      (∀ k, (tile s k).maker = some (BitVec.ofNat 3 m.val) → (tile s k).state = .active → old.valid = true → new.valid = false →
        ended t k .failed 1) ∧
      (∀ k, (tile s k).state = .failed → (tile s k).fail ≠ 4 → bit s.tile.auto (k / 64) = true →
        (tile t k).wantAuth = true ∨ (tile t k).state = .auth))) ∧
  (∀ (n : BitVec 10) (r : Req),
    let c : Ctx := .cask n
    let busy : Prop := ∃ e ∈ s.tile.tiles, ∃ lim line, e.2.limitOf = some (n, lim, line)
    let fails (i : Instr) (code : Nat) : Prop := ∃ t, exec i s = .next t ∧ status t n.toNat r.line code ∧
      t = { s with mem := t.mem, casks := t.casks, draw := t.draw }
    (s.canTrigger c = false → ∀ i ∈ [Instr.loopStart n r, .loopStop n r, .limit n r], exec i s = .next s) ∧
    (s.canTrigger c = true →
      (busy → ∀ i ∈ [Instr.loopStart n r, .loopStop n r, .limit n r], ∃ t, exec i s = .next t ∧ t = { s with mem := t.mem } ∧
        ∀ b, b < pageAddr c 0xF60 ∨ pageAddr c 0xF70 ≤ b → t.rd b = s.rd b) ∧
      (¬ busy → s.granted c 10 = false → ∀ i ∈ [Instr.loopStart n r, .loopStop n r, .limit n r], fails i 3) ∧
      (¬ busy → s.granted c 10 = true →
        let looped (i : Instr) (z : Loop) : Prop := ∃ t, exec i s = .next t ∧ status t n.toNat r.line 0 ∧
          t = { s with mem := t.mem, casks := t.casks, draw := t.draw, tile := { s.tile with loops := tset s.tile.loops n.toNat z } }
        (r.arg0 = 0 ∨ 1000 < r.arg0.toNat → fails (.loopStart n r) 5) ∧
        (r.arg0 ≠ 0 → r.arg0.toNat ≤ 1000 → s.engineRange c r.arg1.toNat 24576 true = false → fails (.loopStart n r) 4) ∧
        (r.arg0 ≠ 0 → r.arg0.toNat ≤ 1000 → s.engineRange c r.arg1.toNat 24576 true = true → looped (.loopStart n r)
          { running := true, period := r.arg0.toNat, buffer := r.arg1, line := BitVec.ofNat 5 r.arg2.toNat, last := s.clk.time }) ∧
        looped (.loopStop n r) {} ∧
        (let l := r.arg0.toNat % 16
         let k := 64 * l + r.arg0.toNat / 16 % 64
         let y := tile s k
         let inArg : Prop := r.arg0.toNat < 1024 ∧ l < 12
         (¬ inArg → fails (.limit n r) 5) ∧ (inArg → ¬ owner k n.toNat → fails (.limit n r) 2) ∧
         (inArg → owner k n.toNat → y.state ≠ .active → fails (.limit n r) 1) ∧
         (inArg → owner k n.toNat → y.state = .active → y.limitOf ≠ none → fails (.limit n r) 6) ∧
         (inArg → owner k n.toNat → y.state = .active → y.limitOf = none →
           let q := y.seq + 1
           let d := leBytes 2 (r.arg1.toNat % 2 ^ 16)
           ∃ t, exec (.limit n r) s = .next t ∧ t = { s with mem := t.mem, lanes := t.lanes, tile := t.tile } ∧
             t.tile.tiles = tset s.tile.tiles k
               { y with limitOf := some (n, BitVec.ofNat 16 r.arg1.toNat, r.line), seq := q, exch := y.exch ++ [.limit q] } ∧
             sent t k ([0x22, 0, 0, 0] ++ leBytes 4 q.toNat ++ d ++ mac y (byte (k % 64)) 0x22 q d))))) ∧
    (∀ now : Time,
      let u := s.atTime now
      let z := tget s.tile.loops n.toNat {}
      let due : Prop := s.alive = true ∧ z.running = true ∧ z.last.toNat + z.period * 100000 ≤ u.clk.time.toNat
      let mine (k : Nat) : Prop := (tile s k).state = .active ∧ owner k n.toNat
      (¬ due → exec (.loopTick n now) s = .next u) ∧
      (due → ∃ t, exec (.loopTick n now) s = .next t ∧ t = { u with mem := t.mem, casks := t.casks, lanes := t.lanes, tile := t.tile } ∧
        (tget t.tile.loops n.toNat {}).last = z.last + BitVec.ofNat 64 (z.period * 100000) ∧
        (∀ k, k ∈ (tget t.tile.loops n.toNat {}).waiting ↔ mine k) ∧
        (∀ k, mine k →
          let q := (tile s k).seq + 1
          tile t k = { (tile s k) with seq := q, exch := (tile s k).exch ++ [.sense q] } ∧
          sent t k ([0x20, 0, 0, 0] ++ leBytes 4 q.toNat ++ mac (tile s k) (byte (k % 64)) 0x20 q [])) ∧
        (∀ k, ¬ mine k → tile t k = tile s k) ∧
        ((∀ k, ¬ mine k) → s.caskLive n.toNat = true → bit (t.pendOf c) z.line.toNat = true) ∧
        (∀ k, k < 768 →
          let a := z.buffer.toNat + 32 * k
          t.rd (a + 8) = if u.rdLe a 8 + z.period * 100000 < u.clk.time.toNat then u.rd (a + 8) ||| 2 else u.rd (a + 8)) ∧
        (∀ b, (∀ k, k < 768 → b ≠ z.buffer.toNat + 32 * k + 8) → t.rd b = u.rd b))))

/-- A boundary adds 1 to FRAME_NO, makes a staged period, staged settings and staged VALID effective, closes the FACK window of the frame shown (a play counts when its verdict was SHOW with every tile ACTIVE and every tile answered SHOWN), starts the commit of PEND when it reaches BATCH or is to be flushed, puts FLIP first on VC 0 of every UP egress lane and raises FRAME_OUT when enabled. FRAME_CFG and FRAME_PERIOD start or stop the path and refuse a period outside 416,666-4,166,667 with ERR_CODE PERIOD; with SRC = 0 the boundary is at the last one + PERIOD, with SRC = 1 at an accepted edge; any other edge is counted; without an edge the path flywheels with keystone line 10. In a span only the leader takes edges. A region write sets VALID only when RANGE and OVERLAP pass, and is LOCKED while VALID reads 1, but for the one that clears VALID. -/
def Obligations.FrameBoundaries : Prop := ∀ s : State, s.tabsOk →
  let region (t : State) (r : Nat) : Region := tget t.frame.regions r {}
  let passes (u t : State) (b : Nat) : Prop :=
    let p := u.frame.periodNext.getD u.frame.period
    t.frame.frameNo = u.frame.frameNo + 1 ∧ t.frame.last = BitVec.ofNat 64 b ∧ t.frame.deadline = false ∧ t.frame.queued = [] ∧
    t.frame.period = p ∧ t.frame.periodNext = none ∧
    (∀ r, u.frame.regions.any (fun e => e.1 == r) = true →
      let x := region u r
      let y := region t r
      let tiles := regionTiles x
      let play : Prop := x.valid = true ∧ x.showAllNow = true ∧ ∀ k ∈ tiles, k ∈ x.facks
      let pend := if play then x.pendPlays + 1 else x.pendPlays
      let due : Prop := x.flush = true ∨ x.validNext = some false ∨ max 1 x.cur.batch.toNat ≤ pend
      y.plays = (if play then satAdd1 x.plays else x.plays) ∧ y.facks = [] ∧ y.flush = false ∧ y.staged = none ∧ y.validNext = none ∧
      y.valid = x.validNext.getD x.valid ∧ y.showAll = false ∧
      (x.validNext ≠ some false → y.cur = x.staged.getD x.cur ∧ y.showAllNow = x.showAll) ∧ (x.validNext = some false → y.cur = {}) ∧
      (x.validNext = none → y.mode = x.mode ∧ y.shown = x.mode) ∧ (x.validNext ≠ none → y.mode = .idle ∧ y.shown = .idle) ∧
      (¬ due ∨ x.commit ≠ none ∨ pend = 0 → y.commit = x.commit ∧ y.pendPlays = pend) ∧
      (due → x.commit = none → pend ≠ 0 →
        let k : RCommit := { amount := pend, tally := x.cur.tally, slot := x.cur.slot }
        let c := s.regionCtr x.owner.toNat (x.cur.ctr.toNat % 2 ^ 12)
        (bit x.cur.ctr 12 = true → ∀ n, c = some n → y.commit = some { k with ctr := n } ∧ y.pendPlays = pend) ∧
        (bit x.cur.ctr 12 = true → c = none → y.commit = none ∧ y.pendPlays = 0 ∧ bit t.ks.pend 10 = true) ∧
        (bit x.cur.ctr 12 = false → x.cur.tally = 0 → y.commit = none ∧ y.pendPlays = 0) ∧
        (bit x.cur.ctr 12 = false → x.cur.tally ≠ 0 → y.commit = some { k with counted := true } ∧ y.pendPlays = pend))) ∧
    (u.span.en = true → u.span.locked = true → u.leads = false → u.scheduled = none → t.span.schedMiss = satAdd1 u.span.schedMiss) ∧
    (u.span.en = false → u.span.schedDue = false →
      t.frame.running = (u.frame.running && p != 0) ∧
      (u.frame.outEn = true → t.frame.outPin = true ∧ t.out = if u.frame.outPin = true then u.out else .frameOut true :: u.out) ∧
      (u.frame.outEn = false → t.frame.outPin = u.frame.outPin ∧ t.out = u.out) ∧
      t = { u with frame := t.frame, tile := { u.tile with tiles := t.tile.tiles }, lanes := t.lanes, ks := t.ks, casks := t.casks, out := t.out } ∧
      (∀ k, (tget t.tile.tiles k {}).state = (tget u.tile.tiles k {}).state ∧
        ((tget t.tile.tiles k {}).lit = true ↔ (tget u.tile.tiles k {}).state = .active)) ∧
      (∀ l, l < 12 → (tget u.lanes l {}).role = 2 → (tget u.lanes l {}).state = .up → (tget t.lanes l {}).frameOk = true ∧
        ∃ q, (((tget t.lanes l {}).vcAt 0).replay ++ ((tget t.lanes l {}).vcAt 0).queue)[((tget u.lanes l {}).vcAt 0).replay.length]? = some q ∧
          q.typ = .data ∧ q.addr = 0xFF ∧
          q.body = leBytes 8 (u.frame.frameNo + 1).toNat ++ leBytes 4 0xFFFFFFFF ++ [4, 0, 0, 0]))
  let low (u : State) : State := if u.frame.outPin = true then { u with frame := { u.frame with outPin := false }, out := .frameOut false :: u.out } else u
  let goes (i : Instr) (u : State) : Prop :=
    let p := if u.span.en = true then u.spanPeriod else u.frame.period.toNat
    (p = 0 → exec i s = .next u) ∧
    (p ≠ 0 → u.frame.src = true → u.span.en = false → exec i s =
      .next { u with frame := { u.frame with running := true, first := true, edge := none, deadline := false } }) ∧
    (p ≠ 0 → u.frame.src = false ∨ u.span.en = true → ∃ t, exec i s = .next t ∧
      passes { u with frame := { u.frame with running := true, first := true, edge := none, deadline := false } } t u.clk.time.toNat)
  (s.ksWriter = true →
    (∀ w : Word,
      let u : State := { s with frame := { s.frame with run := bit w 0, src := bit w 1, outEn := bit w 2 } }
      let off : State := { u with frame := { u.frame with running := false, periodNext := none, period := u.frame.periodNext.getD u.frame.period } }
      let on : State := if bit w 2 = true then u else low u
      (bit w 0 = false → exec (.frameCfgWrite w) s = .next (low off)) ∧
      (bit w 0 = true → s.frame.running = true → exec (.frameCfgWrite w) s = .next on) ∧
      (bit w 0 = true → s.frame.running = false → goes (.frameCfgWrite w) on)) ∧
    (∀ w : Word,
      let v := w.toNat % 2 ^ 23
      let u : State := { s with frame := { s.frame with period := BitVec.ofNat 23 v } }
      (v ≠ 0 → v < 416666 ∨ 4166667 < v → exec (.framePeriodWrite w) s = .next { s with frame := { s.frame with cfgErr := true, errCode := 4 } }) ∧
      (v = 0 ∨ 416666 ≤ v ∧ v ≤ 4166667 →
        (s.frame.running = true → exec (.framePeriodWrite w) s = .next { s with frame := { s.frame with periodNext := some (BitVec.ofNat 23 v) } }) ∧
        (s.frame.running = false → s.frame.run = false → exec (.framePeriodWrite w) s = .next u) ∧
        (s.frame.running = false → s.frame.run = true → goes (.framePeriodWrite w) u))) ∧
    (∀ (r : Byte) (off : BitVec 6) (w : Word),
      let x := region s r.toNat
      let o := off.toNat
      let put (y : Region) : State := { s with frame := { s.frame with regions := tset s.frame.regions r.toNat y } }
      let err (u : State) (c : BitVec 4) : State := { u with frame := { u.frame with cfgErr := true, errCode := c } }
      let e : Extent := { lane := BitVec.ofNat 4 w.toNat, first := BitVec.ofNat 6 (w.toNat / 2 ^ 4), last := BitVec.ofNat 6 (w.toNat / 2 ^ 10), used := bit w 16 }
      let y : Region := if o = 0 then { x with owner := BitVec.ofNat 11 w.toNat, fallback := BitVec.ofNat 2 (w.toNat / 2 ^ 13) }
        else if o = 4 then { x with slate := BitVec.ofNat 24 w.toNat } else if o = 8 then { x with tileBytes := BitVec.ofNat 23 w.toNat }
        else { x with extents := tset x.extents ((o - 12) / 4) e }
      let ext (i : Nat) : Extent := tget y.extents i {}
      let range : Prop := y.tileBytes.toNat % 16 = 0 ∧ 16 ≤ y.tileBytes.toNat ∧ y.tileBytes.toNat ≤ 4194304 ∧ y.owner.toNat ≤ 0x400 ∧
        (∃ i, i < 4 ∧ (ext i).used = true) ∧ ∀ i, i < 4 → (ext i).used = true →
          (tget s.lanes (ext i).lane.toNat {}).role = 2 ∧ (ext i).lane.toNat < 12 ∧ (ext i).first.toNat ≤ (ext i).last.toNat
      let apart : Prop := (regionTiles y).Nodup ∧ ∀ q ∈ s.frame.regions, q.1 ≠ r.toNat → q.2.validNext.getD q.2.valid = true →
        ∀ k ∈ regionTiles q.2, k ∉ regionTiles y
      (o % 4 ≠ 0 ∨ 0x1C ≤ o → exec (.regionWrite r off w) s = .next s) ∧
      (o % 4 = 0 → o < 0x1C → x.validNext.getD x.valid = true →
        (o = 0 → bit w 12 = false → exec (.regionWrite r off w) s = .next (put { x with validNext := if x.valid = true then some false else none })) ∧
        (o ≠ 0 ∨ bit w 12 = true → exec (.regionWrite r off w) s = .next (err s 3))) ∧
      (o % 4 = 0 → o < 0x1C → x.validNext.getD x.valid = false →
        (o ≠ 0 ∨ bit w 12 = false → exec (.regionWrite r off w) s = .next (put y)) ∧
        (o = 0 → bit w 12 = true → ¬ range → exec (.regionWrite r off w) s = .next (err (put y) 1)) ∧
        (o = 0 → bit w 12 = true → range → ¬ apart → exec (.regionWrite r off w) s = .next (err (put y) 2)) ∧
        (o = 0 → bit w 12 = true → range → apart → exec (.regionWrite r off w) s = .next (put { y with validNext := some true }))))) ∧
  (s.ksWriter = false → ∀ (w : Word) (r : Byte) (off : BitVec 6),
    exec (.frameCfgWrite w) s = .next s ∧ exec (.framePeriodWrite w) s = .next s ∧ exec (.regionWrite r off w) s = .next s) ∧
  exec .frameOutPulseEnd s = .next (low s) ∧
  (∀ now : Time,
    let u := s.atTime now
    let p := if u.span.en = true then u.spanPeriod else u.frame.period.toNat
    let plus := u.frame.last.toNat + p
    let time := u.clk.time.toNat
    (s.alive = false → exec (.frameBoundary now) s = .next u ∧ exec (.frameInTimeout now) s = .next u ∧
      ∀ wide, exec (.frameInEdge now wide) s = .next u) ∧
    (s.alive = true →
      (u.frame.running = false → u.frame.run = true → goes (.frameBoundary now) u) ∧
      (u.frame.running = false → u.frame.run = false → ∃ t, exec (.frameBoundary now) s = .next t ∧ t.frame.frameNo = u.frame.frameNo ∧
        (u.span.en = false → t = u)) ∧
      (u.frame.running = true → u.frame.src = false ∨ u.span.en = true →
        (u.span.en = false → u.nextBoundary = plus) ∧
        (time < u.nextBoundary → exec (.frameBoundary now) s = .next u) ∧
        (u.nextBoundary ≤ time → ∃ t, exec (.frameBoundary now) s = .next t ∧ passes u t u.nextBoundary)) ∧
      (u.frame.running = true → u.frame.src = true → u.span.en = false →
        let fits (wide : Bool) : Prop := wide = true ∧ (u.frame.first = true ∨ (time - plus) * 200 ≤ p ∧ (plus - time) * 200 ≤ p)
        exec (.frameBoundary now) s = .next u ∧
        (∀ wide, fits wide → ∃ t, exec (.frameInEdge now wide) s = .next t ∧
          passes { u with frame := { u.frame with first := false, flywheel := false } } t time ∧ (u.span.schedDue = false → t.frame.flywheel = false)) ∧
        (∀ wide, ¬ fits wide → exec (.frameInEdge now wide) s = .next { u with frame := { u.frame with inRej := satAdd1 u.frame.inRej } }) ∧
        (u.frame.first = false → plus + p / 200 ≤ time → ∃ t, exec (.frameInTimeout now) s = .next t ∧ t.frame.flywheel = true ∧
          bit t.ks.pend 10 = true ∧
          passes { u with frame := { u.frame with flywheel := true }, ks := { u.ks with pend := u.ks.pend ||| 1024 } } t (plus + p / 200)) ∧
        (u.frame.first = true ∨ time < plus + p / 200 → exec (.frameInTimeout now) s = .next u)) ∧
      (u.frame.running = false ∨ u.frame.src = false → exec (.frameInTimeout now) s = .next u ∧ ∀ wide, exec (.frameInEdge now wide) s = .next u) ∧
      (u.frame.running = true → u.frame.src = true → u.span.en = true →
        (u.leads = false → exec (.frameInTimeout now) s = .next u ∧ ∀ wide, exec (.frameInEdge now wide) s = .next u) ∧
        (u.leads = true →
          let near' (b : Nat) : Prop := (time - b) * 200 ≤ p ∧ (b - time) * 200 ≤ p
          let late : Prop := u.span.schedDue = true ∧ u.frame.last.toNat + p / 200 ≤ time
          let planned (t : State) (b : Nat) : Prop := t.span.schedDue = false ∧
            (BitVec.ofNat 64 (u.frame.frameNo.toNat + 2), BitVec.ofNat 64 b) ∈ t.span.schedule
          (u.span.schedDue = true → near' u.frame.last.toNat → ∃ t, exec (.frameInEdge now true) s = .next t ∧
            t.frame = { u.frame with flywheel := false } ∧ planned t (time + 2 * p)) ∧
          (u.span.schedDue = false ∨ ¬ near' u.frame.last.toNat → near' u.nextBoundary → exec (.frameInEdge now true) s =
            .next { u with frame := { u.frame with edge := some u.clk.time } }) ∧
          (u.span.schedDue = false ∨ ¬ near' u.frame.last.toNat → ¬ near' u.nextBoundary → exec (.frameInEdge now true) s =
            .next { u with frame := { u.frame with inRej := satAdd1 u.frame.inRej } }) ∧
          exec (.frameInEdge now false) s = .next { u with frame := { u.frame with inRej := satAdd1 u.frame.inRej } } ∧
          (late → ∃ t, exec (.frameInTimeout now) s = .next t ∧ t.frame = { u.frame with flywheel := true } ∧ bit t.ks.pend 10 = true ∧
            planned t (u.nextBoundary + p)) ∧
          (¬ late → exec (.frameInTimeout now) s = .next u)))))

/-- A DATA packet of an ingress lane starts or continues the segment of its lane and VC; a complete header is checked once in R489's order, with the first code that fails in LAST_SEG of a VALID region, else granules are reserved; a break of R488 drops the segment with BAD_SEGMENT. A decryption that ends makes the segment releasable with its plaintext in place, or drops it with NO_KEY or TAG_FAIL. From a boundary to the deadline a packet of a tile's slice, once released, is sealed under the tile's key and queued once. At the deadline every VALID region takes the verdict of R497 (in a wind-down of R499) and every tile due frame data gets a COMMIT of it, black when it is in no VALID region; segments for that frame are dropped. A FACK SHOWN of the frame shown whose MAC passes is noted. A commit counts PEND, then adds it to the tally, and a failure of either raises CTR_FAULT or TALLY_FAULT with keystone line 10. FRM.APPLY answers the first failure of R508 or stages the settings; FLUSH and READ check ownership alone. -/
def Obligations.FrameData : Prop := ∀ s : State, s.tabsOk →
  let region (t : State) (r : Nat) : Region := tget t.frame.regions r {}
  let served (k : Nat) : Prop := (tget s.tile.tiles k {}).state = .active ∧ (tget s.tile.tiles k {}).lit = true ∧
    (tget s.lanes (k / 64) {}).role = 2 ∧ (tget s.lanes (k / 64) {}).state = .up ∧ (tget s.lanes (k / 64) {}).frameOk = true
  let sealed (k : Nat) (off : Nat) (flags : Byte) (pt : Bytes) : Bytes :=
    let f := s.frame.frameNo + 1
    let pre := leBytes 8 f.toNat ++ leBytes 4 off ++ [flags, 0, 0, 0]
    let x := gcmEncrypt (tget s.tile.tiles k {}).kdat (beBytes 8 f.toNat ++ beBytes 4 off) (pre ++ [byte (k % 64)]) pt
    pre ++ x.1 ++ x.2
  let packets (t : State) (k : Nat) (body : Bytes) : Nat :=
    let v := (tget t.lanes (k / 64) {}).vcAt 0
    (v.queue ++ v.replay).countP fun q => q.typ == .data && q.addr == byte (k % 64) && q.body == body
  let ends (t : State) (r code : Nat) (k : RCommit) : Prop := (region t r).commit = none ∧
    (region t r).pendPlays = (region s r).pendPlays - k.amount ∧
    (code ≠ 0 → (tget t.frame.pages (region s r).owner.toNat {}).st = BitVec.ofNat 5 code ∧ bit t.ks.pend 10 = true)
  (∀ (l : Lane) (p : Pkt),
    let x := tget s.lanes l.val {}
    let i := 8 * l.val + p.vc.val
    let asm (t : State) : Option Assembly := (t.frame.asm.find? fun e => e.1 == i).map (·.2)
    let first := bit (p.body.getD 0 0) 0
    let last := bit (p.body.getD 0 0) 1
    let frag := leNat (slice p.body 2 2)
    let b := p.body.drop 4
    let rx (t : State) : Prop :=
      t = { s with mem := t.mem, ks := t.ks, casks := t.casks, press := t.press, lanes := t.lanes, frame := t.frame, stale := t.stale, draw := t.draw, out := t.out }
    let records (t : State) (r : Nat) (code : BitVec 4) : Prop := (region t r).lastSeg = code ∧ (region t r).segLine = true ∧
      ((region s r).segLine = false → bit (region s r).cur.line 5 = true → s.ctxLive (ctxOf (region s r).owner.toNat) = true →
        bit (t.pendOf (ctxOf (region s r).owner.toNat)) ((region s r).cur.line.toNat % 32) = true)
    x.state = .up → p.vc.val < x.v → p.body.length ≤ 1024 → p.seq = (x.vcAt p.vc.val).exp →
      (p.body.length < 4 ∨ x.role ≠ 1 → ∃ t, exec (.dataPacket l p) s = .next t ∧ rx t ∧ t.frame = s.frame ∧
        (tget t.lanes l.val {}).cntDrop = satAdd1 x.cntDrop) ∧
      (4 ≤ p.body.length → x.role = 1 → first = false → asm s = none → ∃ t, exec (.dataPacket l p) s = .next t ∧ rx t ∧ t.frame = s.frame) ∧
      (∀ a : Assembly, 4 ≤ p.body.length → x.role = 1 → first = false → asm s = some a → frag ≠ a.frag + 1 → a.dead = false →
        48 ≤ a.bytes.length → (region s (hdrRegion a.bytes)).valid = true →
        ∃ t, exec (.dataPacket l p) s = .next t ∧ rx t ∧ asm t = none ∧ records t (hdrRegion a.bytes) 7) ∧
      (4 ≤ p.body.length → x.role = 1 → first = true → frag = 0 → asm s = none →
        let z := region s (hdrRegion b)
        let len := hdrSegLen b
        let key := if b.getD 6 0 = 0 then z.cur.key0 else z.cur.key1
        let gs := s.ssbFree.take ((len + 64 + 4095) / 4096)
        let magic : Prop := leNat (slice b 0 4) = 0x53474553 ∧ b.getD 4 0 = 1 ∧ (b.getD 6 0).toNat ≤ 1 ∧ b.getD 7 0 = 0 ∧
          slice b 0x24 12 = zeros 12 ∧ 1 ≤ len ∧ len ≤ 65536
        let off : Prop := z.owner.toNat < 1024 ∧ s.caskLive z.owner.toNat = false
        let late : Prop := hdrFrame b < s.frame.frameNo.toNat + 1
        let early : Prop := s.frame.frameNo.toNat + 2 < hdrFrame b
        let past : Prop := (regionTiles z).length * z.tileBytes.toNat < hdrOffset b + len
        let keyless : Prop := key = 0 ∨ s.keyOf (ctxOf z.owner.toNat) key = none
        let full : Prop := s.ssbFree.length < (len + 64 + 4095) / 4096
        let code : BitVec 4 := if ¬ magic then 7 else if off then 9 else if late then 3 else if early then 4 else if past then 5
          else if keyless then 2 else if full then 6 else 0
        (last = false → b.length < 48 → ∃ t, exec (.dataPacket l p) s = .next t ∧ rx t ∧ asm t = some { bytes := b }) ∧
        (last = false → 48 ≤ b.length → s.tamp.wind ≠ none ∨ z.valid = false → ∃ t, exec (.dataPacket l p) s = .next t ∧ rx t ∧
          asm t = some { bytes := b, dead := true } ∧ t.frame.regions = s.frame.regions) ∧
        (last = false → 48 ≤ b.length → s.tamp.wind = none → z.valid = true →
          (code ≠ 0 → ∃ t, exec (.dataPacket l p) s = .next t ∧ rx t ∧ asm t = some { bytes := b, dead := true } ∧
            records t (hdrRegion b) code ∧ (code = 6 → t.frame.ssbOvf = true)) ∧
          (code = 0 → b.length ≤ 48 + len + 16 → ∀ k, s.keyOf (ctxOf z.owner.toNat) key = some k → ∃ t,
            exec (.dataPacket l p) s = .next t ∧ rx t ∧ asm t = some { bytes := b, accepted := some (k.key, key, gs) }) ∧
          (code = 0 → 48 + len + 16 < b.length → ∃ t, exec (.dataPacket l p) s = .next t ∧ rx t ∧ asm t = none ∧
            records t (hdrRegion b) 7)) ∧
        (last = true → 48 ≤ b.length → s.tamp.wind = none → z.valid = true → code = 0 →
          (b.length ≠ 48 + len + 16 → ∃ t, exec (.dataPacket l p) s = .next t ∧ rx t ∧ asm t = none ∧ records t (hdrRegion b) 7) ∧
          (b.length = 48 + len + 16 → ∀ k, s.keyOf (ctxOf z.owner.toNat) key = some k → ∃ (t : State) (g : Segm),
            exec (.dataPacket l p) s = .next t ∧ rx t ∧ asm t = none ∧ t.frame.segs.length = s.frame.segs.length + 1 ∧
            t.frame.segs.getLast? = some g ∧ g.region.toNat = hdrRegion b ∧ g.frame = BitVec.ofNat 64 (hdrFrame b) ∧
            g.offset = hdrOffset b ∧ g.len = len ∧ g.tag = b.drop (48 + len) ∧ g.key = k.key ∧ g.grans = gs.map some ∧
            g.phase = .decrypting)))) ∧
  (let decided (g : Segm) : Bool := g.phase == .decrypting && g.pipe.isSome
   let moved (t : State) : Prop :=
     t = { s with mem := t.mem, ks := t.ks, casks := t.casks, press := t.press, frame := t.frame, stale := t.stale, draw := t.draw }
   (s.alive = false ∨ (∀ g ∈ s.frame.segs, decided g = false) → exec .segmentDecryptDone s = .next s) ∧
   (∀ (i : Nat) (g : Segm), s.alive = true → s.frame.segs[i]? = some g → decided g = true →
     (∀ j h, j < i → s.frame.segs[j]? = some h → decided h = false) →
     let r := g.region.toNat
     let gs := g.grans.filterMap id
     let ct := ((gs.flatMap fun j => s.rdBytes (ssbAddr j) 0x1000).drop 48).take g.len
     let key := s.keyOf (ctxOf (region s r).owner.toNat) g.handle
     let plain := gcmDecrypt g.key (slice g.header 0x18 12) g.header ct g.tag
     let drops (code : BitVec 4) : Prop := ∃ t, exec .segmentDecryptDone s = .next t ∧ moved t ∧
       t.frame.segs.length + 1 = s.frame.segs.length ∧
       ((region s r).valid = true → (region t r).lastSeg = code ∧ (region t r).tagFail = if code = 1 then satAdd1 (region s r).tagFail else (region s r).tagFail)
     (key = none → drops 2) ∧ (key ≠ none → plain = none → drops 1) ∧
     (∀ m, key ≠ none → plain = some m → ∃ (t : State) (g' : Segm), exec .segmentDecryptDone s = .next t ∧ moved t ∧
       t.frame.segs[i]? = some g' ∧ g'.phase = .releasable ∧ g'.pipe = none ∧ g'.key = [] ∧ g'.grans = g.grans ∧
       ((region s r).valid = true → (region t r).lastSeg = 0) ∧
       (s.pressWaiting = [] → (∀ h ∈ s.frame.segs, segWaits h = false) → gs.Nodup →
         g.header.length + m.length + g.tag.length ≤ gs.length * 4096 →
         (gs.flatMap fun j => t.rdBytes (ssbAddr j) 0x1000).take (g.header.length + m.length + g.tag.length) = g.header ++ m ++ g.tag)))) ∧
  (∀ (l : Lane) (a : BitVec 6) (off : Word),
    let k := 64 * l.val + a.toNat
    let o := off.toNat
    let may : Prop := s.alive = true ∧ s.frame.running = true ∧ s.frame.deadline = false ∧ s.tamp.wind = none ∧ served k ∧ 224 + l.val ∉ s.clk.off
    let done := tget s.frame.queued k []
    (¬ may → exec (.tileReencryptDone l a off) s = .next s) ∧
    ((∀ e ∈ s.frame.regions, e.2.valid = true → k ∉ regionTiles e.2) → exec (.tileReencryptDone l a off) s = .next s) ∧
    (∀ (e : Nat × Region) (i : Nat), may → s.frame.regions.find? (fun e => e.2.valid && (regionTiles e.2).contains k) = some e →
      (regionTiles e.2).findIdx? (fun j => j == k) = some i →
      let tb := e.2.tileBytes.toNat
      let n := min 992 (tb - o)
      let data := s.released e.1 (s.frame.frameNo + 1) (i * tb + o) n
      (o % 992 ≠ 0 ∨ tb ≤ o ∨ o ∈ done ∨ data = none → exec (.tileReencryptDone l a off) s = .next s) ∧
      (∀ pt, o % 992 = 0 → o < tb → o ∉ done → data = some pt → ∃ t, exec (.tileReencryptDone l a off) s = .next t ∧
        t = { s with mem := t.mem, lanes := t.lanes, frame := { s.frame with queued := tset s.frame.queued k (done ++ [o]), segs := t.frame.segs } } ∧
        (let body := sealed k o (if o + n = tb then 1 else 0) pt
         packets t k body = packets s k body + 1)))) ∧
  (s.alive = false ∨ s.frame.running = false ∨ s.frame.deadline = true → exec .frameDeadline s = .next s) ∧
  (s.alive = true → s.frame.running = true → s.frame.deadline = false → ∃ t, exec .frameDeadline s = .next t ∧ t.frame.deadline = true ∧
    t = { s with tamp := t.tamp, mem := t.mem, ks := t.ks, casks := t.casks, press := t.press, lanes := t.lanes, frame := t.frame, stale := t.stale, draw := t.draw } ∧
    t.frame.segs.map (fun g => (g.region, g.frame, g.offset)) =
      (s.frame.segs.filter fun g => decide (s.frame.frameNo.toNat + 1 < g.frame.toNat)).map (fun g => (g.region, g.frame, g.offset)) ∧
    (let black : Prop := ∃ w, s.tamp.wind = some w ∧ s.frame.frameNo + 1 ≠ w.frame
     let commit (k : Nat) (v : Byte) (rgb : Bytes) : Prop := served k →
       ∃ q ∈ ((tget t.lanes (k / 64) {}).vcAt 0).queue ++ ((tget t.lanes (k / 64) {}).vcAt 0).replay,
         q.typ = .data ∧ q.addr = byte (k % 64) ∧ q.body = sealed k 0xFFFFFFFF 2 (v :: rgb)
     (black → (∀ k, commit k 3 [0, 0, 0]) ∧ t.tamp.wind = s.tamp.wind.map fun w => { w with black := w.black + 1 }) ∧
     (¬ black → t.tamp = s.tamp ∧ (∀ k, (∀ e ∈ s.frame.regions, e.2.valid = true → k ∉ regionTiles e.2) → commit k 3 [0, 0, 0]) ∧
       ∀ r, (region s r).valid = true →
         let x := region s r
         let y := region t r
         let whole := s.regionComplete x
         let off : Prop := x.owner.toNat < 1024 ∧ s.caskLive x.owner.toNat = false
         let all (v : Byte) (rgb : Bytes) : Prop := ∀ k ∈ regionTiles x, commit k v rgb
         let falls : Prop := y.mode = .fallback ∧ y.holds = x.holds ∧ (x.fallback = 0 → all 2 [0, 0, 0]) ∧
           (x.fallback = 1 → all 3 [byte (x.slate.toNat / 2 ^ 16), byte (x.slate.toNat / 2 ^ 8), byte x.slate.toNat]) ∧
           (x.fallback = 2 → all 3 [0, 0, 0])
         let shows : Prop := y.mode = .show ∧ y.holds = 0 ∧ all 1 [0, 0, 0] ∧ (y.showAll = true ↔ ∀ k ∈ regionTiles x, served k)
         let holds (n : Nat) : Prop := y.mode = .hold ∧ y.holds = n ∧ y.held = satAdd1 x.held ∧ y.showAll = false ∧ all 2 [0, 0, 0]
         (s.tamp.wind ≠ none → (whole = true → ¬ off → shows) ∧ (whole = false ∨ off → holds x.holds)) ∧
         (s.tamp.wind = none →
           (x.mode = .fallback → (whole = true → ¬ off → shows) ∧ (whole = false ∨ off → falls)) ∧
           (x.mode ≠ .fallback → (off → falls ∧ y.flush = true ∧ bit t.ks.pend 10 = true) ∧ (¬ off → whole = true → shows) ∧
             (¬ off → whole = false → x.holds < 3 → holds (x.holds + 1)) ∧
             (¬ off → whole = false → 3 ≤ x.holds → falls ∧ y.flush = true ∧ bit t.ks.pend 10 = true)))))) ∧
  (∀ (l : Lane) (p : Pkt),
    let x := tget s.lanes l.val {}
    let k := 64 * l.val + p.addr.toNat
    let y := tget s.tile.tiles k {}
    let passes : Prop := p.addr.toNat < 64 ∧ y.state = .active ∧ p.body.length = 24 ∧ leNat (p.body.take 8) = s.frame.frameNo.toNat ∧
      p.body.getD 8 0 = 0 ∧ slice p.body 9 7 = zeros 7 ∧ p.body.drop 16 = (cmac y.kack (p.addr :: p.body.take 16)).take 8
    x.state = .up → p.vc.val < x.v → p.body.length ≤ 1024 → p.seq = (x.vcAt p.vc.val).exp → ∃ t, exec (.fack l p) s = .next t ∧
      t = { s with lanes := t.lanes, out := t.out, frame := { s.frame with regions := t.frame.regions } } ∧
      (∀ e, passes → s.frame.regions.find? (fun e => e.2.valid && (regionTiles e.2).contains k) = some e → k ∈ (region t e.1).facks ∧
        ∀ r, r ≠ e.1 → region t r = region s r) ∧
      (¬ passes ∨ (∀ e ∈ s.frame.regions, e.2.valid = true → k ∉ regionTiles e.2) → t.frame = s.frame)) ∧
  (∀ r : Byte,
    let x := region s r.toNat
    (x.commit = none ∨ s.alive = false → (∀ fault, exec (.playCounterCommit r fault) s = .next s) ∧ exec (.playTallyAdd r) s = .next s) ∧
    (∀ k, x.commit = some k → s.alive = true →
      (k.counted = true → ∀ fault, exec (.playCounterCommit r fault) s = .next s) ∧
      (k.counted = false → exec (.playTallyAdd r) s = .next s) ∧
      (k.counted = false →
        (∀ v, ctrVal (s.ctr k.ctr) = some v → v + k.amount < 2 ^ 64 → ∃ t, exec (.playCounterCommit r false) s = .next t ∧
          t = { s with ctrs := t.ctrs, frame := { s.frame with regions := t.frame.regions } } ∧
          t.ctrs = (s.setCtr k.ctr (ctrInc (s.ctr k.ctr) k.amount)).ctrs ∧ (k.tally = 0 → ends t r.toNat 0 k) ∧
          (k.tally ≠ 0 → region t r.toNat = { x with commit := some { k with counted := true } })) ∧
        (∀ v, ctrVal (s.ctr k.ctr) = some v → 2 ^ 64 ≤ v + k.amount → ∃ t, exec (.playCounterCommit r false) s = .next t ∧
          t = { s with ks := t.ks, casks := t.casks, frame := t.frame } ∧ ends t r.toNat 8 k) ∧
        (ctrVal (s.ctr k.ctr) = none → ∃ t, exec (.playCounterCommit r false) s = .next t ∧ t.ctrs = s.ctrs ∧ ends t r.toNat 8 k) ∧
        (∃ t, exec (.playCounterCommit r true) s = .next t ∧ t = { s with ks := t.ks, casks := t.casks, frame := t.frame } ∧
          ends t r.toNat 8 k)) ∧
      (k.counted = true →
        let n := x.owner.toNat
        let o := s.objOf n k.tally
        (s.tallyBusy n k.tally = true → exec (.playTallyAdd r) s = .next s) ∧
        (s.tallyBusy n k.tally = false →
          (o = none ∨ (∃ e, o = some e ∧ (e.2.kind ≠ 2 ∨ e.2.damaged = true ∨ e.2.par.n ≤ k.slot.toNat)) →
            ∃ t, exec (.playTallyAdd r) s = .next t ∧ t = { s with ks := t.ks, casks := t.casks, frame := t.frame } ∧ ends t r.toNat 9 k) ∧
          (∀ e, o = some e → e.2.kind = 2 → e.2.damaged = false → k.slot.toNat < e.2.par.n → ∃ t, exec (.playTallyAdd r) s = .next t ∧
            ends t r.toNat 0 k ∧ t = { s with mem := t.mem, lat := { s.lat with objs := t.lat.objs }, frame := { s.frame with regions := t.frame.regions } } ∧
            (let qs := e.2.par.lower e.2.level.toNat
             let body := s.objBody e.2
             let m := liftPoly e.2.par.t (ptPoly e.2.par (e.2.enc == 1) (onePlain e.2.par.n k.slot.toNat (k.amount % e.2.par.t)))
             let c0 := writeRns (rnsAdd qs (ctPolys e.2 body).1 (rnsOfInts qs m))
             let head := if e.2.seeded = true then body.take 32 else []
             t.lat.objs = (s.commitObj e.1 n e.2.incarn (e.2, head ++ c0 ++ body.drop (head.length + c0.length))).lat.objs)))))) ∧
  (∀ c : Ctx,
    let n := ctxNum c
    let p := tget s.frame.pages n {}
    let r := p.reg.toNat
    let x := region s r
    let own := x.owner.toNat
    let mine : Prop := x.validNext.getD x.valid = true ∧ (c = .keystone ∨ own = n)
    let say (code : Nat) : State := { s with frame := { s.frame with pages := tset s.frame.pages n { p with st := BitVec.ofNat 5 code } } }
    let keys : List VSlot := [p.set.key0, p.set.key1].filterMap fun h => if h = 0 then none else s.keyOf (ctxOf own) h
    (s.canTrigger c = false ∨ s.granted c 3 = false →
      exec (.frmApply c) s = .next s ∧ exec (.frmFlush c) s = .next s ∧ exec (.frmRead c) s = .next s) ∧
    (s.canTrigger c = true → s.granted c 3 = true →
      (¬ mine → exec (.frmApply c) s = .next (say 1) ∧ exec (.frmFlush c) s = .next (say 1) ∧ exec (.frmRead c) s = .next (say 1)) ∧
      (mine →
        (exec (.frmRead c) s = .next { s with frame := { s.frame with pages := tset s.frame.pages n { p with st := 0, set := x.cur } } }) ∧
        (s.frame.running = true → ∃ t, exec (.frmFlush c) s = .next t ∧ t.frame.pages = (say 0).frame.pages ∧
          region t r = { x with flush := true } ∧ t = { s with frame := { s.frame with pages := t.frame.pages, regions := t.frame.regions } }) ∧
        (s.frame.running = false → ∃ t, exec (.frmFlush c) s = .next t ∧ t = { s with ks := t.ks, casks := t.casks, frame := t.frame } ∧
          (x.pendPlays = 0 ∨ x.commit ≠ none → t = say 0) ∧
          (x.pendPlays ≠ 0 → x.commit = none → ∀ d, bit x.cur.ctr 12 = true → s.regionCtr own (x.cur.ctr.toNat % 2 ^ 12) = some d →
            region t r = { x with commit := some { ctr := d, amount := x.pendPlays, tally := x.cur.tally, slot := x.cur.slot } })) ∧
        (let tally : Prop := p.set.tally = 0 ∨ ∃ e, s.objOf own p.set.tally = some e ∧ e.2.kind = 2 ∧ e.2.damaged = false ∧ p.set.slot.toNat < e.2.par.n
         let code : Nat := if p.set.batch.toNat < 1 ∨ 64 < p.set.batch.toNat then 5
           else if ∃ h ∈ [p.set.key0, p.set.key1], h ≠ 0 ∧ s.keyOf (ctxOf own) h = none then 2
           else if ∃ k ∈ keys, isAes k.typ.toNat = false then 4
           else if ∃ k ∈ keys, bit k.policy 7 = false ∨ bit k.policy 1 = false then 3
           else if bit p.set.ctr 12 = true ∧ s.regionCtr own (p.set.ctr.toNat % 2 ^ 12) = none then 1
           else if ¬ tally then 6 else if x.staged ≠ none then 7 else 0
         (code ≠ 0 → exec (.frmApply c) s = .next (say code)) ∧
         (code = 0 → exec (.frmApply c) s = .next { (say 0) with
           frame := { (say 0).frame with regions := tset s.frame.regions r { x with staged := some p.set } } })))))

/-- EN is accepted only when R512 holds (else SPAN_EVT.CFG): the member is SEEKING with its ID and configuration hash, and sends HELLO on every UP span lane; EN = 0 makes it OFF and ends its waiting INCs with NO_QUORUM. HELLO, HELLO_ACK, their time-out and retry authenticate links as R516 and R536 state: a peer is LINKED, OBSERVER, EXCLUDED, LOST or AUTH_FAIL. Every other message is discarded when its link is not authenticated, its TTL is 0 or its number is known; else it is noted and forwarded with TTL - 1, and has an effect only for this member and in its EPOCH (REPORT_REQ, REPORT and EPOCH_NEW in any). ALIVE goes out every 1 ms, a silent peer is LOST. A measurement sends STAMP; TIME_RSP gives the offset, by which the member is frame-locked after 8 in range, leaves after 2 out of range, corrects or steps TIME; HOLDOVER is set and expires. SCHEDULE of the leader is kept and a SYNCING member adopts FRAME_NO once. Which way an offset that is not whole is rounded is free, log entry 52. -/
def Obligations.SpanMembers : Prop := ∀ s : State,
  let part (u : State) : Prop := u.span.state = .syncing ∨ u.span.state = .active ∨ u.span.state = .observer
  let peer (t : State) (m : Nat) : Peer := tget t.span.peers m {}
  let link (t : State) (l : Nat) : SpanLink := tget t.span.links l {}
  let told (t : State) (b : Nat) : Prop := bit t.span.evt b = true ∧ bit t.ks.pend 11 = true
  let num (o n : Nat) : Nat := leNat (s.spanCfg o n)
  (s.ksWriter = false → exec .spanEnable s = .next s ∧ exec .spanDisable s = .next s) ∧
  (s.ksWriter = true →
    (s.span.en = true → exec .spanEnable s = .next s) ∧
    (s.span.en = false →
      let dev (m : Nat) : Nat := num (0x20 + 8 * m) 8
      let slot (i : Nat) : Nat := num (0x220 + 2 * i) 2
      let lo (n : Nat) : Nat := num (0x420 + 4 * n) 4 % 512
      let cnt (n : Nat) : Nat := num (0x420 + 4 * n) 4 / 512 % 512
      let ok : Prop := 1 ≤ num 8 1 ∧ num 8 1 ≤ 64 ∧ (∀ i j, i < num 8 1 → j < num 8 1 → dev i = dev j → i = j) ∧
        (∀ i, i < num 8 1 → dev i ≠ 0) ∧ (∃ i, i < num 8 1 ∧ dev i = Config.deviceId.toNat) ∧
        416666 ≤ num 0xC 4 ∧ num 0xC 4 ≤ 4166667 ∧ 1 ≤ num 9 1 ∧ num 9 1 ≤ 15 ∧
        (∀ i, i < 256 → slot i ≠ 0 → 64 ≤ slot i ∧ slot i ≤ 8191) ∧
        (∀ i j, i < 256 → j < 256 → slot i = slot j → slot i ≠ 0 → i = j) ∧
        (∀ n, n < 1024 → cnt n ≠ 0 → 1 ≤ lo n ∧ lo n + cnt n ≤ 512) ∧
        (∀ n n', n < 1024 → n' < 1024 → n ≠ n' → cnt n ≠ 0 → cnt n' ≠ 0 → lo n + cnt n ≤ lo n' ∨ lo n' + cnt n' ≤ lo n) ∧
        ∃ k, s.keyOf .keystone s.span.root = some k ∧ k.typ.toNat = 2 ∧ bit k.policy 4 = true ∧ bit k.policy 7 = false ∧
          (kdf k.key "CHCK" (s.spanCfg 0 8 ++ zeros 8)).take 16 = s.spanCfg 0x10 16
      (¬ ok → exec .spanEnable s = .next { s with span := { s.span with evt := s.span.evt ||| 0x20 }, ks := { s.ks with pend := s.ks.pend ||| 2048 } }) ∧
      (ok → ∃ t, exec .spanEnable s = .next t ∧
        t = { s with rng := t.rng, ks := { s.ks with pend := t.ks.pend }, lanes := t.lanes, span := t.span, draw := t.draw } ∧
        t.span.en = true ∧ t.span.state = .seeking ∧ t.span.hash = sha384 (s.spanCfg 0 5152) ∧ dev t.span.member.toNat = Config.deviceId.toNat ∧
        (s.span.state ≠ .seeking → told t 0) ∧
        ∀ l, l < 12 → (tget s.lanes l {}).role = 3 → (tget s.lanes l {}).state = .up → (link t l).nonce.length = 16 ∧
          t.tells t l 1 0xFF (leBytes 8 Config.deviceId.toNat ++ (link t l).nonce ++ [1, byte (num 9 1), 0, 0] ++ t.span.hash))) ∧
    (s.span.en = false → exec .spanDisable s = .next s) ∧
    (s.span.en = true → ∃ t, exec .spanDisable s = .next t ∧ t = { s with span := t.span, ks := t.ks, casks := t.casks } ∧
      t.span.en = false ∧ t.span.state = .off ∧ t.span.links = [] ∧ t.span.peers = [] ∧ t.span.locked = false ∧ t.span.waiting = [] ∧
      t.span.config = s.span.config ∧ t.span.root = s.span.root ∧ (s.span.state ≠ .off → told t 0) ∧
      ∀ w ∈ s.span.waiting, (t.regs (ctxOf w.2)).ctr.st = 6 ∧ (t.regs (ctxOf w.2)).ctr.op = none)) ∧
  (∀ (l : Lane) (seq : BitVec 12) (m : SpanMsg),
    let x := tget s.lanes l.val {}
    let only (i : Instr) : Prop := ∃ t, exec i s = .next t ∧ t = { s with lanes := t.lanes, out := t.out }
    let all : List (Instr × Byte) := [(.hello l seq m, 0x01), (.helloAck l seq m, 0x02), (.alive l seq m, 0x10), (.schedule l seq m, 0x11),
      (.timeRsp l seq m, 0x12), (.reportReq l seq m, 0x20), (.report l seq m, 0x21), (.epochNew l seq m, 0x22), (.incReq l seq m, 0x30),
      (.propose l seq m, 0x31), (.vote l seq m, 0x32), (.commit l seq m, 0x33), (.done l seq m, 0x34), (.incRsp l seq m, 0x35),
      (.keys l seq m, 0x40), (.keyDel l seq m, 0x41)]
    (∀ i ∈ all,
      (x.state ≠ .up → exec i.1 s = .next s) ∧
      (x.state = .up → x.v = 0 ∨ 1024 < 12 + m.body.length + m.mac.length →
        exec i.1 s = .next { s with lanes := tset s.lanes l.val { x with cntCrc := satAdd1 x.cntCrc } }) ∧
      (x.state = .up → 0 < x.v → seq = (x.vcAt 0).exp → 12 + m.body.length + m.mac.length ≤ 1024 →
        (x.role ≠ 3 ∨ s.span.state = .off → ∃ t, exec i.1 s = .next t ∧ t = { s with lanes := t.lanes, out := t.out } ∧
          (tget t.lanes l.val {}).cntDrop = satAdd1 x.cntDrop) ∧
        (x.role = 3 → s.span.state ≠ .off → (∀ k, s.spanMsgKey = some k → m.mac ≠ (cmac k (spanHead i.2 m)).take 8) → only i.1)) ∧
      (s.spanArrives l seq i.2 m → i.2 ≠ 1 → i.2 ≠ 2 →
        (¬ s.spanNew l m → only i.1) ∧
        (s.spanNew l m →
          let v := s.heardFrom l m
          let on := { m with ttl := m.ttl - 1 }
          let goes (t : State) (k : Nat) : Prop := ∃ q ∈ ((tget t.lanes k {}).vcAt 0).queue ++ ((tget t.lanes k {}).vcAt 0).replay, ∃ key,
            s.spanMsgKey = some key ∧ q.typ = .span ∧ q.body = spanHead i.2 on ++ (cmac key (spanHead i.2 on)).take 8
          ∃ t, exec i.1 s = .next t ∧ (m.src.toNat, m.epoch, m.mseq) ∈ t.span.seen ∧
            (m.dst = 0xFF → ∀ k ∈ s.spanLanes, k ≠ l.val → goes t k) ∧
            (¬ s.spanMine m → ∀ k, v.laneTowards m.dst.toNat = some k → goes t k) ∧
            (¬ s.spanMine m ∨ i.2 ∉ [(0x20 : Byte), 0x21, 0x22] ∧ m.epoch ≠ s.epochNow → t = { v with lanes := t.lanes, out := t.out })))) ∧
    (s.spanArrives l seq 1 m →
      let z := link s l.val
      let dev := leNat (m.body.take 8)
      let who (w : Nat) : Prop := w < num 8 1 ∧ num (0x20 + 8 * w) 8 = dev ∧ ∀ j, j < w → num (0x20 + 8 * j) 8 ≠ dev
      let max' := (m.body.getD 24 0).toNat
      let min' := (m.body.getD 25 0).toNat
      (m.body.length ≠ 76 → only (.hello l seq m)) ∧
      (m.body.length = 76 →
        ((∀ w, ¬ who w) →
          let p := (peer s m.src.toNat).state
          let new : Prop := m.src.toNat < 64 ∧ (p = .absent ∨ p = .lost ∨ p = .authFail)
          (¬ new → only (.hello l seq m)) ∧
          (new → ∃ t, exec (.hello l seq m) s = .next t ∧ (peer t m.src.toNat).state = .excluded ∧ told t 3)) ∧
        (∀ w, who w →
          (max' < num 9 1 → ∃ t, exec (.hello l seq m) s = .next t ∧ (peer t w).state = .excluded ∧ told t 3 ∧ t.span.links = s.span.links) ∧
          (num 9 1 ≤ max' → 1 < min' → ∃ t, exec (.hello l seq m) s = .next t ∧ t.span.state = .excluded ∧ t.span.links = s.span.links) ∧
          (num 9 1 ≤ max' → min' ≤ 1 → ∃ t, exec (.hello l seq m) s = .next t ∧ (peer t w).level = BitVec.ofNat 4 max' ∧
            (peer t w).hash = m.body.drop 28 ∧ (link t l.val).hello = true ∧ (link t l.val).peer = w ∧
            s.tells t l.val 2 w (slice m.body 8 16) ∧
            (z.hello = true → z.ack = true → (peer t w).state = .lost ∧ told t 3 ∧ (link t l.val).ack = false ∧ (link t l.val).nonce.length = 16) ∧
            (z.hello = false → z.ack = true → told t 3 ∧
              (s.span.hash = m.body.drop 28 → (peer t w).state = (if (peer s w).state = .active then .active else .linked) ∧
                (s.span.state = .seeking → t.span.state = .syncing)) ∧
              (s.span.hash ≠ m.body.drop 28 → (peer t w).state = .observer ∧ (s.span.state = .seeking → t.span.state = .observer))) ∧
            (z.ack = false → (peer t w).state = (peer s w).state ∧ (link t l.val).nonce = z.nonce ∧ t.span.state = s.span.state))))) ∧
    (s.spanArrives l seq 2 m →
      let z := link s l.val
      let same : Prop := (peer s z.peer).hash = s.span.hash
      (z.nonce = [] ∨ m.body ≠ z.nonce → only (.helloAck l seq m)) ∧
      (z.nonce ≠ [] → m.body = z.nonce → ∃ t, exec (.helloAck l seq m) s = .next t ∧ link t l.val = { z with ack := true } ∧
        t = { s with ks := { s.ks with pend := t.ks.pend }, span := t.span, lanes := t.lanes, out := t.out } ∧
        (z.hello = true → told t 3 ∧ (same → (peer t z.peer).state = (if (peer s z.peer).state = .active then .active else .linked)) ∧
          (¬ same → (peer t z.peer).state = .observer) ∧
          (s.span.state = .seeking → (same → t.span.state = .syncing) ∧ (¬ same → t.span.state = .observer))))) ∧
    (let open' : Prop := s.span.state ≠ .off ∧ x.role = 3 ∧ x.state = .up ∧ l.val ∉ s.spanLanes
     (¬ open' → exec (.helloTimeout l) s = .next s ∧ exec (.helloRetryTimer l) s = .next s) ∧
     (open' →
       (s.farMember l.val = none → exec (.helloTimeout l) s = .next s) ∧
       (∀ w, s.farMember l.val = some w → exec (.helloTimeout l) s = .next { s with
         span := { s.span with peers := tset s.span.peers w { (peer s w) with state := .authFail, lane := BitVec.ofNat 4 l.val }, evt := s.span.evt ||| 8 }
         ks := { s.ks with pend := s.ks.pend ||| 2048 } }) ∧
       ∃ (t : State) (n : Bytes), exec (.helloRetryTimer l) s = .next t ∧ n.length = 16 ∧
         t.span = { s.span with mseq := s.span.mseq + 1, links := tset s.span.links l.val { (link s l.val) with nonce := n, ack := false } } ∧
         t = { s with rng := t.rng, lanes := t.lanes, span := t.span, draw := t.draw } ∧
         (s.spanMsgKey ≠ none → s.tells t l.val 1 0xFF (leBytes 8 Config.deviceId.toNat ++ n ++ [1, byte (num 9 1), 0, 0] ++ s.span.hash)))) ∧
    (let v := s.heardFrom l m
     (s.spanArrives l seq 0x10 m → s.spanNew l m → ∃ t, exec (.alive l seq m) s = .next t ∧ t = { v with lanes := t.lanes, out := t.out }) ∧
     (s.spanArrives l seq 0x12 m → s.spanNew l m → s.spanMine m → m.epoch = s.epochNow →
       let mine (t4 : Time) : Prop := s.span.t4 = some t4 ∧ part s ∧ m.body.length = 20 ∧ leNat (m.body.take 2) = s.span.stampK.toNat ∧
         v.parentLane = some l.val
       ((∀ t4, ¬ mine t4) → ∃ t, exec (.timeRsp l seq m) s = .next t ∧ t = { v with lanes := t.lanes, out := t.out }) ∧
       (∀ t4, mine t4 →
         let sum : Int := (leNat (slice m.body 4 8) : Int) - s.span.t1.toNat + ((leNat (slice m.body 12 8) : Int) - t4.toNat)
         let rounded (x n q : Int) : Prop := n * q < x + n ∧ x < n * q + n
         ∃ (t : State) (d mean : Int),
           let near' : Prop := -100 ≤ d ∧ d ≤ 100
           let ths := d :: s.span.thetas.take 15
           exec (.timeRsp l seq m) s = .next t ∧ rounded sum 2 d ∧ rounded (ths.sum * 10) ths.length mean ∧
           t.span.thetas = ths ∧ t.span.holdover = false ∧ t.span.offset = BitVec.ofInt 32 mean ∧
           t = { s with clk := { s.clk with time := t.clk.time }, ks := { s.ks with pend := t.ks.pend }, span := t.span, lanes := t.lanes, draw := t.draw, out := t.out } ∧
           (near' → t.clk.time = s.clk.time ∧ t.span.inRange = s.span.inRange + 1 ∧ t.span.outRange = 0 ∧
             (s.span.locked = true → t.span.locked = true ∧ t.span.correction = d) ∧
             (s.span.locked = false → t.span.locked = decide (8 ≤ s.span.inRange + 1))) ∧
           (¬ near' → s.span.locked = false → t.clk.time = BitVec.ofInt 64 ((s.clk.time.toNat : Int) + d) ∧
             t.span.steps = satAdd1 s.span.steps ∧ t.span.inRange = 0 ∧ t.span.locked = false) ∧
           (¬ near' → s.span.locked = true → s.span.outRange = 0 → t.span.locked = true ∧ t.span.outRange = 1 ∧ t.span.inRange = 0) ∧
           (¬ near' → s.span.locked = true → 1 ≤ s.span.outRange → t.span.locked = false ∧ told t 2 ∧
             (s.span.state ≠ .observer → t.span.state = .syncing)))) ∧
     (s.spanArrives l seq 0x11 m → s.spanNew l m → s.spanMine m → m.epoch = s.epochNow →
       let no := leNat (m.body.take 8)
       let b := leNat (slice m.body 8 8)
       let p := peer v m.src.toNat
       let u : State := { v with span := { v.span with peers := tset v.span.peers m.src.toNat { p with state := if p.state = .linked then .active else p.state } } }
       (m.body.length ≠ 20 ∨ ¬ part s → ∃ t, exec (.schedule l seq m) s = .next t ∧ t = { v with lanes := t.lanes, out := t.out }) ∧
       (m.body.length = 20 → part s →
         (u.spanLeader ≠ some m.src.toNat → ∃ t, exec (.schedule l seq m) s = .next t ∧ t = { u with lanes := t.lanes, out := t.out }) ∧
         (u.spanLeader = some m.src.toNat → ∃ t, exec (.schedule l seq m) s = .next t ∧
           (BitVec.ofNat 64 no, BitVec.ofNat 64 b) ∈ t.span.schedule ∧
           t = { s with mem := t.mem, ks := t.ks, casks := t.casks, lanes := t.lanes, tile := t.tile, frame := t.frame, span := t.span, draw := t.draw, out := t.out } ∧
           (s.span.gotSchedule = true ∨ s.span.state = .active → t.frame = s.frame ∧ t.tile = s.tile) ∧
           (s.span.gotSchedule = false → s.span.state ≠ .active → t.span.gotSchedule = true ∧
             t.frame = { s.frame with frameNo := BitVec.ofNat 64 (no - 2), last := BitVec.ofNat 64 (b - 2 * num 0xC 4), deadline := false } ∧
             (s.frame.frameNo.toNat < no - 2 → t.tile = s.tile) ∧
             (no - 2 ≤ s.frame.frameNo.toNat → ∀ k, k < 768 → (tget s.tile.tiles k {}).state ≠ .absent → (tget s.tile.tiles k {}).state ≠ .gone → (tget t.tile.tiles k {}).state = .gone))))))) ∧
  (s.alive = true → part s → ∃ t, exec .aliveTimer s = .next t ∧
    t = { s with lanes := t.lanes, span := { s.span with mseq := s.span.mseq + 1 } } ∧
    (s.spanMsgKey ≠ none → ∀ k ∈ s.spanLanes, s.tells t k 0x10 0xFF [])) ∧
  (s.alive = false ∨ ¬ part s → exec .aliveTimer s = .next s) ∧
  (∀ w : Fin 64,
    let p := peer s w.val
    let heard : Prop := part s ∧ (p.state = .linked ∨ p.state = .active ∨ p.state = .observer)
    (¬ heard → exec (.peerLostTimeout w) s = .next s) ∧
    (heard → ∃ t, exec (.peerLostTimeout w) s = .next t ∧ (peer t w.val).state = .lost ∧ told t 3 ∧
      (∀ e ∈ t.span.via, e.1 ≠ w.val) ∧
      (p.state ≠ .active → t = { s with span := t.span, ks := { s.ks with pend := t.ks.pend } }))) ∧
  (∀ now : Time,
    let u := s.atTime now
    (s.alive = false ∨ ¬ part s ∨ (∀ l, l < 12 → s.parentLane ≠ some l) → exec (.stampMeasureTimer now) s = .next u) ∧
    (∀ l : Lane, s.alive = true → part s → s.parentLane = some l.val → exec (.stampMeasureTimer now) s = .next { u with
      span := { u.span with stampK := u.span.stampK + 1, t1 := u.clk.time, t4 := none }
      lanes := tset u.lanes l.val { (tget u.lanes l.val {}) with stampTx := u.clk.time, stampTxId := u.span.stampK + 1 }
      out := .ctrl l 0x04 0 0 (u.span.stampK + 1) :: u.out })) ∧
  (part s → s.leads = false → exec .timeRspTimeout s = .next { s with span := { s.span with holdover := true } }) ∧
  (¬ part s ∨ s.leads = true → exec .timeRspTimeout s = .next s) ∧
  (s.span.holdover = false → exec .holdoverExpiry s = .next s) ∧
  (s.span.holdover = true →
    (s.leads = true → exec .holdoverExpiry s = .next { s with span := { s.span with holdover := false, locked := true } }) ∧
    (s.leads = false → s.span.locked = false → exec .holdoverExpiry s = .next { s with span := { s.span with holdover := false } }) ∧
    (s.leads = false → s.span.locked = true → ∃ t, exec .holdoverExpiry s = .next t ∧ t.span.locked = false ∧ t.span.holdover = false ∧
      told t 2 ∧ (s.span.state = .active ∨ s.span.state = .syncing → t.span.state = .syncing)))

/-- A message taken, for this member and in its epoch where that is asked, acts as R529-R535 state: an ACTIVE member answers REPORT_REQ with five REPORTs (the leader sends a joining member the keys first); a REPORT counts for the epoch being formed or raises a SYNCING member's records; EPOCH_NEW not below the own epoch raises records, names the members and ends waiting INCs with NO_QUORUM; a record above the adopted value has DIVERGED. The leader queues an INC_REQ and proposes it; an ACTIVE member votes once for a counter and value its record equals; Q votes make the COMMIT, which an ACTIVE member programs only with Q ACTIVE members named; Q DONEs complete the increment with INC_RSP, at the requester with CTR.ST OK; an INC that times out ends with NO_QUORUM. KEYS installs an unwrapped key in a listed slot, KEY_DEL destroys it; PUSH refuses with BAD_HANDLE, NOT_LISTED, NO_QUORUM or BUSY, or installs the key under a fresh INCARN and sends it to every other ACTIVE member. Anything else leaves only what every message leaves. -/
def Obligations.SpanQuorum : Prop := ∀ s : State,
  let told (t : State) (b : Nat) : Prop := bit t.span.evt b = true ∧ bit t.ks.pend 11 = true
  (∀ (l : Lane) (seq : BitVec 12) (m : SpanMsg), s.spanNew l m →
    let v := s.heardFrom l m
    let src := m.src.toNat
    let b := m.body
    let num (o n : Nat) : Nat := leNat (slice b o n)
    let only (i : Instr) : Prop := ∃ t, exec i s = .next t ∧ t = { v with lanes := t.lanes, out := t.out }
    let comes (mtype : Byte) : Prop := s.spanArrives l seq mtype m ∧ s.spanMine m ∧ m.epoch = s.epochNow
    let casts (t : State) (mtype : Byte) (body : Bytes) : Prop := ∀ k ∈ s.spanLanes, s.tells t k mtype 0xFF body
    let sends (t : State) (mtype : Byte) (body : Bytes) : Prop := ∀ k, v.laneTowards src = some k → s.tells t k mtype src body
    let act : Prop := s.span.state = .active
    (s.spanArrives l seq 0x20 m → s.spanMine m →
      (¬ act → only (.reportReq l seq m)) ∧
      (act → ∃ t, exec (.reportReq l seq m) s = .next t ∧ t = { v with span := t.span, lanes := t.lanes, out := t.out } ∧
        (∀ f ∈ [0, 120, 240, 360, 480], sends t 0x21 (leBytes 2 f ++ [0, 0] ++
          (List.range (min 120 (512 - f))).flatMap fun i => leBytes 8 (if f + i ∈ s.span.divergedCtrs then 0 else s.ctrNat (4096 + f + i)))) ∧
        (v.leads = true → (v.peer src).state ≠ .active → (t.peer src).served = true ∧
          ∀ (i : Nat) (k : VSlot), i ∈ s.keyset → s.vault.slots.find? (fun e => e.1 == i) = some (i, k) →
            sends t 0x40 (leBytes 2 i ++ leBytes 2 k.owner.toNat ++ [byte (k.typ.toNat + (if k.volatile = true then 128 else 0)), k.policy] ++
              leBytes 2 k.incarn.toNat ++ kwWrap (s.pairKey src) (slice k.key 0 48))))) ∧
    (s.spanArrives l seq 0x21 m → s.spanMine m →
      let vs := carried b 0
      (∀ x, s.span.forming = some x →
        (¬ act ∨ src ∉ x.members → only (.report l seq m)) ∧
        (act → src ∈ x.members →
          let proven : Prop := src ∈ s.span.activeSet ∨ ∀ i ∈ x.members, i ∉ s.span.activeSet
          let y : Forming := { x with
            counts := tset x.counts src (tget x.counts src 0 + 1)
            reports := if proven then vs.foldl (fun t e => maxReport t e.1 e.2) x.reports else x.reports }
          let short : Prop := ∃ i ∈ x.members, i ≠ s.ownId ∧ tget y.counts i 0 < 5
          (short → ∃ t, exec (.report l seq m) s = .next t ∧
            t = { v with span := { v.span with forming := some y }, lanes := t.lanes, out := t.out }) ∧
          (¬ short → 2 ≤ s.spanQ → ∃ (t : State) (p : Proposal), exec (.report l seq m) s = .next t ∧
            t = { v with ctrs := t.ctrs, span := t.span, lanes := t.lanes, out := t.out } ∧
            t.ctrs = (y.reports.foldl (fun u e => u.spanRaise e.1 e.2.toNat) v).ctrs ∧
            t.span.proposal = some p ∧ p.counter = 0 ∧ p.epoch = true ∧ p.old = BitVec.ofNat 64 (t.ctrNat 4096) ∧ p.new = p.old + 1 ∧
            p.committed = false ∧ p.requester = s.ownId))) ∧
      (s.span.forming = none →
        (s.span.state ≠ .syncing → only (.report l seq m)) ∧
        (s.span.state = .syncing →
          let u := v.modPeer src fun p => { p with state := if p.state = .linked then .active else p.state }
          let w := vs.foldl (fun u e => u.spanRaise e.1 e.2) u
          ∃ t, exec (.report l seq m) s = .next t ∧ t.ctrs = w.ctrs ∧ t.span.peers = u.span.peers ∧
            t = { s with ctrs := t.ctrs, span := t.span, lanes := t.lanes, out := t.out } ∧
            t.span.gotReports = s.span.gotReports + (if w.spanLeader = some src then 1 else 0)))) ∧
    (s.spanArrives l seq 0x22 m → s.spanMine m →
      let ms := ofBitmap (num 4 8)
      let takes : Prop := 16 ≤ b.length ∧ s.epochNow.toNat ≤ num 0 4 ∧ (act ∨ s.span.state = .syncing)
      (¬ takes → only (.epochNew l seq m)) ∧
      (takes → ∃ t, exec (.epochNew l seq m) s = .next t ∧ t.ctrs = ((carried b 12).foldl (fun u e => u.adopt e.1 e.2) v).ctrs ∧
        t = { s with ctrs := t.ctrs, ks := t.ks, casks := t.casks, span := t.span, lanes := t.lanes, out := t.out } ∧
        (∀ e ∈ carried b 12, e.2 < s.ctrNat (4096 + e.1) → e.1 ∉ s.span.divergedCtrs → t.span.diverged = true ∧ told t 4) ∧
        (s.span.activeSet ≠ ms ∨ num 12 2 = 0 → t.span.activeSet = ms ∧ t.span.proposal = none ∧ t.span.forming = none ∧
          t.span.incQueue = [] ∧ t.span.waiting = [] ∧ told t 1 ∧ (∀ w ∈ s.span.waiting, (t.regs (ctxOf w.2)).ctr.st = 6) ∧
          (∀ i, i < 64 → i ≠ s.ownId → (i ∈ ms → (t.peer i).state = .active) ∧ (i ∉ ms → (t.peer i).state ≠ .active))))) ∧
    (comes 0x30 →
      let i := num 0 2
      let n := num 2 2
      let takes : Prop := act ∧ v.leads = true ∧ b.length = 8 ∧ 1 ≤ i ∧ i < 512 ∧ 1 ≤ n ∧ n ≤ 64
      let busy : Prop := s.span.proposal ≠ none ∨ s.span.forming ≠ none
      let r : Nat × Word × Nat × Nat := (src, wordAt b 4, i, n)
      let old := s.ctrNat (4096 + i)
      (¬ takes → only (.incReq l seq m)) ∧
      (takes → busy → ∃ t, exec (.incReq l seq m) s = .next t ∧
        t = { v with span := { v.span with incQueue := s.span.incQueue ++ [r] }, lanes := t.lanes, out := t.out }) ∧
      (takes → ¬ busy → s.span.incQueue = [] → 2 ≤ s.spanQ → ∃ t, exec (.incReq l seq m) s = .next t ∧
        t = { v with span := t.span, lanes := t.lanes, out := t.out } ∧ t.span.incQueue = [] ∧
        t.span.proposal = some { counter := i, old := BitVec.ofNat 64 old, new := BitVec.ofNat 64 (old + n), requester := src, request := wordAt b 4
                                 votes := if (i, BitVec.ofNat 64 old) ∈ s.span.votes then [] else [s.ownId] } ∧
        (i, BitVec.ofNat 64 old) ∈ t.span.votes ∧
        casts t 0x31 (leBytes 2 i ++ [0, 0] ++ leBytes 8 (BitVec.ofNat 64 old).toNat ++ leBytes 8 (BitVec.ofNat 64 (old + n)).toNat))) ∧
    (comes 0x31 →
      let i := num 0 2
      let w := num 4 8
      let takes : Prop := act ∧ b.length = 20 ∧ i < 512 ∧ s.ctrNat (4096 + i) = w ∧ (i, BitVec.ofNat 64 w) ∉ s.span.votes
      (¬ takes → only (.propose l seq m)) ∧
      (takes → ∃ t, exec (.propose l seq m) s = .next t ∧ t = { v with span := t.span, lanes := t.lanes, out := t.out } ∧
        t.span.votes = s.span.votes ++ [(i, BitVec.ofNat 64 w)] ∧ sends t 0x32 (leBytes 2 i ++ [0, 0] ++ leBytes 8 w))) ∧
    (comes 0x32 →
      let votes (p : Proposal) : Prop := b.length = 12 ∧ num 0 2 = p.counter ∧ num 4 8 = p.old.toNat ∧ p.committed = false ∧ src ∈ v.spanActive ∧
        src ∉ p.votes
      ((∀ p, s.span.proposal = some p → ¬ votes p) → only (.vote l seq m)) ∧
      (∀ p, s.span.proposal = some p → votes p →
        let q : Proposal := { p with votes := p.votes ++ [src] }
        (q.votes.length < s.spanQ → ∃ t, exec (.vote l seq m) s = .next t ∧
          t = { v with span := { v.span with proposal := some q }, lanes := t.lanes, out := t.out }) ∧
        (s.spanQ ≤ q.votes.length → 2 ≤ s.spanQ → ∃ t, exec (.vote l seq m) s = .next t ∧
          t = { v with ctrs := t.ctrs, span := t.span, lanes := t.lanes, out := t.out } ∧
          t.span.proposal = some { q with committed := true, dones := [s.ownId] } ∧ t.ctrs = (v.spanRaise p.counter p.new.toNat).ctrs ∧
          casts t 0x33 (leBytes 4 s.epochNow.toNat ++ leBytes 2 p.counter ++ [0, 0] ++ leBytes 8 p.new.toNat ++
            leBytes 8 (q.votes.map fun i => 2 ^ i).sum)))) ∧
    (comes 0x33 →
      let i := num 4 2
      let w := num 8 8
      let takes : Prop := act ∧ b.length = 24 ∧ num 0 4 = s.epochNow.toNat ∧ i < 512 ∧
        s.spanQ ≤ ((ofBitmap (num 16 8)).filter fun k => k ∈ v.spanActive).length
      (¬ takes → only (.commit l seq m)) ∧
      (takes → ∃ t, exec (.commit l seq m) s = .next t ∧ t = { v with ctrs := t.ctrs, span := t.span, lanes := t.lanes, out := t.out } ∧
        t.ctrs = (v.spanRaise i w).ctrs ∧ (i ≠ 0 → sends t 0x34 (leBytes 2 i ++ [0, 0] ++ leBytes 8 w)))) ∧
    (comes 0x34 →
      let done (p : Proposal) : Prop := b.length = 12 ∧ num 0 2 = p.counter ∧ num 4 8 = p.new.toNat ∧ p.committed = true ∧ src ∈ v.spanActive ∧
        src ∉ p.dones
      ((∀ p, s.span.proposal = some p → ¬ done p) → only (.done l seq m)) ∧
      (∀ p, s.span.proposal = some p → done p →
        let q : Proposal := { p with dones := p.dones ++ [src] }
        (q.dones.length < s.spanQ → ∃ t, exec (.done l seq m) s = .next t ∧
          t = { v with span := { v.span with proposal := some q }, lanes := t.lanes, out := t.out }) ∧
        (s.spanQ ≤ q.dones.length → s.span.incQueue = [] → ∃ t, exec (.done l seq m) s = .next t ∧ t.span.proposal = none ∧
          t = { v with ks := t.ks, casks := t.casks, span := t.span, lanes := t.lanes, out := t.out } ∧
          (∀ k, p.epoch = false → p.requester ≠ s.ownId → v.laneTowards p.requester = some k →
            s.tells t k 0x35 p.requester (leBytes 4 p.request.toNat ++ zeros 4 ++ leBytes 8 p.new.toNat)) ∧
          (∀ w, p.epoch = false → p.requester = s.ownId → s.span.waiting.find? (fun w => w.1 == p.request) = some w →
            (t.regs (ctxOf w.2)).ctr.st = 0 ∧ (t.regs (ctxOf w.2)).ctr.op = none ∧
            (t.regs (ctxOf w.2)).ctr.lo.toNat + (t.regs (ctxOf w.2)).ctr.hi.toNat * 2 ^ 32 = p.new.toNat) ∧
          (∀ x, p.epoch = true → s.span.forming = some x → t.span.activeSet = x.members ∧ t.span.forming = none ∧ told t 1 ∧
            t.span.waiting = [])))) ∧
    (comes 0x35 →
      let w := s.span.waiting.find? fun w => w.1 == wordAt b 0
      (w = none ∨ b.length ≠ 16 → only (.incRsp l seq m)) ∧
      (∀ x, w = some x → b.length = 16 → ∃ t, exec (.incRsp l seq m) s = .next t ∧
        t = { v with ks := t.ks, casks := t.casks, span := { v.span with waiting := s.span.waiting.filter (· ≠ x) }, lanes := t.lanes, out := t.out } ∧
        (t.regs (ctxOf x.2)).ctr.st = 0 ∧ (t.regs (ctxOf x.2)).ctr.op = none ∧
        (t.regs (ctxOf x.2)).ctr.lo.toNat + (t.regs (ctxOf x.2)).ctr.hi.toNat * 2 ^ 32 = num 8 8)) ∧
    (comes 0x40 →
      let slot := num 0 2
      let typ : BitVec 7 := BitVec.ofNat 7 (b.getD 4 0).toNat
      let takes : Prop := (act ∨ s.span.state = .syncing) ∧ b.length = 64 ∧ slot ∈ s.keyset
      (¬ takes ∨ kwUnwrap (s.pairKey src) (b.drop 8) = none ∨ materialLen typ.toNat = none → only (.keys l seq m)) ∧
      (∀ key n, takes → kwUnwrap (s.pairKey src) (b.drop 8) = some key → materialLen typ.toNat = some n → ∃ t,
        exec (.keys l seq m) s = .next t ∧
        t = { v with mem := t.mem, vault := t.vault, press := t.press, lanes := t.lanes, frame := t.frame, stale := t.stale, draw := t.draw, out := t.out } ∧
        t.vault.slots.find? (fun e => e.1 == slot) = some (slot,
          { owner := BitVec.ofNat 11 (num 2 2), typ := typ, volatile := bit (b.getD 4 0) 7, policy := b.getD 5 0, incarn := BitVec.ofNat 16 (num 6 2)
            key := key.take n }) ∧
        ∀ i, i ≠ slot → t.vault.slots.find? (fun e => e.1 == i) = s.vault.slots.find? (fun e => e.1 == i))) ∧
    (comes 0x41 →
      let slot := num 0 2
      let takes : Prop := (act ∨ s.span.state = .syncing) ∧ slot ∈ s.keyset ∧ ∃ e ∈ s.vault.slots, e.1 = slot
      (¬ takes → only (.keyDel l seq m)) ∧
      (takes → ∃ t, exec (.keyDel l seq m) s = .next t ∧ t.vault = { s.vault with slots := tdel s.vault.slots slot } ∧
        t = { v with mem := t.mem, vault := t.vault, press := t.press, lanes := t.lanes, frame := t.frame, stale := t.stale, draw := t.draw, out := t.out }))) ∧
  (∀ c : Ctx,
    let w := s.span.waiting.find? fun w => w.2 == ctxNum c
    (w = none → exec (.spanIncTimeout c) s = .next s) ∧
    (∀ x, w = some x → 2 ≤ s.spanQ → ∃ t, exec (.spanIncTimeout c) s = .next t ∧ (t.regs c).ctr.st = 6 ∧ (t.regs c).ctr.op = none ∧
      t.span.waiting = s.span.waiting.filter (· ≠ x) ∧ t = { s with ks := t.ks, casks := t.casks, span := t.span, lanes := t.lanes })) ∧
  (s.ksWriter = false → exec .spanCmdPush s = .next s) ∧
  (s.ksWriter = true →
    let src := s.vault.slots.find? fun e => e.1 == s.span.arg0.toNat % 2 ^ 13 && e.2.incarn == BitVec.ofNat 16 (s.span.arg0.toNat / 2 ^ 16)
    let slot := s.span.arg1.toNat
    let tells (r : BitVec 4) : State := { s with span := { s.span with cmd := 1, result := r } }
    (src = none → exec .spanCmdPush s = .next (tells 1)) ∧
    (∀ e, src = some e →
      (slot ∉ s.keyset → exec .spanCmdPush s = .next (tells 2)) ∧
      (slot ∈ s.keyset → s.spanQuorum = false → exec .spanCmdPush s = .next (tells 3)) ∧
      (slot ∈ s.keyset → s.spanQuorum = true → s.span.push ≠ none → exec .spanCmdPush s = .next (tells 4)) ∧
      (slot ∈ s.keyset → s.spanQuorum = true → s.span.push = none → ∃ (t : State) (n : BitVec 16), exec .spanCmdPush s = .next t ∧ n ≠ 0 ∧
        t.span.push = some slot ∧
        t = { s with mem := t.mem, vault := t.vault, rng := t.rng, press := t.press, lanes := t.lanes, frame := t.frame, span := t.span, stale := t.stale, draw := t.draw } ∧
        t.vault.slots.find? (fun e => e.1 == slot) = some (slot, { e.2 with incarn := n }) ∧
        ∀ i k, i ∈ s.spanActive → i ≠ s.ownId → s.laneTowards i = some k → s.spanMsgKey ≠ none → t.spanRootKey = s.spanRootKey →
          s.tells t k 0x40 i (leBytes 2 slot ++ leBytes 2 e.2.owner.toNat ++ [byte (e.2.typ.toNat + (if e.2.volatile = true then 128 else 0)), e.2.policy] ++
            leBytes 2 n.toNat ++ kwWrap (s.pairKey i) (slice e.2.key 0 48))))) ∧
  (s.span.push = none → exec .spanPushDone s = .next s) ∧
  (s.span.push ≠ none → exec .spanPushDone s = .next { s with span := { s.span with push := none, result := 0 } })

/-- A trained link sets UP, rate, width, the LINK_UP event and line 12. Link down, a hot reset and a Function Level Reset of a link that is up reset configuration and MSI-X table, keep pages and owed vectors, count one loss in every bound page and raise LOSS_LINE of the bound casks that ask for it, with the LINK_DOWN or FLR event. A BAR0 access outside every grant reads 0, has no effect and is a violation; an aligned word inside a grant reads or writes the register, and any other granted access reads 0. H2C and C2H writes store, count and signal. An owed vector is sent once, when the host has enabled it on a link that is up. -/
def Obligations.PcieHost : Prop := ∀ s : State,
  (∀ rate width : BitVec 2, exec (.pcieLinkUp rate width) s = .next (if s.pcieOn = true then
      { s with host := { s.host with up := true, rate := rate, width := width, linkUp := true, evt := s.host.evt ||| 0x01 }
               ks := { s.ks with pend := s.ks.pend ||| oneHot 12 } } else s)) ∧
  (∀ (i : Instr) (bits : BitVec 6) (down : Bool),
    (i, bits, down) ∈ [(Instr.pcieLinkDown, (0x02 : BitVec 6), true), (.perstnAssert, 0x02, true), (.pcieFlr, 0x04, false)] →
    (s.host.up = false → exec i s = .next s) ∧
    (s.host.up = true → ∃ t, exec i s = .next t ∧
      t = { s with host := t.host, casks := t.casks, ks := { s.ks with pend := s.ks.pend ||| oneHot 12 } } ∧
      t.host = { s.host with
        up := !down, rate := if down then 0 else s.host.rate, width := if down then 0 else s.host.width, bme := false
        msixEn := false, unmasked := [], linkUp := false, evt := s.host.evt ||| bits, pages := t.host.pages
        devPage := { s.host.devPage with losses := s.host.devPage.losses + 1 } } ∧
      (∀ n, n ≤ 1024 → t.pageIf n =
        if s.pagePath n = 1 then { (s.pageIf n) with losses := (s.pageIf n).losses + 1 } else s.pageIf n) ∧
      ∀ n : BitVec 10, t.regs (.cask n) = s.regs (.cask n) ∧ t.pendOf (.cask n) =
        let k := s.cask n.toNat
        if k.hostPath = 1 ∧ bit k.hostCfg 13 = true ∧ k.state ≠ .disabled ∧ k.state ≠ .disabling then
          k.pend ||| oneHot (fld k.hostCfg 8 5) else k.pend)) ∧
  (∀ (x : BitVec 16) (size : Width) (w : Option Word),
    let a := w32 (s.host.bar0.toNat * 2 ^ 16 + x.toNat)
    let n := match size with | .word => 4 | .half => 2 | .byteS => 1 | .byteU => 1
    let granted : Prop := ∃ i, i < 8 ∧ fld (tget s.host.grants i 0) 0 10 ≤ x.toNat / 64 ∧
      x.toNat / 64 ≤ fld (tget s.host.grants i 0) 10 10 ∧ bit (tget s.host.grants i 0) (if w.isSome then 21 else 20) = true
    let viol : State := { s with
      caskBlk := { s.caskBlk with violSource := 1, violWrite := w.isSome, violCount := satAdd1 s.caskBlk.violCount
                                  violNew := true, violAddr := a }
      ks := { s.ks with pend := s.ks.pend ||| oneHot 2 } }
    (s.barOn = false → exec (.pcieBar0Access x size w) s = .next s) ∧
    (s.barOn = true → ¬ granted →
      exec (.pcieBar0Access x size w) s = .next (if w.isSome then viol else viol.emit (.host .pcie (leBytes n 0)))) ∧
    (s.barOn = true → granted →
      exec (.pcieBar0Access x size w) s = .next (
        if size = .word ∧ a.toNat % 4 = 0 ∧ 0x40000000 ≤ a.toNat ∧ a.toNat < 0x40160000 then
          match w with
          | some v => s.regWrite .host a v
          | none => (s.regRead .host a).2.emit (.host .pcie (leBytes 4 (s.regRead .host a).1.toNat))
        else if w.isSome then s else s.emit (.host .pcie (leBytes n 0))))) ∧
  (∀ (c : Ctx) (v : Word),
    (s.barOn = false ∨ s.pagePath (ctxNum c) ≠ 1 ∨ s.life.state = .analysisPending ∨ c ≠ .keystone ∧ s.ctxLive c = false →
      exec (.h2cWrite (.ctx c) v) s = .next s) ∧
    (s.barOn = true → s.pagePath (ctxNum c) = 1 → s.life.state ≠ .analysisPending → s.ctxLive c = true →
      ∃ t, exec (.h2cWrite (.ctx c) v) s = .next t ∧ s.rung t (ctxNum c) v ∧
        t = { s with host := { s.host with pages := t.host.pages, evt := t.host.evt }, ks := t.ks, casks := t.casks })) ∧
  (∀ v : Word, exec (.c2hWrite .device v) s = .next s) ∧
  (∀ (c : Ctx) (v : Word),
    let n := ctxNum c
    (s.canTrigger c = false → exec (.c2hWrite (.ctx c) v) s = .next s) ∧
    (s.canTrigger c = true → ∃ t, exec (.c2hWrite (.ctx c) v) s = .next t ∧
      t.pageIf n = { (s.pageIf n) with
        c2h := v, c2hCnt := (s.pageIf n).c2hCnt + 1, attn := (s.pageIf n).attn || s.pagePath n == 2 } ∧
      (∀ m, m ≠ n → t.pageIf m = s.pageIf m) ∧
      (if s.pagePath n = 1 then s.vectorAsked t n else t.out = s.out ∧ t.host.owed = s.host.owed) ∧
      t = { s with host := { s.host with pages := t.host.pages, owed := t.host.owed }, out := t.out })) ∧
  (∀ v : Fin 1025,
    (s.barOn = false ∨ v.val ∉ s.host.owed → exec (.msixOwedSend v) s = .next s) ∧
    (s.barOn = true → v.val ∈ s.host.owed → ∃ t, exec (.msixOwedSend v) s = .next t ∧ t.out = .msix v.val :: s.out ∧
      t.host = { s.host with bme := true, msixEn := true, linkUp := true, owed := s.host.owed.filter (· ≠ v.val)
                             unmasked := t.host.unmasked } ∧
      (∀ u, u ∈ t.host.unmasked ↔ u = v.val ∨ u ∈ s.host.unmasked) ∧ t = { s with host := t.host, out := t.out }))

/-- Bytes written over SPI are held until CSn rises; an incomplete frame is then discarded with ERR, and a whole one with good SYNC, LEN and CRC acts as its command, the same as in an I2C write transaction to the target's address or in the device page at its doorbell. A whole frame with a bad CRC is answered with BAD_FRAME, counted and told to keystone code. Status reads give BUSY 0 (the model's choice, log entry 54), RESP_READY, ATTN and ERR and clear ERR. A response is read once. Reading the response of a claim or replacement, or its timer, performs the cold reset. The I2C timeout discards a partial frame. -/
def Obligations.HostFrames : Prop := ∀ s : State,
  (∀ (i : Instr) (cmd : Byte) (via : HostVia) (f : V1Frame), f.payload.length ≤ 1024 → s.viaOn via = true →
    (i, cmd) ∈ [(Instr.status via f, (0x01 : Byte)), (.ident via f, 0x02), (.pubkeys via f, 0x03), (.mbWrite via f, 0x10),
      (.mbRead via f, 0x11), (.ring via f, 0x12), (.poll via f, 0x13), (.stage via f, 0x20), (.ownClaim via f, 0x21),
      (.imageReplace via f, 0x22)] →
    (via = .spi → s.host.spi.open' = true → s.host.spi.rx = commandFrame cmd f →
      exec .spiCsRise s = exec i { s with host := { s.host with spi := { s.host.spi with rx := [], open' := false } } }) ∧
    (via = .i2c → s.host.i2cAddr ≠ 0 → exec (.i2cWriteTransaction s.host.i2cAddr (commandFrame cmd f)) s = exec i s) ∧
    (via = .pcie → (∀ k, k < (commandFrame cmd f).length → tget s.host.devMem k 0 = (commandFrame cmd f).getD k 0) → ∀ v : Word,
      exec (.h2cWrite .device v) s = exec i { s with host := { s.host with
        devPage := { s.host.devPage with h2c := v, h2cCnt := s.host.devPage.h2cCnt + 1 } } })) ∧
  (∀ (cmd : Byte) (f : V1Frame) (crc : BitVec 16), f.payload.length ≤ 1024 → s.viaOn .i2c = true → s.host.i2cAddr ≠ 0 →
    let bs := (commandFrame cmd f).take (8 + f.payload.length)
    crc ≠ crc16 bs → ∃ t, exec (.i2cWriteTransaction s.host.i2cAddr (bs ++ leBytes 2 crc.toNat)) s = .next t ∧
      State.answers s t .i2c f 0x01 [] ∧ t.host.cntFrameErr = satAdd1 s.host.cntFrameErr ∧ t.host.evt = s.host.evt ||| 0x20 ∧
      t = { s with ks := { s.ks with pend := s.ks.pend ||| oneHot 12 }
                   host := { s.host with i2c := t.host.i2c, cntLost := t.host.cntLost, evt := t.host.evt
                                         cntFrameErr := t.host.cntFrameErr } }) ∧
  (∀ (quad : Bool) (bs : List Byte), exec (.spiWriteFrame quad bs) s = .next (if s.viaOn .spi = true then
    { s with host := { s.host with spi := { s.host.spi with rx := s.host.spi.rx ++ bs, open' := true } } } else s)) ∧
  (s.viaOn .spi = false ∨ s.host.spi.open' = false → exec .spiCsRise s = .next s) ∧
  (s.viaOn .spi = true → s.host.spi.open' = true →
    s.host.spi.rx.length < 8 ∨ s.host.spi.rx.length < 10 + leNat (slice s.host.spi.rx 4 2) →
    exec .spiCsRise s =
      .next { s with host := { s.host with spi := { s.host.spi with rx := [], open' := false, err := true } } }) ∧
  (∀ (addr : BitVec 7) (bs : List Byte),
    (s.viaOn .i2c = false ∨ addr ≠ s.host.i2cAddr ∨ addr = 0 → exec (.i2cWriteTransaction addr bs) s = .next s) ∧
    (s.viaOn .i2c = true → s.host.i2cAddr ≠ 0 → bs.length < 8 ∨ bs.length < 10 + leNat (slice bs 4 2) →
      exec (.i2cWriteTransaction s.host.i2cAddr bs) s =
        .next { s with host := { s.host with i2c := { s.host.i2c with err := true } } })) ∧
  (let st (p : V1Port) : Byte := byte (flag p.resp.isSome 1 + flag s.attn 2 + flag p.err 3)
   exec .spiReadStatus s = .next (if s.viaOn .spi = true then
      { s with host := { s.host with spi := { s.host.spi with err := false } }, out := .host .spi [st s.host.spi] :: s.out } else s) ∧
   (s.viaOn .i2c = true → s.host.claim ≠ some .i2c ∨ s.host.i2c.resp = none → exec .i2cReadTransaction s =
      .next { s with host := { s.host with i2c := { s.host.i2c with resp := none, err := false } }
                     out := .host .i2c (st s.host.i2c :: s.host.i2c.resp.getD []) :: s.out })) ∧
  (∀ bs, s.viaOn .spi = true → s.host.spi.resp = some bs → s.host.claim ≠ some .spi → exec .spiReadResponse s =
    .next { s with host := { s.host with spi := { s.host.spi with resp := none } }, out := .host .spi bs :: s.out }) ∧
  (s.viaOn .spi = true → s.host.spi.resp = none →
    exec .spiReadResponse s = .next { s with draw := s.draw + 1, out := .host .spi [Config.freeByte s.draw 0] :: s.out }) ∧
  (s.viaOn .spi = false → exec .spiReadResponse s = .next s) ∧ (s.viaOn .i2c = false → exec .i2cReadTransaction s = .next s) ∧
  (s.barOn = false → exec .devicePageResponseRead s = .next s) ∧
  (s.barOn = true → s.host.claim ≠ some .pcie → ∃ t, exec .devicePageResponseRead s = .next t ∧
    let len := leNat [tget s.host.devMem 0x804 0, tget s.host.devMem 0x805 0]
    t = { s with out := .host .pcie ((List.range (10 + min 1024 len)).map fun k => tget s.host.devMem (0x800 + k) 0) :: s.out }) ∧
  (∀ (i : Instr) (via : HostVia),
    (i, via) ∈ [(Instr.devicePageResponseRead, HostVia.pcie), (.spiReadResponse, .spi), (.i2cReadTransaction, .i2c)] →
    s.viaOn via = true → s.host.claim = some via → s.resetFree →
    (via = .spi → s.host.spi.resp.isSome = true) → (via = .i2c → s.host.i2c.resp.isSome = true) →
    ∃ t, exec i s = .next t ∧ s.coldReset t) ∧
  (s.alive = true → s.host.claim.isSome = true → s.resetFree → ∃ t, exec .claimResetTimer s = .next t ∧ s.coldReset t) ∧
  (s.host.claim = none → exec .claimResetTimer s = .next s) ∧
  (exec .i2cStuckTimeout s = .next (if s.viaOn .i2c = true then
    { s with ks := { s.ks with pend := s.ks.pend ||| oneHot 12 }
             host := { s.host with i2c := { s.host.i2c with rx := [], open' := false }, cntI2c := satAdd1 s.host.cntI2c
                                   evt := s.host.evt ||| 0x10 } } else s))

/-- On a path that serves, a frame of wrong length is answered with BAD_FRAME, a command unknown for its target with BAD_CMD, a page not bound to the path with NOT_BOUND, anything but STATUS in ANALYSIS_PENDING with LC_PENDING, a device command while a claim runs with BUSY or in a state that does not allow it with NOT_NOW, MB_WRITE and RING to a cask that is not live with CASK_OFF, and an offset beyond the mailbox or the staging buffer with BAD_RANGE; each answer leaves the rest of the state alone. A command that passes answers OK with its payload and has its effect: mailbox and staging writes, the doorbell, POLL. A claim that fails leaves the life cycle; one that passes writes the image, the owner record and OWNED. A replacement writes the image. Both zeroize the staging buffer. Which lengths are bad frames is the model's reading, log entry 56. -/
def Obligations.HostCommands : Prop := ∀ (s : State) (via : HostVia) (f : V1Frame), s.memOk → s.viaOn via = true →
  let n := f.target.toNat
  let p := f.payload
  let off := leNat (slice p 0 2)
  let open' : Bool := s.life.state == .owned && s.pwr.bootResult != 0
  let bound : Prop := n ≤ 0x400 ∧ s.pagePath n = (match via with | .pcie => 1 | .spi => 2 | .i2c => 2) ∧
    s.life.state ≠ .analysisPending
  let wiped (t : State) : Prop := t.host.staged = false ∧ ∀ a, sramBase ≤ a → a < sramBase + 0x110000 → t.rd a = 0
  (∀ (i : Instr) (cmd : Byte) (page lenOk allowed : Bool),
    (i, cmd, page, lenOk, allowed) ∈ [
      (Instr.status via f, (0x01 : Byte), false, p.length == 0, true), (.ident via f, 0x02, false, p.length == 0, true),
      (.pubkeys via f, 0x03, false, p.length == 2, s.life.state == .personal || s.life.state == .owned),
      (.mbWrite via f, 0x10, true, decide (2 ≤ p.length ∧ p.length ≤ 1024), true), (.mbRead via f, 0x11, true, p.length == 4, true),
      (.ring via f, 0x12, true, p.length == 4, true), (.poll via f, 0x13, true, p.length == 0, true),
      (.stage via f, 0x20, false, decide (4 ≤ p.length ∧ p.length ≤ 1024), s.life.state == .personal || open'),
      (.ownClaim via f, 0x21, false, p.length == 0, s.life.state == .personal), (.imageReplace via f, 0x22, false, p.length == 0, open')] →
    (1024 < p.length ∨ (if page then n ≤ 0x400 else n = 0x7FF) ∧ lenOk = false →
      ∃ t, exec i s = .next t ∧ s.answers t via f 0x01 [] ∧
        t.host.cntFrameErr = satAdd1 s.host.cntFrameErr ∧ t.host.evt = s.host.evt ||| 0x20 ∧
        State.onlyAnswered { s with ks := { s.ks with pend := s.ks.pend ||| oneHot 12 }
                                    host := { s.host with evt := t.host.evt, cntFrameErr := t.host.cntFrameErr } } t) ∧
    (∀ code : Byte,
      (p.length ≤ 1024 ∧ ¬ (if page then n ≤ 0x400 else n = 0x7FF) ∧ code = 0x02 ∨
       (if page then n ≤ 0x400 else n = 0x7FF) ∧ lenOk = true ∧
        (page = true ∧ s.pagePath n ≠ (match via with | .pcie => 1 | .spi => 2 | .i2c => 2) ∧ code = 0x03 ∨
         (page = true → bound ∨ s.life.state = .analysisPending ∧ s.pagePath n = (match via with | .pcie => 1 | .spi => 2 | .i2c => 2)) ∧
          (s.life.state = .analysisPending ∧ cmd ≠ 0x01 ∧ code = 0x06 ∨
           s.life.state ≠ .analysisPending ∧ page = false ∧ cmd ≠ 0x01 ∧ s.host.claim.isSome = true ∧ code = 0x05 ∨
           s.life.state ≠ .analysisPending ∧ page = false ∧ s.host.claim = none ∧ allowed = false ∧ code = 0x07 ∨
           (cmd = 0x10 ∨ cmd = 0x12) ∧ s.life.state ≠ .analysisPending ∧ n < 1024 ∧ s.caskLive n = false ∧ code = 0x04 ∨
           cmd = 0x10 ∧ s.life.state ≠ .analysisPending ∧ (n = 1024 ∨ s.caskLive n = true) ∧ 0xEE0 < off + (p.length - 2) ∧ code = 0x0B ∨
           cmd = 0x11 ∧ s.life.state ≠ .analysisPending ∧
             (1024 < leNat (slice p 2 2) ∨ 0xEE0 < off + leNat (slice p 2 2)) ∧ code = 0x0B ∨
           cmd = 0x20 ∧ s.host.claim = none ∧ allowed = true ∧ 0x110000 < leNat (slice p 0 4) + (p.length - 4) ∧ code = 0x0B))) →
      ∃ t, exec i s = .next t ∧ s.answers t via f code [] ∧ s.onlyAnswered t)) ∧
  (n = 0x7FF → p = [] → ∃ t, exec (.status via f) s = .next t ∧ s.onlyAnswered t ∧ s.answers t via f 0
    (leBytes 4 s.lcsStatus.toNat ++ leBytes 4 (s.pwrRead 0).toNat ++ leBytes 4 (s.pwrRead 0x1C).toNat ++ leBytes 4 (s.tampRead 0).toNat)) ∧
  (n = 0x7FF → p = [] → s.life.state ≠ .analysisPending → s.host.claim = none →
    ∃ t, exec (.ident via f) s = .next t ∧ s.onlyAnswered t ∧ s.answers t via f 0
      (leBytes 8 Config.deviceId.toNat ++ leBytes 4 0x4E310A01 ++ [2, 0, 0, 0])) ∧
  (n = 0x7FF → p.length = 2 → s.life.state = .personal ∨ s.life.state = .owned → s.host.claim = none →
    ∃ t, exec (.pubkeys via f) s = .next t ∧ s.onlyAnswered t ∧ s.answers t via f 0
      ((((s.life.identKeys.getD []).take 2049).drop off).take 1024)) ∧
  (bound → (n = 1024 ∨ s.caskLive n = true) → 2 ≤ p.length → p.length ≤ 1024 → off + (p.length - 2) ≤ 0xEE0 →
    ∃ t, exec (.mbWrite via f) s = .next t ∧ s.answers t via f 0 [] ∧ State.onlyAnswered { s with mem := t.mem } t ∧
      let a0 := pagesBase + 0x1000 * n + off
      ∀ a, t.rd a = if a0 ≤ a ∧ a < a0 + (p.length - 2) then p.getD (a - a0 + 2) 0 else s.rd a) ∧
  (bound → p.length = 4 → leNat (slice p 2 2) ≤ 1024 → off + leNat (slice p 2 2) ≤ 0xEE0 →
    ∃ t, exec (.mbRead via f) s = .next t ∧ s.onlyAnswered t ∧ s.answers t via f 0
      ((List.range (leNat (slice p 2 2))).map fun k => s.rd (pagesBase + 0x1000 * n + off + k))) ∧
  (bound → (n = 1024 ∨ s.caskLive n = true) → p.length = 4 →
    ∃ t, exec (.ring via f) s = .next t ∧ s.answers t via f 0 [] ∧ s.rung t n (wordAt p 0) ∧
      State.onlyAnswered { s with host := { s.host with pages := t.host.pages, evt := t.host.evt }, ks := t.ks, casks := t.casks } t) ∧
  (bound → p = [] → ∃ t, exec (.poll via f) s = .next t ∧
    s.answers t via f 0 (leBytes 4 (s.pageIf n).c2h.toNat ++ leBytes 4 (s.pageIf n).c2hCnt.toNat ++ leBytes 4 (s.pstat n).toNat) ∧
    State.onlyAnswered { s with host := { s.host with pages := t.host.pages } } t ∧
    t.pageIf n = { (s.pageIf n) with attn := false } ∧ ∀ m, m ≤ 1024 → m ≠ n → t.pageIf m = s.pageIf m) ∧
  (n = 0x7FF → s.life.state = .personal ∨ open' = true → s.host.claim = none → 4 ≤ p.length → p.length ≤ 1024 →
    let o := sramBase + leNat (slice p 0 4)
    o + (p.length - 4) ≤ sramBase + 0x110000 → ∃ t, exec (.stage via f) s = .next t ∧ s.answers t via f 0 [] ∧
      State.onlyAnswered { s with mem := t.mem, host := { s.host with staged := true } } t ∧
      ∀ a, t.rd a = if o ≤ a ∧ a < o + (p.length - 4) then p.getD (a - o + 4) 0 else s.rd a) ∧
  (n = 0x7FF → p = [] → s.life.state = .personal → s.host.claim = none →
    let r := s.rdBytes sramBase 0x1020
    let keys := slice r 0x10 2056
    let img := s.stagedImage 0x3000
    let form : Prop := r.take 6 = [0x4B, 0x5A, 0x43, 0x4C, 0x01, 0x00] ∧ leNat (slice r 6 2) ≤ 895
    let mine : Prop := leNat (slice r 8 8) = Config.deviceId.toNat
    let signed : Prop := hybridOk s.life.authority none false 3 r (s.rdBytes (sramBase + 0x1020) 5472) = true
    let fails (code : Byte) : Prop := ∃ t, exec (.ownClaim via f) s = .next t ∧ s.answers t via f code [] ∧ wiped t ∧
      State.onlyAnswered { s with mem := t.mem, host := { s.host with staged := false } } t
    (¬ form → fails 0x08) ∧ (form → ¬ mine → fails 0x0A) ∧ (form → mine → ¬ signed → fails 0x09) ∧
    (form → mine → signed → s.imageCheck (some keys) img = 1 → fails 0x09) ∧
    (form → mine → signed → s.imageCheck (some keys) img = 2 → fails 0x0C) ∧
    (form → mine → signed → 2 < s.imageCheck (some keys) img → fails 0x08) ∧
    (form → mine → signed → s.imageCheck (some keys) img = 0 → ∃ t, exec (.ownClaim via f) s = .next t ∧
      s.answers t via f 0 [] ∧ wiped t ∧ t.host.claim = some via ∧
      t.life = { s.life with state := .owned, ownerKeys := some keys, debugKeys := some (slice r 0x818 2056)
                             imageSector := leNat (slice r 6 2), imageLen := img.length } ∧
      t.storedImage = img ∧
      State.onlyAnswered { s with mem := t.mem, life := t.life, nvm := { s.nvm with sectOwn := t.nvm.sectOwn }
                                  host := { s.host with staged := false, claim := some via } } t)) ∧
  (n = 0x7FF → p = [] → open' = true → s.host.claim = none →
    let img := s.stagedImage 0
    let fails (code : Byte) : Prop := ∃ t, exec (.imageReplace via f) s = .next t ∧ s.answers t via f code [] ∧ wiped t ∧
      State.onlyAnswered { s with mem := t.mem, host := { s.host with staged := false } } t
    (s.imageCheck s.life.ownerKeys img = 1 → fails 0x09) ∧ (s.imageCheck s.life.ownerKeys img = 2 → fails 0x0C) ∧
    (2 < s.imageCheck s.life.ownerKeys img → fails 0x08) ∧
    (s.imageCheck s.life.ownerKeys img = 0 → s.life.imageSector ≤ 895 → ∃ t, exec (.imageReplace via f) s = .next t ∧
      s.answers t via f 0 [] ∧ wiped t ∧ t.storedImage = img ∧ t.life = { s.life with imageLen := img.length } ∧
      State.onlyAnswered { s with mem := t.mem, life := t.life, nvm := { s.nvm with sectOwn := t.nvm.sectOwn }
                                  host := { s.host with staged := false, claim := some via } } t))
end

