-- ==== Sys2Proof/Laws/Bytes.lean ====
section
/-! SUPPORT. Byte strings and numbers, and the lengths of the hashes. -/

namespace Sys2Proof.Machine

open Sys2Proof

@[simp] theorem leBytes_length (n v : Nat) : (leBytes n v).length = n := by
  induction n generalizing v with
  | zero => rfl
  | succ n ih => simp [leBytes, ih]

/-- The number of a byte string is below 256 to its length. -/
theorem leNat_lt (bs : Bytes) : leNat bs < 256 ^ bs.length := by
  induction bs with
  | nil => simp [leNat]
  | cons b bs ih =>
    have := b.isLt
    simp only [leNat, List.length_cons, Nat.pow_succ]
    omega

/-- A byte string is read back from its number. -/
theorem leBytes_leNat (bs : Bytes) : leBytes bs.length (leNat bs) = bs := by
  induction bs with
  | nil => rfl
  | cons b bs ih =>
    have h1 : BitVec.ofNat 8 (b.toNat + 256 * leNat bs) = b := by
      apply BitVec.eq_of_toNat_eq; have := b.isLt; simp only [BitVec.toNat_ofNat]; omega
    have h2 : (b.toNat + 256 * leNat bs) / 256 = leNat bs := by have := b.isLt; omega
    simp only [List.length_cons, leBytes, leNat, h1, h2, ih]

theorem shaRound_length (p : Sha2) (v : List Nat) (k : Nat) : (shaRound p v k).length = v.length := by
  unfold shaRound; split <;> simp

theorem foldl_length {α : Type} {f : List Nat → α → List Nat} (hf : ∀ v x, (f v x).length = v.length) (l : List α) (v : List Nat) :
    (l.foldl f v).length = v.length := by
  induction l generalizing v with
  | nil => rfl
  | cons x l ih => simp [ih, hf]

theorem shaBlock_length (p : Sha2) (ks hs : List Nat) (blk : Bytes) : (shaBlock p ks hs blk).length = hs.length := by
  simp [shaBlock, foldl_length (shaRound_length p)]

/-- A hash has the bytes of its eight words. -/
theorem sha2_length (p : Sha2) (ks hs : List Nat) (msg : Bytes) : (sha2 p ks hs msg).length = hs.length * (p.bits / 8) := by
  have h : ∀ l : List Nat, (l.flatMap (beBytes (p.bits / 8))).length = l.length * (p.bits / 8) := by
    intro l
    induction l with
    | nil => simp
    | cons x l ih => simp [beBytes, ih, Nat.succ_mul, Nat.add_comm]
  simp only [sha2, h, foldl_length (shaBlock_length p ks)]

theorem sha256_length (msg : Bytes) : (sha256 msg).length = 32 := by
  have h : sha256H.length = 8 := by
    have h80 : 8 ≤ primes80.length := by decide +kernel
    simp [sha256H, h80]
  simp [sha256, sha2_length, h, sha256P]

theorem sha384_length (msg : Bytes) : (sha384 msg).length = 48 := by
  have h : sha384H.length = 8 := by
    have h80 : 16 ≤ primes80.length := by decide +kernel
    simp [sha384H]; omega
  simp [sha384, sha2_length, h, sha512P]

end Sys2Proof.Machine
end

