-- ==== Sys2Proof/Laws/Memory.lean ====
section
/-! SUPPORT. The byte memory: every operation keeps the canonical form, and reads after writes. -/

namespace Sys2Proof.Machine

open Sys2Proof

theorem memSorted_mono {lo lo' : Nat} {m : List Host.Cell} (h : lo' ≤ lo) (hs : memSorted lo m = true) :
    memSorted lo' m = true := by
  cases m with
  | nil => rfl
  | cons c m => simp [memSorted] at hs ⊢; exact ⟨by omega, hs.2⟩

/-- Filtering keeps the order. -/
theorem memSorted_filter (p : Host.Cell → Bool) {lo : Nat} {m : List Host.Cell} (hs : memSorted lo m = true) :
    memSorted lo (m.filter p) = true := by
  induction m generalizing lo with
  | nil => rfl
  | cons c m ih =>
    simp only [memSorted, Bool.and_eq_true, decide_eq_true_eq] at hs
    by_cases hp : p c
    · simp [List.filter_cons_of_pos hp, memSorted, hs.1, ih hs.2]
    · rw [List.filter_cons_of_neg hp]; exact memSorted_mono (by omega) (ih hs.2)

/-- A sorted list below `b` followed by a list sorted from `b` is sorted. -/
theorem memSorted_append {lo b : Nat} {m n : List Host.Cell} (hlo : lo ≤ b) (hm : memSorted lo m = true)
    (hb : ∀ c ∈ m, c.1 < b) (hn : memSorted b n = true) : memSorted lo (m ++ n) = true := by
  induction m generalizing lo with
  | nil => exact memSorted_mono hlo hn
  | cons c m ih =>
    simp only [memSorted, Bool.and_eq_true, decide_eq_true_eq] at hm
    have hc : c.1 < b := hb c (by simp)
    simp only [List.cons_append, memSorted, Bool.and_eq_true, decide_eq_true_eq]
    exact ⟨hm.1, ih (by omega) hm.2 fun d hd => hb d (by simp [hd])⟩

theorem memSorted_ge {lo : Nat} {m : List Host.Cell} (hs : memSorted lo m = true) : ∀ c ∈ m, lo ≤ c.1 := by
  induction m generalizing lo with
  | nil => simp
  | cons c m ih =>
    simp only [memSorted, Bool.and_eq_true, decide_eq_true_eq] at hs
    intro d hd
    rcases List.mem_cons.mp hd with rfl | hd
    · exact hs.1
    · have := ih hs.2 d hd; omega

/-- The cells above a bound, of a sorted list, are sorted from the bound. -/
theorem memSorted_above {lo b : Nat} {m : List Host.Cell} (hs : memSorted lo m = true) :
    memSorted b (m.filter fun c => b ≤ c.1) = true := by
  induction m generalizing lo with
  | nil => rfl
  | cons c m ih =>
    simp only [memSorted, Bool.and_eq_true, decide_eq_true_eq] at hs
    by_cases hp : b ≤ c.1
    · rw [List.filter_cons_of_pos (by simpa using hp)]
      simp only [memSorted, Bool.and_eq_true, decide_eq_true_eq]
      exact ⟨hp, memSorted_filter _ hs.2⟩
    · rw [List.filter_cons_of_neg (by simpa using hp)]; exact ih hs.2

theorem cellsOf_sorted (a : Nat) (bs : Bytes) : memSorted a (cellsOf a bs) = true := by
  induction bs generalizing a with
  | nil => rfl
  | cons b bs ih =>
    simp only [cellsOf]; split
    · exact memSorted_mono (by omega) (ih (a + 1))
    · simp [memSorted, ih (a + 1)]

theorem cellsOf_mem (a : Nat) (bs : Bytes) :
    ∀ c ∈ cellsOf a bs, a ≤ c.1 ∧ c.1 < a + bs.length ∧ c.2 ≠ memDefault c.1 := by
  induction bs generalizing a with
  | nil => simp [cellsOf]
  | cons b bs ih =>
    intro c hc
    simp only [cellsOf] at hc
    split at hc
    · have := ih (a + 1) c hc
      exact ⟨by omega, by simp; omega, this.2.2⟩
    · rcases List.mem_cons.mp hc with rfl | hc
      · simp_all
      · have := ih (a + 1) c hc
        exact ⟨by omega, by simp; omega, this.2.2⟩

/-- Every cell of a list in canonical form differs from what an unlisted address reads as. -/
theorem wf_iff (m : List Host.Cell) :
    Memory.wf m = true ↔ memSorted 0 m = true ∧ ∀ c ∈ m, c.2 ≠ memDefault c.1 := by
  simp [Memory.wf, bne_iff_ne]

/-- A store keeps the canonical form. -/
theorem memSplice_wf {m : List Host.Cell} (h : Memory.wf m = true) (a : Nat) (bs : Bytes) :
    Memory.wf (memSplice m a bs) = true := by
  rw [wf_iff] at h ⊢
  have hlow : ∀ c ∈ m.filter (fun c => c.1 < a), c.1 < a := by intro c hc; simpa using (List.mem_filter.mp hc).2
  refine ⟨?_, ?_⟩
  · refine memSorted_append (Nat.zero_le a) (memSorted_filter _ h.1) hlow ?_
    exact memSorted_append (by omega) (cellsOf_sorted a bs) (fun c hc => (cellsOf_mem a bs c hc).2.1)
      (memSorted_above h.1)
  · intro c hc
    simp only [memSplice, List.mem_append] at hc
    rcases hc with hc | hc | hc
    · exact h.2 c (List.mem_filter.mp hc).1
    · exact (cellsOf_mem a bs c hc).2.2
    · exact h.2 c (List.mem_filter.mp hc).1

/-- Zeroizing or erasing keeps the canonical form. -/
theorem memClear_wf {m : List Host.Cell} (h : Memory.wf m = true) (a n : Nat) : Memory.wf (memClear m a n) = true := by
  rw [wf_iff] at h ⊢
  exact ⟨memSorted_filter _ h.1, fun c hc => h.2 c (List.mem_filter.mp hc).1⟩

/-- Dropping cells keeps the canonical form. -/
theorem filter_wf {m : List Host.Cell} (h : Memory.wf m = true) (p : Host.Cell → Bool) : Memory.wf (m.filter p) = true := by
  rw [wf_iff] at h ⊢
  exact ⟨memSorted_filter _ h.1, fun c hc => h.2 c (List.mem_filter.mp hc).1⟩

/-! ## Reads -/

theorem memRead_append_left {m n : List Host.Cell} {a : Nat} (h : ∀ c ∈ m, c.1 ≠ a) : memRead (m ++ n) a = memRead n a := by
  induction m with
  | nil => rfl
  | cons c m ih =>
    have hc : c.1 ≠ a := h c (by simp)
    simp [memRead, hc, ih fun d hd => h d (by simp [hd])]

theorem memRead_append_right {m n : List Host.Cell} {a : Nat} (h : ∀ c ∈ n, c.1 ≠ a) : memRead (m ++ n) a = memRead m a := by
  induction m with
  | nil => simpa [memRead] using (memRead_append_left (n := []) h)
  | cons c m ih => simp [memRead, ih]

/-- A filter that keeps every cell of address `a` does not change what `a` reads as. -/
theorem memRead_filter {m : List Host.Cell} {a : Nat} {p : Host.Cell → Bool} (h : ∀ c, c.1 = a → p c = true) :
    memRead (m.filter p) a = memRead m a := by
  induction m with
  | nil => rfl
  | cons c m ih =>
    by_cases hp : p c
    · simp [List.filter_cons_of_pos hp, memRead, ih]
    · rw [List.filter_cons_of_neg hp, ih]
      have : c.1 ≠ a := fun hc => hp (h c hc)
      simp [memRead, this]

theorem memRead_cellsOf (a : Nat) (bs : Bytes) (i : Nat) (h : i < bs.length) :
    memRead (cellsOf a bs) (a + i) = bs[i] := by
  induction bs generalizing a i with
  | nil => simp at h
  | cons b bs ih =>
    cases i with
    | zero =>
      simp only [cellsOf]; split
      · rename_i hb
        have : ∀ c ∈ cellsOf (a + 1) bs, c.1 ≠ a := fun c hc => by have := (cellsOf_mem _ _ c hc).1; omega
        have hm := memRead_append_left (n := []) this
        simp only [List.append_nil] at hm
        simp [hm, memRead, hb]
      · simp [memRead]
    | succ i =>
      have h' : i < bs.length := by simpa using h
      have hi := ih (a + 1) i h'
      have he : a + (i + 1) = a + 1 + i := by omega
      simp only [cellsOf]; split
      · simpa [he] using hi
      · have : a ≠ a + 1 + i := by omega
        simp [memRead, he, this, hi]

/-- A byte stored reads back. -/
theorem memRead_splice_in (m : List Host.Cell) (a : Nat) (bs : Bytes) (i : Nat) (h : i < bs.length) :
    memRead (memSplice m a bs) (a + i) = bs[i] := by
  unfold memSplice
  rw [memRead_append_left (by intro c hc; have := (List.mem_filter.mp hc).2; simp at this; omega),
    memRead_append_right (by intro c hc; have := (List.mem_filter.mp hc).2; simp at this; omega)]
  exact memRead_cellsOf a bs i h

/-- A store leaves every other byte alone. -/
theorem memRead_splice_out (m : List Host.Cell) (a : Nat) (bs : Bytes) (x : Nat) (h : x < a ∨ a + bs.length ≤ x) :
    memRead (memSplice m a bs) x = memRead m x := by
  unfold memSplice
  have hmid : ∀ c ∈ cellsOf a bs, c.1 ≠ x := fun c hc => by have := cellsOf_mem a bs c hc; omega
  rcases h with h | h
  · rw [memRead_append_right, memRead_filter (by intro c hc; simp [hc, h])]
    intro c hc
    rcases List.mem_append.mp hc with hc | hc
    · exact hmid c hc
    · have := (List.mem_filter.mp hc).2; simp at this; omega
  · rw [memRead_append_left (by intro c hc; have := (List.mem_filter.mp hc).2; simp at this; omega),
      memRead_append_left hmid, memRead_filter (by intro c hc; simp [hc, h])]

/-- A byte cleared reads as an unlisted one. -/
theorem memRead_clear_in (m : List Host.Cell) (a n x : Nat) (h : a ≤ x ∧ x < a + n) :
    memRead (memClear m a n) x = memDefault x := by
  unfold memClear
  have := memRead_append_left (m := m.filter fun c => decide (c.1 < a) || decide (a + n ≤ c.1)) (n := []) (a := x)
    (by intro c hc; have := (List.mem_filter.mp hc).2; simp at this; omega)
  simpa [memRead] using this

/-- Clearing leaves every other byte alone. -/
theorem memRead_clear_out (m : List Host.Cell) (a n x : Nat) (h : x < a ∨ a + n ≤ x) :
    memRead (memClear m a n) x = memRead m x := by
  unfold memClear
  exact memRead_filter (by intro c hc; subst hc; simpa using h)

end Sys2Proof.Machine
end

