-- ==== Sys2Proof/Laws/Kept.lean ====
section
/-! SUPPORT. What every operation on the state keeps: `f_pending` says that `f` leaves the queue alone, `f_inv` that it keeps the
invariant `State.Inv` (canonical memory, tables that list each key once, only forcible domains forced off). -/

namespace Sys2Proof.Machine

open Sys2Proof

/-! ## Tables -/

@[simp] theorem keysRise_nil {α : Type} : keysRise ([] : Tab α) := List.Pairwise.nil
theorem tset_mem {α : Type} {t : Tab α} {k : Nat} {v : α} {e : Nat × α} (h : e ∈ tset t k v) : e = (k, v) ∨ e ∈ t := by
  induction t with
  | nil => simpa [tset] using h
  | cons a t ih =>
    simp only [tset] at h
    split at h
    · rcases List.mem_cons.mp h with h | h <;> simp [h]
    · split at h
      · simpa using h
      · rcases List.mem_cons.mp h with h | h
        · simp [h]
        · rcases ih h with h | h <;> simp [h]
@[simp] theorem keysRise_tset {α : Type} {t : Tab α} (h : keysRise t) (k : Nat) (v : α) : keysRise (tset t k v) := by
  induction t with
  | nil => simp [tset, keysRise]
  | cons a t ih =>
    obtain ⟨ha, ht⟩ := List.pairwise_cons.mp h
    simp only [tset]
    split
    · next e => subst e; exact List.pairwise_cons.mpr ⟨ha, ht⟩
    · split
      · next hk =>
        refine List.pairwise_cons.mpr ⟨fun x hx => ?_, h⟩
        rcases List.mem_cons.mp hx with rfl | hx
        · exact hk
        · exact Nat.lt_trans hk (ha x hx)
      · next hne hk =>
        refine List.pairwise_cons.mpr ⟨fun x hx => ?_, ih ht⟩
        rcases tset_mem hx with rfl | hx
        · simp only; omega
        · exact ha x hx
@[simp] theorem keysRise_filter {α : Type} {t : Tab α} (h : keysRise t) (p : Nat × α → Bool) : keysRise (t.filter p) :=
  List.Pairwise.filter _ h
@[simp] theorem keysRise_tdel {α : Type} {t : Tab α} (h : keysRise t) (k : Nat) : keysRise (tdel t k) := keysRise_filter h _
@[simp] theorem keysRise_map {α β : Type} {t : Tab α} (h : keysRise t) {f : Nat × α → Nat × β} (hf : ∀ e, (f e).1 = e.1) :
    keysRise (t.map f) := List.Pairwise.map f (fun a b hab => by simpa [hf] using hab) h

@[simp] theorem allForcible_nil : allForcible [] := by simp [allForcible]
@[simp] theorem wf_filter {m : List Host.Cell} (h : Memory.wf m = true) (p : Host.Cell → Bool) : Memory.wf (m.filter p) = true := filter_wf h p

/-! ## The invariant -/

theorem State.inv_iff (s : State) : s.Inv ↔ Memory.wf s.mem = true ∧ keysRise s.casks ∧ keysRise s.press.pages ∧
    keysRise s.frame.regions ∧ keysRise s.lat.pages ∧ keysRise s.lnk ∧ keysRise s.tile.tiles ∧
    allForcible s.clk.forceOff :=
  ⟨fun h => ⟨h.mem, h.tabs.casks, h.tabs.press, h.tabs.regions, h.tabs.lat, h.tabs.lnk, h.tabs.tiles, h.forced⟩,
   fun ⟨a, b, c, d, e, f, g, h⟩ => ⟨a, ⟨b, c, d, e, f, g⟩, h⟩⟩
@[simp] theorem State.Inv.wf {s : State} (h : s.Inv) : Memory.wf s.mem = true := h.mem
@[simp] theorem State.Inv.casks {s : State} (h : s.Inv) : keysRise s.casks := h.tabs.casks
@[simp] theorem State.Inv.press {s : State} (h : s.Inv) : keysRise s.press.pages := h.tabs.press
@[simp] theorem State.Inv.regions {s : State} (h : s.Inv) : keysRise s.frame.regions := h.tabs.regions
@[simp] theorem State.Inv.lat {s : State} (h : s.Inv) : keysRise s.lat.pages := h.tabs.lat
@[simp] theorem State.Inv.lnk {s : State} (h : s.Inv) : keysRise s.lnk := h.tabs.lnk
@[simp] theorem State.Inv.tiles {s : State} (h : s.Inv) : keysRise s.tile.tiles := h.tabs.tiles
@[simp] theorem State.Inv.forcible {s : State} (h : s.Inv) : allForcible s.clk.forceOff := h.forced

@[simp high] theorem inv_mk_same (t : State) (pending life dbg tap pwr tamp nvm ctrs vault rng ks caskBlk sched dec
    lanes span host gpio latches stale draw out) :
    State.Inv (State.mk pending life dbg tap t.clk pwr tamp t.mem nvm ctrs vault rng ks t.casks caskBlk sched dec t.press t.lat
      lanes t.lnk t.tile t.frame span host gpio latches stale draw out) = t.Inv := by simp only [State.inv_iff]
@[simp] theorem inv_mk (pending mem life dbg tap clk pwr tamp nvm ctrs vault rng ks casks caskBlk sched dec press lat
    lanes lnk tile frame span host gpio latches stale draw out) :
    State.Inv (State.mk pending life dbg tap clk pwr tamp mem nvm ctrs vault rng ks casks caskBlk sched dec press lat
      lanes lnk tile frame span host gpio latches stale draw out) ↔
    Memory.wf mem = true ∧ keysRise casks ∧ keysRise press.pages ∧
    keysRise frame.regions ∧ keysRise lat.pages ∧ keysRise lnk ∧ keysRise tile.tiles ∧
    allForcible clk.forceOff := by simp only [State.inv_iff]
theorem inv_foldl {α : Type} {f : State → α → State} (hf : ∀ t x, t.Inv → (f t x).Inv) :
    ∀ {s : State} (l : List α), s.Inv → (l.foldl f s).Inv
  | _, [], h => h
  | _, x :: l, h => inv_foldl hf l (hf _ x h)
theorem inv_foldl2 {α β : Type} {f : β × State → α → β × State} (hf : ∀ t x, t.2.Inv → (f t x).2.Inv) :
    ∀ {s : β × State} (l : List α), s.2.Inv → (l.foldl f s).2.Inv
  | _, [], h => h
  | _, x :: l, h => inv_foldl2 hf l (hf _ x h)
@[simp] theorem inv_ite (c : Prop) [Decidable c] (a b : State) :
    State.Inv (if c then a else b) ↔ (c → a.Inv) ∧ (¬ c → b.Inv) := by split <;> simp_all
@[simp] theorem State.wrBytes_inv (s a bs) (h : State.Inv s) : (s.wrBytes a bs).Inv := by
  unfold State.wrBytes; simp [h, memSplice_wf h.mem]
@[simp] theorem State.clear_inv (s a n) (h : State.Inv s) : (s.clear a n).Inv := by
  unfold State.clear; simp [h, memClear_wf h.mem]
@[simp] theorem State.wrBytes_pending (s a bs) : (State.wrBytes s a bs).pending = s.pending := Eq.trans rfl rfl
@[simp] theorem State.clear_pending (s a n) : (State.clear s a n).pending = s.pending := Eq.trans rfl rfl
@[simp] theorem pend_ite (c : Prop) [Decidable c] (a b : State) :
    (if c then a else b).pending = if c then a.pending else b.pending := by split <;> rfl
theorem pend_foldl {α : Type} {f : State → α → State} (hf : ∀ t x, (f t x).pending = t.pending) :
    ∀ (s : State) (l : List α), (l.foldl f s).pending = s.pending
  | _, [] => rfl
  | s, x :: l => (pend_foldl hf (f s x) l).trans (hf s x)
theorem pend_foldl2 {α β : Type} {f : β × State → α → β × State} (hf : ∀ t x, (f t x).2.pending = t.2.pending) :
    ∀ (s : β × State) (l : List α), (l.foldl f s).2.pending = s.2.pending
  | _, [] => rfl
  | s, x :: l => (pend_foldl2 hf (f s x) l).trans (hf s x)
/-! ## Operation by operation -/

@[simp] theorem State.setCask_pending (x0 : State) (x1 : Nat) (x2 : Cask) : (State.setCask x0 x1 x2).pending = x0.pending := Eq.trans rfl rfl
@[simp] theorem State.setCask_inv (x0 : State) (x1 : Nat) (x2 : Cask) (h : x0.Inv) : (State.setCask x0 x1 x2).Inv := by unfold State.setCask; simp [*]
@[simp] theorem State.modCask_pending (x0 : State) (x1 : Nat) (x2 : Cask → Cask) : (State.modCask x0 x1 x2).pending = x0.pending := Eq.trans rfl rfl
@[simp] theorem State.modCask_inv (x0 : State) (x1 : Nat) (x2 : Cask → Cask) (h : x0.Inv) : (State.modCask x0 x1 x2).Inv := by unfold State.modCask; simp [*]
@[simp] theorem State.setRegs_pending (x0 : State) (x1 : Ctx) (x2 : Regs) : (State.setRegs x0 x1 x2).pending = x0.pending := by unfold State.setRegs; (repeat' split) <;> simp [*]
@[simp] theorem State.setRegs_inv (x0 : State) (x1 : Ctx) (x2 : Regs) (h : x0.Inv) : (State.setRegs x0 x1 x2).Inv := by unfold State.setRegs; (repeat' split) <;> simp [*]
@[simp] theorem State.modRegs_pending (x0 : State) (x1 : Ctx) (x2 : Regs → Regs) : (State.modRegs x0 x1 x2).pending = x0.pending := by unfold State.modRegs; simp [*]
@[simp] theorem State.modRegs_inv (x0 : State) (x1 : Ctx) (x2 : Regs → Regs) (h : x0.Inv) : (State.modRegs x0 x1 x2).Inv := by unfold State.modRegs; simp [*]
@[simp] theorem State.setPend_pending (x0 : State) (x1 : Ctx) (x2 : Word) : (State.setPend x0 x1 x2).pending = x0.pending := by unfold State.setPend; (repeat' split) <;> simp [*]
@[simp] theorem State.setPend_inv (x0 : State) (x1 : Ctx) (x2 : Word) (h : x0.Inv) : (State.setPend x0 x1 x2).Inv := by unfold State.setPend; (repeat' split) <;> simp [*]
@[simp] theorem State.raiseLine_pending (x0 : State) (x1 : Ctx) (x2 : Nat) : (State.raiseLine x0 x1 x2).pending = x0.pending := by unfold State.raiseLine; (repeat' split) <;> simp [*]
@[simp] theorem State.raiseLine_inv (x0 : State) (x1 : Ctx) (x2 : Nat) (h : x0.Inv) : (State.raiseLine x0 x1 x2).Inv := by unfold State.raiseLine; (repeat' split) <;> simp [*]
@[simp] theorem State.ksLine_pending (x0 : State) (x1 : Nat) : (State.ksLine x0 x1).pending = x0.pending := Eq.trans rfl rfl
@[simp] theorem State.ksLine_inv (x0 : State) (x1 : Nat) (h : x0.Inv) : (State.ksLine x0 x1).Inv := by unfold State.ksLine; simp [*]
@[simp] theorem State.drawBytes_pending (x0 : State) (x1 : Nat) : (State.drawBytes x0 x1).2.pending = x0.pending := Eq.trans rfl rfl
@[simp] theorem State.drawBytes_inv (x0 : State) (x1 : Nat) (h : x0.Inv) : (State.drawBytes x0 x1).2.Inv := by unfold State.drawBytes; simp [*]
@[simp] theorem State.drbg_pending (x0 : State) (x1 : Nat) : (State.drbg x0 x1).2.pending = x0.pending := Eq.trans rfl rfl
@[simp] theorem State.drbg_inv (x0 : State) (x1 : Nat) (h : x0.Inv) : (State.drbg x0 x1).2.Inv := by unfold State.drbg; simp [*]
@[simp] theorem State.drawNat_pending (x0 : State) : (State.drawNat x0).2.pending = x0.pending := Eq.trans rfl rfl
@[simp] theorem State.drawNat_inv (x0 : State) (h : x0.Inv) : (State.drawNat x0).2.Inv := by unfold State.drawNat; simp [*]
@[simp] theorem State.ungate_pending (x0 : State) (x1 : Nat) (x2 : Nat) : (State.ungate x0 x1 x2).pending = x0.pending := Eq.trans rfl rfl
@[simp] theorem State.ungate_inv (x0 : State) (x1 : Nat) (x2 : Nat) (h : x0.Inv) : (State.ungate x0 x1 x2).Inv := by unfold State.ungate; simp [*]
@[simp] theorem State.emit_pending (x0 : State) (x1 : Output) : (State.emit x0 x1).pending = x0.pending := Eq.trans rfl rfl
@[simp] theorem State.emit_inv (x0 : State) (x1 : Output) (h : x0.Inv) : (State.emit x0 x1).Inv := by unfold State.emit; simp [*]
@[simp] theorem State.orFree_pending (x0 : State) (x1 : Option Word) : (State.orFree x0 x1).2.pending = x0.pending := by unfold State.orFree; (repeat' split) <;> simp [*]
@[simp] theorem State.orFree_inv (x0 : State) (x1 : Option Word) (h : x0.Inv) : (State.orFree x0 x1).2.Inv := by unfold State.orFree; (repeat' split) <;> simp [*]
@[simp] theorem State.completeBlock_pending (x0 : State) (x1 : Ctx) (x2 : Nat) (x3 : Option Word) (x4 : Nat) (x5 : Nat) : (State.completeBlock x0 x1 x2 x3 x4 x5).pending = x0.pending := by unfold State.completeBlock; simp [*]
@[simp] theorem State.completeBlock_inv (x0 : State) (x1 : Ctx) (x2 : Nat) (x3 : Option Word) (x4 : Nat) (x5 : Nat) (h : x0.Inv) : (State.completeBlock x0 x1 x2 x3 x4 x5).Inv := by unfold State.completeBlock; simp (maxDischargeDepth := 60) [*]
@[simp] theorem State.loadBlock_pending (x0 : State) (x1 : Ctx) (x2 : Nat) (x3 : Nat) (x4 : Req) : (State.loadBlock x0 x1 x2 x3 x4).pending = x0.pending := Eq.trans rfl rfl
@[simp] theorem State.loadBlock_inv (x0 : State) (x1 : Ctx) (x2 : Nat) (x3 : Nat) (x4 : Req) (h : x0.Inv) : (State.loadBlock x0 x1 x2 x3 x4).Inv := by unfold State.loadBlock; simp [*]
@[simp] theorem State.clearDone_pending (x0 : State) (x1 : Ctx) (x2 : Nat) : (State.clearDone x0 x1 x2).pending = x0.pending := Eq.trans rfl rfl
@[simp] theorem State.clearDone_inv (x0 : State) (x1 : Ctx) (x2 : Nat) (h : x0.Inv) : (State.clearDone x0 x1 x2).Inv := by unfold State.clearDone; simp [*]
@[simp] theorem State.advance_pending (x0 : State) (x1 : Nat) : (State.advance x0 x1).pending = x0.pending := by unfold State.advance; simp [*]
@[simp] theorem State.advance_inv (x0 : State) (x1 : Nat) (h : x0.Inv) : (State.advance x0 x1).Inv := by unfold State.advance; simp [*]
@[simp] theorem State.atTime_pending (x0 : State) (x1 : Time) : (State.atTime x0 x1).pending = x0.pending := by unfold State.atTime; simp [*]
@[simp] theorem State.atTime_inv (x0 : State) (x1 : Time) (h : x0.Inv) : (State.atTime x0 x1).Inv := by unfold State.atTime; simp [*]
@[simp] theorem State.setCtr_pending (x0 : State) (x1 : Nat) (x2 : CtrRec) : (State.setCtr x0 x1 x2).pending = x0.pending := Eq.trans rfl rfl
@[simp] theorem State.setCtr_inv (x0 : State) (x1 : Nat) (x2 : CtrRec) (h : x0.Inv) : (State.setCtr x0 x1 x2).Inv := by unfold State.setCtr; simp [*]
@[simp] theorem State.ctrAdd_pending (x0 : State) (x1 : Nat) (x2 : Nat) (x3 : Bool) : (State.ctrAdd x0 x1 x2 x3).2.pending = x0.pending := by unfold State.ctrAdd; (repeat' split) <;> simp [*]
@[simp] theorem State.ctrAdd_inv (x0 : State) (x1 : Nat) (x2 : Nat) (x3 : Bool) (h : x0.Inv) : (State.ctrAdd x0 x1 x2 x3).2.Inv := by unfold State.ctrAdd; (repeat' split) <;> simp [*]
@[simp] theorem State.ctrBump_pending (x0 : State) (x1 : Nat) : (State.ctrBump x0 x1).pending = x0.pending := by unfold State.ctrBump; simp [*]
@[simp] theorem State.ctrBump_inv (x0 : State) (x1 : Nat) (h : x0.Inv) : (State.ctrBump x0 x1).Inv := by unfold State.ctrBump; simp [*]
@[simp] theorem State.ctrRepairAll_pending (x0 : State) : (State.ctrRepairAll x0).pending = x0.pending := Eq.trans rfl rfl
@[simp] theorem State.ctrRepairAll_inv (x0 : State) (h : x0.Inv) : (State.ctrRepairAll x0).Inv := by unfold State.ctrRepairAll; simp [*]
@[simp] theorem State.ctrInterrupt_pending (x0 : State) (x1 : Nat) (x2 : Nat) : (State.ctrInterrupt x0 x1 x2).pending = x0.pending := Eq.trans rfl rfl
@[simp] theorem State.ctrInterrupt_inv (x0 : State) (x1 : Nat) (x2 : Nat) (h : x0.Inv) : (State.ctrInterrupt x0 x1 x2).Inv := by unfold State.ctrInterrupt; simp [*]
@[simp] theorem State.setLane_pending (x0 : State) (x1 : Nat) (x2 : LaneSt) : (State.setLane x0 x1 x2).pending = x0.pending := Eq.trans rfl rfl
@[simp] theorem State.setLane_inv (x0 : State) (x1 : Nat) (x2 : LaneSt) (h : x0.Inv) : (State.setLane x0 x1 x2).Inv := by unfold State.setLane; simp [*]
@[simp] theorem State.modLane_pending (x0 : State) (x1 : Nat) (x2 : LaneSt → LaneSt) : (State.modLane x0 x1 x2).pending = x0.pending := Eq.trans rfl rfl
@[simp] theorem State.modLane_inv (x0 : State) (x1 : Nat) (x2 : LaneSt → LaneSt) (h : x0.Inv) : (State.modLane x0 x1 x2).Inv := by unfold State.modLane; simp [*]
@[simp] theorem State.setVc_pending (x0 : State) (x1 : Nat) (x2 : Nat) (x3 : VcState) : (State.setVc x0 x1 x2 x3).pending = x0.pending := Eq.trans rfl rfl
@[simp] theorem State.setVc_inv (x0 : State) (x1 : Nat) (x2 : Nat) (x3 : VcState) (h : x0.Inv) : (State.setVc x0 x1 x2 x3).Inv := by unfold State.setVc; simp [*]
@[simp] theorem State.pump_pending (x0 : State) (x1 : Nat) (x2 : Nat) : (State.pump x0 x1 x2).pending = x0.pending := by unfold State.pump; simp [*]
@[simp] theorem State.pump_inv (x0 : State) (x1 : Nat) (x2 : Nat) (h : x0.Inv) : (State.pump x0 x1 x2).Inv := by unfold State.pump; simp [*]
@[simp] theorem State.enqueue_pending (x0 : State) (x1 : Nat) (x2 : Nat) (x3 : TxPkt) : (State.enqueue x0 x1 x2 x3).pending = x0.pending := by unfold State.enqueue; simp [*]
@[simp] theorem State.enqueue_inv (x0 : State) (x1 : Nat) (x2 : Nat) (x3 : TxPkt) (h : x0.Inv) : (State.enqueue x0 x1 x2 x3).Inv := by unfold State.enqueue; simp [*]
@[simp] theorem State.sendCtrl_pending (x0 : State) (x1 : Lane) (x2 : Byte) (x3 : Nat) (x4 : BitVec 12) (x5 : BitVec 16) : (State.sendCtrl x0 x1 x2 x3 x4 x5).pending = x0.pending := Eq.trans rfl rfl
@[simp] theorem State.sendCtrl_inv (x0 : State) (x1 : Lane) (x2 : Byte) (x3 : Nat) (x4 : BitVec 12) (x5 : BitVec 16) (h : x0.Inv) : (State.sendCtrl x0 x1 x2 x3 x4 x5).Inv := by unfold State.sendCtrl; simp [*]
@[simp] theorem State.sendMgmt_pending (x0 : State) (x1 : Nat) (x2 : Byte) (x3 : Byte) (x4 : Bytes) : (State.sendMgmt x0 x1 x2 x3 x4).pending = x0.pending := by unfold State.sendMgmt; simp [*]
@[simp] theorem State.sendMgmt_inv (x0 : State) (x1 : Nat) (x2 : Byte) (x3 : Byte) (x4 : Bytes) (h : x0.Inv) : (State.sendMgmt x0 x1 x2 x3 x4).Inv := by unfold State.sendMgmt; simp [*]
@[simp] theorem State.setLnk_pending (x0 : State) (x1 : Nat) (x2 : LnkPage) : (State.setLnk x0 x1 x2).pending = x0.pending := Eq.trans rfl rfl
@[simp] theorem State.setLnk_inv (x0 : State) (x1 : Nat) (x2 : LnkPage) (h : x0.Inv) : (State.setLnk x0 x1 x2).Inv := by unfold State.setLnk; simp [*]
@[simp] theorem State.lnkComplete_pending (x0 : State) (x1 : Nat) (x2 : BitVec 5) : (State.lnkComplete x0 x1 x2).pending = x0.pending := by unfold State.lnkComplete; dsimp only; (repeat' split) <;> simp [*]
@[simp] theorem State.lnkComplete_inv (x0 : State) (x1 : Nat) (x2 : BitVec 5) (h : x0.Inv) : (State.lnkComplete x0 x1 x2).Inv := by unfold State.lnkComplete; dsimp only; (repeat' split) <;> simp (maxDischargeDepth := 60) [*]
@[simp] theorem State.lnkLost_pending (x0 : State) (x1 : Nat) (x2 : Bool) : (State.lnkLost x0 x1 x2).pending = x0.pending := by
  unfold State.lnkLost; exact pend_foldl (fun t e => by (repeat' split) <;> simp) _ _
@[simp] theorem State.lnkLost_inv (x0 : State) (x1 : Nat) (x2 : Bool) (h : x0.Inv) : (State.lnkLost x0 x1 x2).Inv := by
  unfold State.lnkLost; exact inv_foldl (fun t e ht => by (repeat' split) <;> simp [ht]) _ h
@[simp] theorem State.setTile_pending (x0 : State) (x1 : Nat) (x2 : Tile) : (State.setTile x0 x1 x2).pending = x0.pending := Eq.trans rfl rfl
@[simp] theorem State.setTile_inv (x0 : State) (x1 : Nat) (x2 : Tile) (h : x0.Inv) : (State.setTile x0 x1 x2).Inv := by unfold State.setTile; simp [*]
@[simp] theorem State.modTile_pending (x0 : State) (x1 : Nat) (x2 : Tile → Tile) : (State.modTile x0 x1 x2).pending = x0.pending := Eq.trans rfl rfl
@[simp] theorem State.modTile_inv (x0 : State) (x1 : Nat) (x2 : Tile → Tile) (h : x0.Inv) : (State.modTile x0 x1 x2).Inv := by unfold State.modTile; simp [*]
@[simp] theorem State.setChain_pending (x0 : State) (x1 : Nat) (x2 : Chain) : (State.setChain x0 x1 x2).pending = x0.pending := Eq.trans rfl rfl
@[simp] theorem State.setChain_inv (x0 : State) (x1 : Nat) (x2 : Chain) (h : x0.Inv) : (State.setChain x0 x1 x2).Inv := by unfold State.setChain; simp [*]
@[simp] theorem State.modChain_pending (x0 : State) (x1 : Nat) (x2 : Chain → Chain) : (State.modChain x0 x1 x2).pending = x0.pending := Eq.trans rfl rfl
@[simp] theorem State.modChain_inv (x0 : State) (x1 : Nat) (x2 : Chain → Chain) (h : x0.Inv) : (State.modChain x0 x1 x2).Inv := by unfold State.modChain; simp [*]
@[simp] theorem State.setLoop_pending (x0 : State) (x1 : Nat) (x2 : Loop) : (State.setLoop x0 x1 x2).pending = x0.pending := Eq.trans rfl rfl
@[simp] theorem State.setLoop_inv (x0 : State) (x1 : Nat) (x2 : Loop) (h : x0.Inv) : (State.setLoop x0 x1 x2).Inv := by unfold State.setLoop; simp [*]
@[simp] theorem State.tileChange_pending (x0 : State) (x1 : Nat) : (State.tileChange x0 x1).pending = x0.pending := Eq.trans rfl rfl
@[simp] theorem State.tileChange_inv (x0 : State) (x1 : Nat) (h : x0.Inv) : (State.tileChange x0 x1).Inv := by unfold State.tileChange; simp [*]
@[simp] theorem State.tileAlert_pending (x0 : State) (x1 : Nat) : (State.tileAlert x0 x1).pending = x0.pending := Eq.trans rfl rfl
@[simp] theorem State.tileAlert_inv (x0 : State) (x1 : Nat) (h : x0.Inv) : (State.tileAlert x0 x1).Inv := by unfold State.tileAlert; simp [*]
@[simp] theorem State.loopAnswered_pending (x0 : State) (x1 : Nat) (x2 : Nat) : (State.loopAnswered x0 x1 x2).pending = x0.pending := by unfold State.loopAnswered; simp [*]
@[simp] theorem State.loopAnswered_inv (x0 : State) (x1 : Nat) (x2 : Nat) (h : x0.Inv) : (State.loopAnswered x0 x1 x2).Inv := by unfold State.loopAnswered; simp [*]
@[simp] theorem State.markRecord_pending (x0 : State) (x1 : Nat) (x2 : Nat) (x3 : Byte → Byte) : (State.markRecord x0 x1 x2 x3).pending = x0.pending := by unfold State.markRecord; simp [*]
@[simp] theorem State.markRecord_inv (x0 : State) (x1 : Nat) (x2 : Nat) (x3 : Byte → Byte) (h : x0.Inv) : (State.markRecord x0 x1 x2 x3).Inv := by unfold State.markRecord; simp [*]
@[simp] theorem State.limitEnd_pending (x0 : State) (x1 : Nat) (x2 : Nat) : (State.limitEnd x0 x1 x2).pending = x0.pending := by unfold State.limitEnd; (repeat' split) <;> simp [*]
@[simp] theorem State.limitEnd_inv (x0 : State) (x1 : Nat) (x2 : Nat) (h : x0.Inv) : (State.limitEnd x0 x1 x2).Inv := by unfold State.limitEnd; (repeat' split) <;> simp [*]
@[simp] theorem State.authPump_pending (x0 : State) : (State.authPump x0).pending = x0.pending := by unfold State.authPump; simp [pend_foldl, *]
@[simp] theorem State.authPump_inv (x0 : State) (h : x0.Inv) : (State.authPump x0).Inv := by unfold State.authPump; simp (maxDischargeDepth := 60) (contextual := true) [inv_foldl, *]
@[simp] theorem State.tileEnd_pending (x0 : State) (x1 : Nat) (x2 : TState) (x3 : BitVec 4) : (State.tileEnd x0 x1 x2 x3).pending = x0.pending := by unfold State.tileEnd; dsimp only; (repeat' split) <;> simp [*]
@[simp] theorem State.tileEnd_inv (x0 : State) (x1 : Nat) (x2 : TState) (x3 : BitVec 4) (h : x0.Inv) : (State.tileEnd x0 x1 x2 x3).Inv := by unfold State.tileEnd; dsimp only; (repeat' split) <;> simp (maxDischargeDepth := 60) [*]
@[simp] theorem State.tileGone_pending (x0 : State) (x1 : Nat) : (State.tileGone x0 x1).pending = x0.pending := by unfold State.tileGone; (repeat' split) <;> simp [*]
@[simp] theorem State.tileGone_inv (x0 : State) (x1 : Nat) (h : x0.Inv) : (State.tileGone x0 x1).Inv := by unfold State.tileGone; (repeat' split) <;> simp (maxDischargeDepth := 60) [*]
@[simp] theorem State.chainGone_pending (x0 : State) (x1 : Nat) : (State.chainGone x0 x1).pending = x0.pending := by unfold State.chainGone; simp [pend_foldl, *]
@[simp] theorem State.chainGone_inv (x0 : State) (x1 : Nat) (h : x0.Inv) : (State.chainGone x0 x1).Inv := by unfold State.chainGone; simp (maxDischargeDepth := 60) (contextual := true) [inv_foldl, *]
@[simp] theorem State.limitsLost_pending (x0 : State) (x1 : Nat) : (State.limitsLost x0 x1).pending = x0.pending := by unfold State.limitsLost; simp [pend_foldl, *]
@[simp] theorem State.limitsLost_inv (x0 : State) (x1 : Nat) (h : x0.Inv) : (State.limitsLost x0 x1).Inv := by unfold State.limitsLost; simp (maxDischargeDepth := 60) (contextual := true) [inv_foldl, *]
@[simp] theorem State.dropAssemblies_pending (x0 : State) (x1 : Nat) : (State.dropAssemblies x0 x1).pending = x0.pending := Eq.trans rfl rfl
@[simp] theorem State.dropAssemblies_inv (x0 : State) (x1 : Nat) (h : x0.Inv) : (State.dropAssemblies x0 x1).Inv := by unfold State.dropAssemblies; simp [*]
@[simp] theorem State.leaveUp_pending (x0 : State) (x1 : Nat) : (State.leaveUp x0 x1).pending = x0.pending := by unfold State.leaveUp; simp [*]
@[simp] theorem State.leaveUp_inv (x0 : State) (x1 : Nat) (h : x0.Inv) : (State.leaveUp x0 x1).Inv := by unfold State.leaveUp; simp (maxDischargeDepth := 60) [*]
@[simp] theorem State.laneLost_pending (x0 : State) (x1 : Nat) : (State.laneLost x0 x1).pending = x0.pending := by unfold State.laneLost; simp [*]
@[simp] theorem State.laneLost_inv (x0 : State) (x1 : Nat) (h : x0.Inv) : (State.laneLost x0 x1).Inv := by unfold State.laneLost; simp (maxDischargeDepth := 60) [*]
@[simp] theorem State.laneTo_pending (x0 : State) (x1 : Nat) (x2 : LState) : (State.laneTo x0 x1 x2).pending = x0.pending := by unfold State.laneTo; simp [*]
@[simp] theorem State.laneTo_inv (x0 : State) (x1 : Nat) (x2 : LState) (h : x0.Inv) : (State.laneTo x0 x1 x2).Inv := by unfold State.laneTo; simp (maxDischargeDepth := 60) [*]
@[simp] theorem State.laneDown_pending (x0 : State) (x1 : Nat) : (State.laneDown x0 x1).pending = x0.pending := by unfold State.laneDown; simp [*]
@[simp] theorem State.laneDown_inv (x0 : State) (x1 : Nat) (h : x0.Inv) : (State.laneDown x0 x1).Inv := by unfold State.laneDown; simp [*]
@[simp] theorem State.allLanesDown_pending (x0 : State) : (State.allLanesDown x0).pending = x0.pending := by unfold State.allLanesDown; simp [pend_foldl, *]
@[simp] theorem State.allLanesDown_inv (x0 : State) (h : x0.Inv) : (State.allLanesDown x0).Inv := by unfold State.allLanesDown; simp (maxDischargeDepth := 60) (contextual := true) [inv_foldl, *]
@[simp] theorem State.nvmInterrupt_pending (x0 : State) : (State.nvmInterrupt x0).pending = x0.pending := by unfold State.nvmInterrupt; (repeat' split) <;> simp [*]
@[simp] theorem State.nvmInterrupt_inv (x0 : State) (h : x0.Inv) : (State.nvmInterrupt x0).Inv := by unfold State.nvmInterrupt; (repeat' split) <;> simp [*]
@[simp] theorem State.wipeInterrupt_pending (x0 : State) (x1 : Nat) : (State.wipeInterrupt x0 x1).pending = x0.pending := by unfold State.wipeInterrupt; simp [pend_foldl, *]
@[simp] theorem State.wipeInterrupt_inv (x0 : State) (x1 : Nat) (h : x0.Inv) : (State.wipeInterrupt x0 x1).Inv := by unfold State.wipeInterrupt; simp (maxDischargeDepth := 60) (contextual := true) [inv_foldl, *]
@[simp] theorem State.interruptFlash_pending (x0 : State) : (State.interruptFlash x0).pending = x0.pending := by unfold State.interruptFlash; simp [pend_foldl, *]
@[simp] theorem State.interruptFlash_inv (x0 : State) (h : x0.Inv) : (State.interruptFlash x0).Inv := by unfold State.interruptFlash; simp (maxDischargeDepth := 60) (contextual := true) [inv_foldl, *]
@[simp] theorem State.loseKeys_pending (x0 : State) : (State.loseKeys x0).pending = x0.pending := Eq.trans rfl rfl
@[simp] theorem State.loseKeys_inv (x0 : State) (h : x0.Inv) : (State.loseKeys x0).Inv := by unfold State.loseKeys; simp [*]
@[simp] theorem State.zeroVolatile_pending (x0 : State) : (State.zeroVolatile x0).pending = x0.pending := Eq.trans rfl rfl
@[simp] theorem State.zeroVolatile_inv (x0 : State) (h : x0.Inv) : (State.zeroVolatile x0).Inv := by unfold State.zeroVolatile; simp (maxDischargeDepth := 60) [*]
@[simp] theorem afterReset_pending (x0 : State) (x1 : Bool) : (afterReset x0 x1).pending = x0.pending := Eq.trans rfl rfl
@[simp] theorem afterReset_inv (x0 : State) (x1 : Bool) (h : x0.Inv) : (afterReset x0 x1).Inv := by unfold afterReset; (repeat' split) <;> simp [*]
@[simp] theorem State.bootStep1_pending (x0 : State) : (State.bootStep1 x0).pending = x0.pending := by unfold State.bootStep1; simp [*]
@[simp] theorem State.bootStep1_inv (x0 : State) (h : x0.Inv) : (State.bootStep1 x0).Inv := by unfold State.bootStep1; simp [*]
@[simp] theorem State.doReset_pending (x0 : State) (x1 : List RKind) (x2 : Bool) : (State.doReset x0 x1 x2).pending = x0.pending := by unfold State.doReset; simp [*]
@[simp] theorem State.doReset_inv (x0 : State) (x1 : List RKind) (x2 : Bool) (h : x0.Inv) : (State.doReset x0 x1 x2).Inv := by unfold State.doReset; simp (maxDischargeDepth := 60) [*]
@[simp] theorem State.windStep1_pending (x0 : State) : (State.windStep1 x0).pending = x0.pending := Eq.trans rfl rfl
@[simp] theorem State.windStep1_inv (x0 : State) (h : x0.Inv) : (State.windStep1 x0).Inv := by unfold State.windStep1; simp (maxDischargeDepth := 60) [*]
@[simp] theorem State.zeroSessions_pending (x0 : State) : (State.zeroSessions x0).pending = x0.pending := Eq.trans rfl rfl
@[simp] theorem State.zeroSessions_inv (x0 : State) (h : x0.Inv) : (State.zeroSessions x0).Inv := by unfold State.zeroSessions; simp [*]
@[simp] theorem State.sendDark_pending (x0 : State) : (State.sendDark x0).pending = x0.pending := by unfold State.sendDark; simp [pend_foldl, *]
@[simp] theorem State.sendDark_inv (x0 : State) (h : x0.Inv) : (State.sendDark x0).Inv := by unfold State.sendDark; simp (maxDischargeDepth := 60) (contextual := true) [inv_foldl, *]
@[simp] theorem State.enterPending_pending (x0 : State) (x1 : Bool) : (State.enterPending x0 x1).pending = x0.pending := by unfold State.enterPending; simp [*]
@[simp] theorem State.enterPending_inv (x0 : State) (x1 : Bool) (h : x0.Inv) : (State.enterPending x0 x1).Inv := by unfold State.enterPending; simp (maxDischargeDepth := 60) [*]
@[simp] theorem State.windEnd_pending (x0 : State) (x1 : WindDown) : (State.windEnd x0 x1).pending = x0.pending := by unfold State.windEnd; dsimp only; (repeat' split) <;> simp [*]
@[simp] theorem State.windEnd_inv (x0 : State) (x1 : WindDown) (h : x0.Inv) : (State.windEnd x0 x1).Inv := by unfold State.windEnd; dsimp only; (repeat' split) <;> simp [*]
@[simp] theorem State.startWind_pending (x0 : State) (x1 : WindDown) : (State.startWind x0 x1).pending = x0.pending := by unfold State.startWind; simp [*]
@[simp] theorem State.startWind_inv (x0 : State) (x1 : WindDown) (h : x0.Inv) : (State.startWind x0 x1).Inv := by unfold State.startWind; simp [*]
@[simp] theorem State.requestReset_pending (x0 : State) (x1 : RKind) (x2 : Bool) : (State.requestReset x0 x1 x2).pending = x0.pending := by unfold State.requestReset; (repeat' split) <;> simp [*]
@[simp] theorem State.requestReset_inv (x0 : State) (x1 : RKind) (x2 : Bool) (h : x0.Inv) : (State.requestReset x0 x1 x2).Inv := by unfold State.requestReset; (repeat' split) <;> simp [*]
@[simp] theorem State.wake_pending (x0 : State) : (State.wake x0).pending = x0.pending := by unfold State.wake; simp [*]
@[simp] theorem State.wake_inv (x0 : State) (h : x0.Inv) : (State.wake x0).Inv := by unfold State.wake; simp [*]
@[simp] theorem State.logEntry_pending (x0 : State) (x1 : Nat) (x2 : Nat) (x3 : Nat) (x4 : Nat) : (State.logEntry x0 x1 x2 x3 x4).pending = x0.pending := by unfold State.logEntry; simp [*]
@[simp] theorem State.logEntry_inv (x0 : State) (x1 : Nat) (x2 : Nat) (x3 : Nat) (x4 : Nat) (h : x0.Inv) : (State.logEntry x0 x1 x2 x3 x4).Inv := by unfold State.logEntry; simp [*]
@[simp] theorem State.logWrite_pending (x0 : State) (x1 : LogEntry) : (State.logWrite x0 x1).pending = x0.pending := Eq.trans rfl rfl
@[simp] theorem State.logWrite_inv (x0 : State) (x1 : LogEntry) (h : x0.Inv) : (State.logWrite x0 x1).Inv := by unfold State.logWrite; simp [*]
@[simp] theorem State.logWriteOne_pending (x0 : State) : (State.logWriteOne x0).pending = x0.pending := by unfold State.logWriteOne; (repeat' split) <;> simp [*]
@[simp] theorem State.logWriteOne_inv (x0 : State) (h : x0.Inv) : (State.logWriteOne x0).Inv := by unfold State.logWriteOne; (repeat' split) <;> simp [*]
@[simp] theorem State.logFlush_pending (x0 : State) : (State.logFlush x0).pending = x0.pending := by unfold State.logFlush; simp [pend_foldl, *]
@[simp] theorem State.logFlush_inv (x0 : State) (h : x0.Inv) : (State.logFlush x0).Inv := by unfold State.logFlush; simp (maxDischargeDepth := 60) (contextual := true) [inv_foldl, *]
@[simp] theorem State.startL3_pending (x0 : State) : (State.startL3 x0).pending = x0.pending := by unfold State.startL3; simp [*]
@[simp] theorem State.startL3_inv (x0 : State) (h : x0.Inv) : (State.startL3 x0).Inv := by unfold State.startL3; simp (maxDischargeDepth := 60) [*]
@[simp] theorem State.respond_pending (x0 : State) (x1 : Nat) (x2 : Bool) : (State.respond x0 x1 x2).pending = x0.pending := by unfold State.respond; (repeat' split) <;> simp [*]
@[simp] theorem State.respond_inv (x0 : State) (x1 : Nat) (x2 : Bool) (h : x0.Inv) : (State.respond x0 x1 x2).Inv := by unfold State.respond; (repeat' split) <;> simp [*]
@[simp] theorem State.tamperEvent_pending (x0 : State) (x1 : Nat) (x2 : Nat) (x3 : Nat) (x4 : Nat) (x5 : Bool) : (State.tamperEvent x0 x1 x2 x3 x4 x5).pending = x0.pending := by unfold State.tamperEvent; simp [*]
@[simp] theorem State.tamperEvent_inv (x0 : State) (x1 : Nat) (x2 : Nat) (x3 : Nat) (x4 : Nat) (x5 : Bool) (h : x0.Inv) : (State.tamperEvent x0 x1 x2 x3 x4 x5).Inv := by unfold State.tamperEvent; simp (maxDischargeDepth := 60) [*]
@[simp] theorem State.unhaltKs_pending (x0 : State) : (State.unhaltKs x0).pending = x0.pending := Eq.trans rfl rfl
@[simp] theorem State.unhaltKs_inv (x0 : State) (h : x0.Inv) : (State.unhaltKs x0).Inv := by unfold State.unhaltKs; simp [*]
@[simp] theorem State.endSession_pending (x0 : State) : (State.endSession x0).pending = x0.pending := by unfold State.endSession; simp [*]
@[simp] theorem State.endSession_inv (x0 : State) (h : x0.Inv) : (State.endSession x0).Inv := by unfold State.endSession; simp (maxDischargeDepth := 60) [*]
@[simp] theorem State.advanceEpoch_pending (x0 : State) : (State.advanceEpoch x0).pending = x0.pending := by unfold State.advanceEpoch; simp [*]
@[simp] theorem State.advanceEpoch_inv (x0 : State) (h : x0.Inv) : (State.advanceEpoch x0).Inv := by unfold State.advanceEpoch; simp [*]
@[simp] theorem State.setStale_pending (s : State) (n : Nat) (l : List (Nat × Word)) : (s.setStale n l).pending = s.pending := by unfold State.setStale; split <;> rfl
@[simp] theorem State.setStale_inv (s : State) (n : Nat) (l : List (Nat × Word)) (h : s.Inv) : (s.setStale n l).Inv := by unfold State.setStale; simp [h]
/-- Setting words that may still be fetched touches nothing else. -/
theorem State.setStale_eq (s : State) (n : Nat) (l : List (Nat × Word)) : ∃ x, s.setStale n l = { s with stale := x } := by
  unfold State.setStale; split
  · exact ⟨s.stale, rfl⟩
  · exact ⟨_, rfl⟩
theorem stale_foldl (f : State → Nat → Nat × List (Nat × Word)) (l : List Nat) (s : State) :
    ∃ x, l.foldl (fun u n => u.setStale (f u n).1 (f u n).2) s = { s with stale := x } := by
  induction l generalizing s with
  | nil => exact ⟨s.stale, rfl⟩
  | cons n l ih =>
    obtain ⟨x, hx⟩ := State.setStale_eq s (f s n).1 (f s n).2
    obtain ⟨y, hy⟩ := ih (s.setStale (f s n).1 (f s n).2)
    exact ⟨y, by rw [List.foldl_cons, hy, hx]⟩
/-- A store writes its bytes; beside them only the words that others may still fetch change. -/
theorem State.store_eq (s : State) (who : Option Ctx) (a : Nat) (bs : Bytes) : ∃ x, s.store who a bs = { s.wrBytes a bs with stale := x } :=
  stale_foldl (fun u n => (n, s.staleAfter (s.wrBytes a bs) (who == some (ctxOf n)) (wordsOf a bs.length) n (tget u.stale n []))) _ _
@[simp] theorem State.store_pending (s : State) (who : Option Ctx) (a : Nat) (bs : Bytes) : (s.store who a bs).pending = s.pending := by
  obtain ⟨x, h⟩ := State.store_eq s who a bs; rw [h]; rfl
@[simp] theorem State.store_inv (s : State) (who : Option Ctx) (a : Nat) (bs : Bytes) (h : s.Inv) : (s.store who a bs).Inv := by
  obtain ⟨x, e⟩ := State.store_eq s who a bs; rw [e]
  have hw := State.wrBytes_inv s a bs h
  simp [hw]
@[simp] theorem State.engineWrite_pending (x0 : State) (x1 : Ctx) (x2 : Nat) (x3 : Bytes) : (State.engineWrite x0 x1 x2 x3).pending = x0.pending := by unfold State.engineWrite; simp [*]
@[simp] theorem State.engineWrite_inv (x0 : State) (x1 : Ctx) (x2 : Nat) (x3 : Bytes) (h : x0.Inv) : (State.engineWrite x0 x1 x2 x3).Inv := by unfold State.engineWrite; simp [*]
@[simp] theorem State.evict_pending (x0 : State) (x1 : Nat → Bool) : (State.evict x0 x1).pending = x0.pending := Eq.trans rfl rfl
@[simp] theorem State.evict_inv (x0 : State) (x1 : Nat → Bool) (h : x0.Inv) : (State.evict x0 x1).Inv := by unfold State.evict; simp [*]
@[simp] theorem State.setPageIf_pending (x0 : State) (x1 : Nat) (x2 : PageIf) : (State.setPageIf x0 x1 x2).pending = x0.pending := by unfold State.setPageIf; simp [*]
@[simp] theorem State.setPageIf_inv (x0 : State) (x1 : Nat) (x2 : PageIf) (h : x0.Inv) : (State.setPageIf x0 x1 x2).Inv := by unfold State.setPageIf; simp [*]
@[simp] theorem State.requestVector_pending (x0 : State) (x1 : Nat) : (State.requestVector x0 x1).pending = x0.pending := by unfold State.requestVector; simp [*]
@[simp] theorem State.requestVector_inv (x0 : State) (x1 : Nat) (h : x0.Inv) : (State.requestVector x0 x1).Inv := by unfold State.requestVector; simp [*]
@[simp] theorem State.c2hStore_pending (x0 : State) (x1 : Nat) (x2 : Word) : (State.c2hStore x0 x1 x2).pending = x0.pending := by unfold State.c2hStore; simp [*]
@[simp] theorem State.c2hStore_inv (x0 : State) (x1 : Nat) (x2 : Word) (h : x0.Inv) : (State.c2hStore x0 x1 x2).Inv := by unfold State.c2hStore; simp [*]
@[simp] theorem State.hostEvent_pending (x0 : State) (x1 : BitVec 6) : (State.hostEvent x0 x1).pending = x0.pending := Eq.trans rfl rfl
@[simp] theorem State.hostEvent_inv (x0 : State) (x1 : BitVec 6) (h : x0.Inv) : (State.hostEvent x0 x1).Inv := by unfold State.hostEvent; simp [*]
@[simp] theorem State.h2cStore_pending (x0 : State) (x1 : Nat) (x2 : Word) : (State.h2cStore x0 x1 x2).pending = x0.pending := by unfold State.h2cStore; simp [*]
@[simp] theorem State.h2cStore_inv (x0 : State) (x1 : Nat) (x2 : Word) (h : x0.Inv) : (State.h2cStore x0 x1 x2).Inv := by unfold State.h2cStore; simp [*]
@[simp] theorem State.pageLoss_pending (x0 : State) (x1 : Nat) : (State.pageLoss x0 x1).pending = x0.pending := by unfold State.pageLoss; simp [*]
@[simp] theorem State.pageLoss_inv (x0 : State) (x1 : Nat) (h : x0.Inv) : (State.pageLoss x0 x1).Inv := by unfold State.pageLoss; simp [*]
@[simp] theorem State.lossLine_pending (x0 : State) (x1 : Nat) : (State.lossLine x0 x1).pending = x0.pending := by unfold State.lossLine; simp [*]
@[simp] theorem State.lossLine_inv (x0 : State) (x1 : Nat) (h : x0.Inv) : (State.lossLine x0 x1).Inv := by unfold State.lossLine; simp [*]
@[simp] theorem State.endpointReset_pending (x0 : State) (x1 : BitVec 6) : (State.endpointReset x0 x1).pending = x0.pending := by unfold State.endpointReset; simp [pend_foldl, *]
@[simp] theorem State.endpointReset_inv (x0 : State) (x1 : BitVec 6) (h : x0.Inv) : (State.endpointReset x0 x1).Inv := by unfold State.endpointReset; simp (maxDischargeDepth := 60) (contextual := true) [inv_foldl, *]
@[simp] theorem State.pcieDown_pending (x0 : State) : (State.pcieDown x0).pending = x0.pending := by unfold State.pcieDown; simp [*]
@[simp] theorem State.pcieDown_inv (x0 : State) (h : x0.Inv) : (State.pcieDown x0).Inv := by unfold State.pcieDown; simp [*]
@[simp] theorem State.setRegion_pending (x0 : State) (x1 : Nat) (x2 : Region) : (State.setRegion x0 x1 x2).pending = x0.pending := Eq.trans rfl rfl
@[simp] theorem State.setRegion_inv (x0 : State) (x1 : Nat) (x2 : Region) (h : x0.Inv) : (State.setRegion x0 x1 x2).Inv := by unfold State.setRegion; simp [*]
@[simp] theorem State.modRegion_pending (x0 : State) (x1 : Nat) (x2 : Region → Region) : (State.modRegion x0 x1 x2).pending = x0.pending := Eq.trans rfl rfl
@[simp] theorem State.modRegion_inv (x0 : State) (x1 : Nat) (x2 : Region → Region) (h : x0.Inv) : (State.modRegion x0 x1 x2).Inv := by unfold State.modRegion; simp [*]
@[simp] theorem State.ownerLine_pending (x0 : State) (x1 : Nat) : (State.ownerLine x0 x1).pending = x0.pending := by unfold State.ownerLine; simp [*]
@[simp] theorem State.ownerLine_inv (x0 : State) (x1 : Nat) (h : x0.Inv) : (State.ownerLine x0 x1).Inv := by unfold State.ownerLine; simp [*]
@[simp] theorem State.setFrm_pending (x0 : State) (x1 : Nat) (x2 : FrmPage) : (State.setFrm x0 x1 x2).pending = x0.pending := Eq.trans rfl rfl
@[simp] theorem State.setFrm_inv (x0 : State) (x1 : Nat) (x2 : FrmPage) (h : x0.Inv) : (State.setFrm x0 x1 x2).Inv := by unfold State.setFrm; simp [*]
@[simp] theorem State.frmFault_pending (x0 : State) (x1 : Nat) (x2 : BitVec 5) : (State.frmFault x0 x1 x2).pending = x0.pending := by unfold State.frmFault; simp [*]
@[simp] theorem State.frmFault_inv (x0 : State) (x1 : Nat) (x2 : BitVec 5) (h : x0.Inv) : (State.frmFault x0 x1 x2).Inv := by unfold State.frmFault; simp (maxDischargeDepth := 60) [*]
@[simp] theorem State.commitEnd_pending (x0 : State) (x1 : Nat) : (State.commitEnd x0 x1).pending = x0.pending := Eq.trans rfl rfl
@[simp] theorem State.commitEnd_inv (x0 : State) (x1 : Nat) (h : x0.Inv) : (State.commitEnd x0 x1).Inv := by unfold State.commitEnd; simp [*]
@[simp] theorem State.commitCounted_pending (x0 : State) (x1 : Nat) : (State.commitCounted x0 x1).pending = x0.pending := by unfold State.commitCounted; (repeat' split) <;> simp [*]
@[simp] theorem State.commitCounted_inv (x0 : State) (x1 : Nat) (h : x0.Inv) : (State.commitCounted x0 x1).Inv := by unfold State.commitCounted; (repeat' split) <;> simp [*]
@[simp] theorem State.commitStart_pending (x0 : State) (x1 : Nat) : (State.commitStart x0 x1).pending = x0.pending := by unfold State.commitStart; dsimp only; (repeat' split) <;> simp [*]
@[simp] theorem State.commitStart_inv (x0 : State) (x1 : Nat) (h : x0.Inv) : (State.commitStart x0 x1).Inv := by unfold State.commitStart; dsimp only; (repeat' split) <;> simp (maxDischargeDepth := 60) [*]
@[simp] theorem State.flushRegion_pending (x0 : State) (x1 : Nat) : (State.flushRegion x0 x1).pending = x0.pending := by unfold State.flushRegion; simp [*]
@[simp] theorem State.flushRegion_inv (x0 : State) (x1 : Nat) (h : x0.Inv) : (State.flushRegion x0 x1).Inv := by unfold State.flushRegion; simp [*]
@[simp] theorem State.enableCask_pending (x0 : State) (x1 : Nat) : (State.enableCask x0 x1).2.pending = x0.pending := by unfold State.enableCask; simp [*]
@[simp] theorem State.enableCask_inv (x0 : State) (x1 : Nat) (h : x0.Inv) : (State.enableCask x0 x1).2.Inv := by unfold State.enableCask; simp [*]
@[simp] theorem State.reEnable_pending (x0 : State) (x1 : Nat) : (State.reEnable x0 x1).2.pending = x0.pending := by unfold State.reEnable; simp [*]
@[simp] theorem State.reEnable_inv (x0 : State) (x1 : Nat) (h : x0.Inv) : (State.reEnable x0 x1).2.Inv := by unfold State.reEnable; simp (maxDischargeDepth := 60) [*]
@[simp] theorem State.drainPress_pending (x0 : State) (x1 : Nat) : (State.drainPress x0 x1).pending = x0.pending := Eq.trans rfl rfl
@[simp] theorem State.drainPress_inv (x0 : State) (x1 : Nat) (h : x0.Inv) : (State.drainPress x0 x1).Inv := by unfold State.drainPress; simp [*]
@[simp] theorem State.drainLat_pending (x0 : State) (x1 : Nat) : (State.drainLat x0 x1).pending = x0.pending := by unfold State.drainLat; dsimp only; (repeat' split) <;> simp [*]
@[simp] theorem State.drainLat_inv (x0 : State) (x1 : Nat) (h : x0.Inv) : (State.drainLat x0 x1).Inv := by unfold State.drainLat; dsimp only; (repeat' split) <;> simp [*]
@[simp] theorem State.drainServices_pending (x0 : State) (x1 : Nat) : (State.drainServices x0 x1).pending = x0.pending := Eq.trans rfl rfl
@[simp] theorem State.drainServices_inv (x0 : State) (x1 : Nat) (h : x0.Inv) : (State.drainServices x0 x1).Inv := by unfold State.drainServices; simp [*]
@[simp] theorem State.drainLinks_pending (x0 : State) (x1 : Nat) : (State.drainLinks x0 x1).pending = x0.pending := Eq.trans rfl rfl
@[simp] theorem State.drainLinks_inv (x0 : State) (x1 : Nat) (h : x0.Inv) : (State.drainLinks x0 x1).Inv := by unfold State.drainLinks; simp [*]
@[simp] theorem State.drainTiles_pending (x0 : State) (x1 : Nat) : (State.drainTiles x0 x1).pending = x0.pending := Eq.trans rfl rfl
@[simp] theorem State.drainTiles_inv (x0 : State) (x1 : Nat) (h : x0.Inv) : (State.drainTiles x0 x1).Inv := by unfold State.drainTiles; simp [*]
@[simp] theorem State.drainWall_pending (x0 : State) (x1 : Nat) : (State.drainWall x0 x1).pending = x0.pending := by unfold State.drainWall; simp [*]
@[simp] theorem State.drainWall_inv (x0 : State) (x1 : Nat) (h : x0.Inv) : (State.drainWall x0 x1).Inv := by unfold State.drainWall; simp [*]
@[simp] theorem State.drainPlays_pending (x0 : State) (x1 : Nat) : (State.drainPlays x0 x1).pending = x0.pending := by unfold State.drainPlays; simp [pend_foldl, *]
@[simp] theorem State.drainPlays_inv (x0 : State) (x1 : Nat) (h : x0.Inv) : (State.drainPlays x0 x1).Inv := by unfold State.drainPlays; simp (maxDischargeDepth := 60) (contextual := true) [inv_foldl, *]
@[simp] theorem State.startDrain_pending (x0 : State) (x1 : Nat) (x2 : DrainCmd) : (State.startDrain x0 x1 x2).pending = x0.pending := by unfold State.startDrain; simp [*]
@[simp] theorem State.startDrain_inv (x0 : State) (x1 : Nat) (x2 : DrainCmd) (h : x0.Inv) : (State.startDrain x0 x1 x2).Inv := by unfold State.startDrain; simp (maxDischargeDepth := 60) [*]
@[simp] theorem State.drained_pending (x0 : State) (x1 : Nat) : (State.drained x0 x1).pending = x0.pending := Eq.trans rfl rfl
@[simp] theorem State.drained_inv (x0 : State) (x1 : Nat) (h : x0.Inv) : (State.drained x0 x1).Inv := by unfold State.drained; simp [*]
@[simp] theorem State.zeroContext_pending (x0 : State) (x1 : Nat) : (State.zeroContext x0 x1).pending = x0.pending := by unfold State.zeroContext; simp [pend_foldl, *]
@[simp] theorem State.zeroContext_inv (x0 : State) (x1 : Nat) (h : x0.Inv) : (State.zeroContext x0 x1).Inv := by unfold State.zeroContext; simp (maxDischargeDepth := 60) (contextual := true) [inv_foldl, *]
@[simp] theorem State.zeroSeg_pending (x0 : State) (x1 : Seg) : (State.zeroSeg x0 x1).pending = x0.pending := by unfold State.zeroSeg; simp [*]
@[simp] theorem State.zeroSeg_inv (x0 : State) (x1 : Seg) (h : x0.Inv) : (State.zeroSeg x0 x1).Inv := by unfold State.zeroSeg; simp [*]
@[simp] theorem State.wipeMemory_pending (x0 : State) (x1 : Nat) : (State.wipeMemory x0 x1).pending = x0.pending := by unfold State.wipeMemory; simp [pend_foldl, *]
@[simp] theorem State.wipeMemory_inv (x0 : State) (x1 : Nat) (h : x0.Inv) : (State.wipeMemory x0 x1).Inv := by unfold State.wipeMemory; simp (maxDischargeDepth := 60) (contextual := true) [inv_foldl, *]
@[simp] theorem State.startWipe_pending (x0 : State) (x1 : Nat) : (State.startWipe x0 x1).pending = x0.pending := by unfold State.startWipe; simp [*]
@[simp] theorem State.startWipe_inv (x0 : State) (x1 : Nat) (h : x0.Inv) : (State.startWipe x0 x1).Inv := by unfold State.startWipe; simp [*]
@[simp] theorem State.caskResult_pending (x0 : State) (x1 : Nat) : (State.caskResult x0 x1).pending = x0.pending := Eq.trans rfl rfl
@[simp] theorem State.caskResult_inv (x0 : State) (x1 : Nat) (h : x0.Inv) : (State.caskResult x0 x1).Inv := by unfold State.caskResult; simp [*]
@[simp] theorem State.caskDrain_pending (x0 : State) (x1 : Nat) (x2 : DrainCmd) : (State.caskDrain x0 x1 x2).pending = x0.pending := by unfold State.caskDrain; simp [*]
@[simp] theorem State.caskDrain_inv (x0 : State) (x1 : Nat) (x2 : DrainCmd) (h : x0.Inv) : (State.caskDrain x0 x1 x2).Inv := by unfold State.caskDrain; simp [*]
@[simp] theorem State.caskCommand_pending (x0 : State) (x1 : BitVec 4) : (State.caskCommand x0 x1).pending = x0.pending := by unfold State.caskCommand; dsimp only; (repeat' split) <;> simp [*]
@[simp] theorem State.caskCommand_inv (x0 : State) (x1 : BitVec 4) (h : x0.Inv) : (State.caskCommand x0 x1).Inv := by unfold State.caskCommand; dsimp only; (repeat' split) <;> simp [*]
@[simp] theorem State.endDrain_pending (x0 : State) (x1 : Nat) (x2 : DrainCmd) : (State.endDrain x0 x1 x2).pending = x0.pending := by unfold State.endDrain; (repeat' split) <;> simp [*]
@[simp] theorem State.endDrain_inv (x0 : State) (x1 : Nat) (x2 : DrainCmd) (h : x0.Inv) : (State.endDrain x0 x1 x2).Inv := by unfold State.endDrain; (repeat' split) <;> simp (maxDischargeDepth := 60) [*]
@[simp] theorem State.caskWinWrite_pending (x0 : State) (x1 : Nat) (x2 : Word) : (State.caskWinWrite x0 x1 x2).pending = x0.pending := by unfold State.caskWinWrite; simp [*]
@[simp] theorem State.caskWinWrite_inv (x0 : State) (x1 : Nat) (x2 : Word) (h : x0.Inv) : (State.caskWinWrite x0 x1 x2).Inv := by unfold State.caskWinWrite; simp [*]
@[simp] theorem State.caskCtlWrite_pending (x0 : State) (x1 : Nat) (x2 : Word) : (State.caskCtlWrite x0 x1 x2).pending = x0.pending := by unfold State.caskCtlWrite; simp [*]
@[simp] theorem State.caskCtlWrite_inv (x0 : State) (x1 : Nat) (x2 : Word) (h : x0.Inv) : (State.caskCtlWrite x0 x1 x2).Inv := by unfold State.caskCtlWrite; simp [*]
@[simp] theorem State.tapLoad_pending (x0 : State) (x1 : Byte) (x2 : Nat) (x3 : Nat) : (State.tapLoad x0 x1 x2 x3).pending = x0.pending := Eq.trans rfl rfl
@[simp] theorem State.tapLoad_inv (x0 : State) (x1 : Byte) (x2 : Nat) (x3 : Nat) (h : x0.Inv) : (State.tapLoad x0 x1 x2 x3).Inv := by unfold State.tapLoad; simp [*]
@[simp] theorem State.lcStatusIs_pending (x0 : State) (x1 : LcStatus) : (State.lcStatusIs x0 x1).pending = x0.pending := Eq.trans rfl rfl
@[simp] theorem State.lcStatusIs_inv (x0 : State) (x1 : LcStatus) (h : x0.Inv) : (State.lcStatusIs x0 x1).Inv := by unfold State.lcStatusIs; simp [*]
@[simp] theorem State.lcRequest_pending (x0 : State) (x1 : Bool) (x2 : State → State) (hf : ∀ t, (x2 t).pending = t.pending) : (State.lcRequest x0 x1 x2).pending = x0.pending := by unfold State.lcRequest; simp [*]
@[simp] theorem State.lcRequest_inv (x0 : State) (x1 : Bool) (x2 : State → State) (hf : ∀ t, t.Inv → (x2 t).Inv) (h : x0.Inv) : (State.lcRequest x0 x1 x2).Inv := by unfold State.lcRequest; simp [*]
@[simp] theorem State.lcTap_pending (x0 : State) (x1 : Byte) (x2 : Nat) (x3 : Bool) (x4 : State → State) (hf : ∀ t, (x4 t).pending = t.pending) : (State.lcTap x0 x1 x2 x3 x4).pending = x0.pending := by unfold State.lcTap; simp [*]
@[simp] theorem State.lcTap_inv (x0 : State) (x1 : Byte) (x2 : Nat) (x3 : Bool) (x4 : State → State) (hf : ∀ t, t.Inv → (x4 t).Inv) (h : x0.Inv) : (State.lcTap x0 x1 x2 x3 x4).Inv := by unfold State.lcTap; simp (maxDischargeDepth := 60) (contextual := true) [*]
@[simp] theorem State.lcCommit_pending (x0 : State) (x1 : Lcs) : (State.lcCommit x0 x1).pending = x0.pending := by unfold State.lcCommit; simp [*]
@[simp] theorem State.lcCommit_inv (x0 : State) (x1 : Lcs) (h : x0.Inv) : (State.lcCommit x0 x1).Inv := by unfold State.lcCommit; simp [*]
@[simp] theorem State.stopContexts_pending (x0 : State) : (State.stopContexts x0).pending = x0.pending := by unfold State.stopContexts; simp [*]
@[simp] theorem State.stopContexts_inv (x0 : State) (h : x0.Inv) : (State.stopContexts x0).Inv := by unfold State.stopContexts; simp (maxDischargeDepth := 60) [*]
@[simp] theorem State.certResultIs_pending (x0 : State) (x1 : Nat) : (State.certResultIs x0 x1).pending = x0.pending := Eq.trans rfl rfl
@[simp] theorem State.certResultIs_inv (x0 : State) (x1 : Nat) (h : x0.Inv) : (State.certResultIs x0 x1).Inv := by unfold State.certResultIs; simp [*]
@[simp] theorem State.presentCert_pending (x0 : State) (x1 : Bytes) (x2 : Bool) : (State.presentCert x0 x1 x2).pending = x0.pending := by unfold State.presentCert; simp [*]
@[simp] theorem State.presentCert_inv (x0 : State) (x1 : Bytes) (x2 : Bool) (h : x0.Inv) : (State.presentCert x0 x1 x2).Inv := by unfold State.presentCert; simp [*]
@[simp] theorem State.acceptCert_pending (x0 : State) (x1 : Bytes) : (State.acceptCert x0 x1).pending = x0.pending := by unfold State.acceptCert; simp [*]
@[simp] theorem State.acceptCert_inv (x0 : State) (x1 : Bytes) (h : x0.Inv) : (State.acceptCert x0 x1).Inv := by unfold State.acceptCert; simp (maxDischargeDepth := 60) [*]
@[simp] theorem State.dbgAdvance_pending (x0 : State) : (State.dbgAdvance x0).pending = x0.pending := by unfold State.dbgAdvance; simp [*]
@[simp] theorem State.dbgAdvance_inv (x0 : State) (h : x0.Inv) : (State.dbgAdvance x0).Inv := by unfold State.dbgAdvance; simp [*]
@[simp] theorem State.dbgPresent_pending (x0 : State) : (State.dbgPresent x0).pending = x0.pending := by unfold State.dbgPresent; simp [*]
@[simp] theorem State.dbgPresent_inv (x0 : State) (h : x0.Inv) : (State.dbgPresent x0).Inv := by unfold State.dbgPresent; simp [*]
@[simp] theorem State.lcsCmd_pending (x0 : State) (x1 : BitVec 4) : (State.lcsCmd x0 x1).pending = x0.pending := by unfold State.lcsCmd; simp [*]
@[simp] theorem State.lcsCmd_inv (x0 : State) (x1 : BitVec 4) (h : x0.Inv) : (State.lcsCmd x0 x1).Inv := by unfold State.lcsCmd; simp (maxDischargeDepth := 60) (contextual := true) [*]
@[simp] theorem State.eraseChunk_pending (x0 : State) (x1 : Nat) : (State.eraseChunk x0 x1).pending = x0.pending := by unfold State.eraseChunk; simp [*]
@[simp] theorem State.eraseChunk_inv (x0 : State) (x1 : Nat) (h : x0.Inv) : (State.eraseChunk x0 x1).Inv := by unfold State.eraseChunk; simp [*]
@[simp] theorem State.commitWipe_pending (x0 : State) : (State.commitWipe x0).pending = x0.pending := by unfold State.commitWipe; simp [*]
@[simp] theorem State.commitWipe_inv (x0 : State) (h : x0.Inv) : (State.commitWipe x0).Inv := by unfold State.commitWipe; simp [*]
@[simp] theorem State.beginLeave_pending (x0 : State) (x1 : Nat) : (State.beginLeave x0 x1).pending = x0.pending := Eq.trans rfl rfl
@[simp] theorem State.beginLeave_inv (x0 : State) (x1 : Nat) (h : x0.Inv) : (State.beginLeave x0 x1).Inv := by unfold State.beginLeave; simp [*]
@[simp] theorem State.leaveIfWanted_pending (x0 : State) (x1 : Nat) : (State.leaveIfWanted x0 x1).pending = x0.pending := by unfold State.leaveIfWanted; simp [*]
@[simp] theorem State.leaveIfWanted_inv (x0 : State) (x1 : Nat) (h : x0.Inv) : (State.leaveIfWanted x0 x1).Inv := by unfold State.leaveIfWanted; simp [*]
@[simp] theorem State.endSlice_pending (x0 : State) (x1 : Nat) : (State.endSlice x0 x1).pending = x0.pending := by unfold State.endSlice; dsimp only; (repeat' split) <;> simp [*]
@[simp] theorem State.endSlice_inv (x0 : State) (x1 : Nat) (h : x0.Inv) : (State.endSlice x0 x1).Inv := by unfold State.endSlice; dsimp only; (repeat' split) <;> simp [*]
@[simp] theorem State.swapOut_pending (x0 : State) (x1 : Nat) : (State.swapOut x0 x1).pending = x0.pending := Eq.trans rfl rfl
@[simp] theorem State.swapOut_inv (x0 : State) (x1 : Nat) (h : x0.Inv) : (State.swapOut x0 x1).Inv := by unfold State.swapOut; simp [*]
@[simp] theorem State.setCry_pending (x0 : State) (x1 : Nat) (x2 : PressPage) : (State.setCry x0 x1 x2).pending = x0.pending := Eq.trans rfl rfl
@[simp] theorem State.setCry_inv (x0 : State) (x1 : Nat) (x2 : PressPage) (h : x0.Inv) : (State.setCry x0 x1 x2).Inv := by unfold State.setCry; simp [*]
@[simp] theorem State.setCryJob_pending (x0 : State) (x1 : Nat) (x2 : PressJob) : (State.setCryJob x0 x1 x2).pending = x0.pending := Eq.trans rfl rfl
@[simp] theorem State.setCryJob_inv (x0 : State) (x1 : Nat) (x2 : PressJob) (h : x0.Inv) : (State.setCryJob x0 x1 x2).Inv := by unfold State.setCryJob; simp [*]
@[simp] theorem State.setPipe_pending (x0 : State) (x1 : Nat) (x2 : Pipe) : (State.setPipe x0 x1 x2).pending = x0.pending := Eq.trans rfl rfl
@[simp] theorem State.setPipe_inv (x0 : State) (x1 : Nat) (x2 : Pipe) (h : x0.Inv) : (State.setPipe x0 x1 x2).Inv := by unfold State.setPipe; simp [*]
@[simp] theorem State.cryBegin_pending (x0 : State) (x1 : Nat) (x2 : PressJob) : (State.cryBegin x0 x1 x2).pending = x0.pending := by unfold State.cryBegin; simp [*]
@[simp] theorem State.cryBegin_inv (x0 : State) (x1 : Nat) (x2 : PressJob) (h : x0.Inv) : (State.cryBegin x0 x1 x2).Inv := by unfold State.cryBegin; simp [*]
@[simp] theorem State.crySuspend_pending (x0 : State) (x1 : Nat) (x2 : Nat) : (State.crySuspend x0 x1 x2).pending = x0.pending := by unfold State.crySuspend; (repeat' split) <;> simp [*]
@[simp] theorem State.crySuspend_inv (x0 : State) (x1 : Nat) (x2 : Nat) (h : x0.Inv) : (State.crySuspend x0 x1 x2).Inv := by unfold State.crySuspend; (repeat' split) <;> simp (maxDischargeDepth := 60) [*]
@[simp] theorem State.segTakes_pending (x0 : State) (x1 : Nat) (x2 : Fin 16) : (State.segTakes x0 x1 x2).pending = x0.pending := Eq.trans rfl rfl
@[simp] theorem State.segTakes_inv (x0 : State) (x1 : Nat) (x2 : Fin 16) (h : x0.Inv) : (State.segTakes x0 x1 x2).Inv := by unfold State.segTakes; simp [*]
@[simp] theorem State.framePreempt_pending (x0 : State) : (State.framePreempt x0).pending = x0.pending := by unfold State.framePreempt; dsimp only; (repeat' split) <;> simp [*]
@[simp] theorem State.framePreempt_inv (x0 : State) (h : x0.Inv) : (State.framePreempt x0).Inv := by unfold State.framePreempt; dsimp only; (repeat' split) <;> simp (maxDischargeDepth := 60) [*]
@[simp] theorem State.framePump_pending (x0 : Nat) (x1 : State) : (State.framePump x0 x1).pending = x1.pending := by
  induction x0 generalizing x1 with
  | zero => rfl
  | succ k ih => unfold State.framePump; dsimp only; (repeat' split) <;> simp [ih]
@[simp] theorem State.framePump_inv (x0 : Nat) (x1 : State) (h : x1.Inv) : (State.framePump x0 x1).Inv := by
  induction x0 generalizing x1 with
  | zero => exact h
  | succ k ih => unfold State.framePump; dsimp only; (repeat' split) <;> (try apply ih) <;> simp (maxDischargeDepth := 60) [h]
theorem pressPick_keeps {s t : State} {n : Nat} (h : s.pressPick = some (n, t)) : t.pending = s.pending ∧ (s.Inv → t.Inv) := by
  unfold State.pressPick at h
  dsimp only at h
  obtain ⟨r, -, hr⟩ := Option.map_eq_some_iff.mp h
  obtain ⟨-, rfl⟩ := Prod.mk.inj hr
  exact ⟨rfl, fun hs => by simp [hs]⟩
@[simp] theorem State.pressPump_pending (x0 : Nat) (x1 : State) : (State.pressPump x0 x1).pending = x1.pending := by
  induction x0 generalizing x1 with
  | zero => rfl
  | succ k ih =>
    unfold State.pressPump
    split
    · rfl
    · next hp => (repeat' split) <;> simp [ih, pressPick_keeps hp]
@[simp] theorem State.pressPump_inv (x0 : Nat) (x1 : State) (h : x1.Inv) : (State.pressPump x0 x1).Inv := by
  induction x0 generalizing x1 with
  | zero => exact h
  | succ k ih =>
    unfold State.pressPump
    split
    · exact h
    · next hp =>
      have h1 := (pressPick_keeps hp).2 h
      have h2 := State.drawNat_inv _ h1
      (repeat' split) <;> (try apply ih) <;> simp [h, h2]
@[simp] theorem State.pressGo_pending (x0 : State) : (State.pressGo x0).pending = x0.pending := by unfold State.pressGo; simp [*]
@[simp] theorem State.pressGo_inv (x0 : State) (h : x0.Inv) : (State.pressGo x0).Inv := by unfold State.pressGo; simp [*]
@[simp] theorem State.cryStage_pending (x0 : State) (x1 : Nat) (x2 : PressJob) : (State.cryStage x0 x1 x2).pending = x0.pending := by unfold State.cryStage; (repeat' split) <;> simp [*]
@[simp] theorem State.cryStage_inv (x0 : State) (x1 : Nat) (x2 : PressJob) (h : x0.Inv) : (State.cryStage x0 x1 x2).Inv := by unfold State.cryStage; (repeat' split) <;> simp (maxDischargeDepth := 60) [*]
@[simp] theorem State.cryUseInc_pending (x0 : State) (x1 : Nat) (x2 : PressJob) (x3 : Dword) (x4 : BitVec 16) : (State.cryUseInc x0 x1 x2 x3 x4).pending = x0.pending := by unfold State.cryUseInc; simp [*]
@[simp] theorem State.cryUseInc_inv (x0 : State) (x1 : Nat) (x2 : PressJob) (x3 : Dword) (x4 : BitVec 16) (h : x0.Inv) : (State.cryUseInc x0 x1 x2 x3 x4).Inv := by unfold State.cryUseInc; simp [*]
@[simp] theorem State.cryNonce_pending (x0 : State) (x1 : Nat) (x2 : PressJob) : (State.cryNonce x0 x1 x2).pending = x0.pending := by unfold State.cryNonce; dsimp only; (repeat' split) <;> simp [*]
@[simp] theorem State.cryNonce_inv (x0 : State) (x1 : Nat) (x2 : PressJob) (h : x0.Inv) : (State.cryNonce x0 x1 x2).Inv := by unfold State.cryNonce; dsimp only; (repeat' split) <;> simp (maxDischargeDepth := 60) [*]
@[simp] theorem State.cryGo_pending (x0 : State) (x1 : Ctx) : (State.cryGo x0 x1).pending = x0.pending := by unfold State.cryGo; dsimp only; (repeat' split) <;> simp [*]
@[simp] theorem State.cryGo_inv (x0 : State) (x1 : Ctx) (h : x0.Inv) : (State.cryGo x0 x1).Inv := by unfold State.cryGo; dsimp only; (repeat' split) <;> simp (maxDischargeDepth := 60) [*]
@[simp] theorem State.cryRelease_pending (x0 : State) (x1 : Nat) : (State.cryRelease x0 x1).pending = x0.pending := Eq.trans rfl rfl
@[simp] theorem State.cryRelease_inv (x0 : State) (x1 : Nat) (h : x0.Inv) : (State.cryRelease x0 x1).Inv := by unfold State.cryRelease; simp [*]
@[simp] theorem State.cryStop_pending (x0 : State) (x1 : Nat) (x2 : BitVec 5) : (State.cryStop x0 x1 x2).pending = x0.pending := by unfold State.cryStop; (repeat' split) <;> simp [*]
@[simp] theorem State.cryStop_inv (x0 : State) (x1 : Nat) (x2 : BitVec 5) (h : x0.Inv) : (State.cryStop x0 x1 x2).Inv := by unfold State.cryStop; (repeat' split) <;> simp (maxDischargeDepth := 60) [*]
@[simp] theorem State.pressKeyGone_pending (x0 : State) (x1 : Nat) (x2 : Nat) : (State.pressKeyGone x0 x1 x2).pending = x0.pending := by unfold State.pressKeyGone; (repeat' split) <;> simp [*]
@[simp] theorem State.pressKeyGone_inv (x0 : State) (x1 : Nat) (x2 : Nat) (h : x0.Inv) : (State.pressKeyGone x0 x1 x2).Inv := by unfold State.pressKeyGone; (repeat' split) <;> simp [*]
@[simp] theorem State.cryCancel_pending (x0 : State) (x1 : Ctx) : (State.cryCancel x0 x1).pending = x0.pending := by unfold State.cryCancel; simp [*]
@[simp] theorem State.cryCancel_inv (x0 : State) (x1 : Ctx) (h : x0.Inv) : (State.cryCancel x0 x1).Inv := by unfold State.cryCancel; simp [*]
@[simp] theorem State.cryComplete_pending (x0 : State) (x1 : Nat) (x2 : PressJob) (x3 : BitVec 5) (x4 : Nat) : (State.cryComplete x0 x1 x2 x3 x4).pending = x0.pending := by unfold State.cryComplete; simp [*]
@[simp] theorem State.cryComplete_inv (x0 : State) (x1 : Nat) (x2 : PressJob) (x3 : BitVec 5) (x4 : Nat) (h : x0.Inv) : (State.cryComplete x0 x1 x2 x3 x4).Inv := by unfold State.cryComplete; simp (maxDischargeDepth := 60) [*]
@[simp] theorem State.cryFinish_pending (x0 : State) (x1 : Nat) (x2 : PressJob) : (State.cryFinish x0 x1 x2).pending = x0.pending := by unfold State.cryFinish; (repeat' split) <;> simp [*]
@[simp] theorem State.cryFinish_inv (x0 : State) (x1 : Nat) (x2 : PressJob) (h : x0.Inv) : (State.cryFinish x0 x1 x2).Inv := by unfold State.cryFinish; (repeat' split) <;> simp (maxDischargeDepth := 60) [*]
@[simp] theorem State.pipeFault_pending (x0 : State) (x1 : Nat) : (State.pipeFault x0 x1).pending = x0.pending := Eq.trans rfl rfl
@[simp] theorem State.pipeFault_inv (x0 : State) (x1 : Nat) (h : x0.Inv) : (State.pipeFault x0 x1).Inv := by unfold State.pipeFault; simp [*]
@[simp] theorem State.setLat_pending (x0 : State) (x1 : Nat) (x2 : LatPage) : (State.setLat x0 x1 x2).pending = x0.pending := Eq.trans rfl rfl
@[simp] theorem State.setLat_inv (x0 : State) (x1 : Nat) (x2 : LatPage) (h : x0.Inv) : (State.setLat x0 x1 x2).Inv := by unfold State.setLat; simp [*]
@[simp] theorem State.setLatJob_pending (x0 : State) (x1 : Nat) (x2 : LatJob) : (State.setLatJob x0 x1 x2).pending = x0.pending := Eq.trans rfl rfl
@[simp] theorem State.setLatJob_inv (x0 : State) (x1 : Nat) (x2 : LatJob) (h : x0.Inv) : (State.setLatJob x0 x1 x2).Inv := by unfold State.setLatJob; simp [*]
@[simp] theorem State.freeObj_pending (x0 : State) (x1 : Nat) : (State.freeObj x0 x1).pending = x0.pending := by unfold State.freeObj; (repeat' split) <;> simp [pend_foldl, *]
@[simp] theorem State.freeObj_inv (x0 : State) (x1 : Nat) (h : x0.Inv) : (State.freeObj x0 x1).Inv := by unfold State.freeObj; (repeat' split) <;> simp (maxDischargeDepth := 60) (contextual := true) [inv_foldl, *]
@[simp] theorem State.storeBody_pending (x0 : State) (x1 : Bytes) : (State.storeBody x0 x1).2.pending = x0.pending := by unfold State.storeBody; simp [pend_foldl, *]
@[simp] theorem State.storeBody_inv (x0 : State) (x1 : Bytes) (h : x0.Inv) : (State.storeBody x0 x1).2.Inv := by unfold State.storeBody; simp (maxDischargeDepth := 60) (contextual := true) [inv_foldl, *]
@[simp] theorem State.setLaneRec_pending (x0 : State) (x1 : Nat) (x2 : LatLane) : (State.setLaneRec x0 x1 x2).pending = x0.pending := Eq.trans rfl rfl
@[simp] theorem State.setLaneRec_inv (x0 : State) (x1 : Nat) (x2 : LatLane) (h : x0.Inv) : (State.setLaneRec x0 x1 x2).Inv := by unfold State.setLaneRec; simp [*]
@[simp] theorem State.takeLane_pending (x0 : State) (x1 : Nat) (x2 : Fin 8) (x3 : Tab Nat) : (State.takeLane x0 x1 x2 x3).pending = x0.pending := by unfold State.takeLane; (repeat' split) <;> simp [*]
@[simp] theorem State.takeLane_inv (x0 : State) (x1 : Nat) (x2 : Fin 8) (x3 : Tab Nat) (h : x0.Inv) : (State.takeLane x0 x1 x2 x3).Inv := by unfold State.takeLane; (repeat' split) <;> simp [*]
@[simp] theorem State.latPump_pending (x0 : Nat) (x1 : State) : (State.latPump x0 x1).pending = x1.pending := by
  induction x0 generalizing x1 with
  | zero => rfl
  | succ k ih => unfold State.latPump; dsimp only; (repeat' split) <;> simp [ih]
@[simp] theorem State.latPump_inv (x0 : Nat) (x1 : State) (h : x1.Inv) : (State.latPump x0 x1).Inv := by
  induction x0 generalizing x1 with
  | zero => exact h
  | succ k ih => unfold State.latPump; dsimp only; (repeat' split) <;> (try apply ih) <;> simp (maxDischargeDepth := 60) [h]
@[simp] theorem State.latGoOn_pending (x0 : State) : (State.latGoOn x0).pending = x0.pending := by unfold State.latGoOn; simp [*]
@[simp] theorem State.latGoOn_inv (x0 : State) (h : x0.Inv) : (State.latGoOn x0).Inv := by unfold State.latGoOn; simp [*]
@[simp] theorem State.vbatRespond_pending (x0 : State) (x1 : VbatLatch) (x2 : Nat) (x3 : Bool) : (State.vbatRespond x0 x1 x2 x3).pending = x0.pending := by unfold State.vbatRespond; simp [*]
@[simp] theorem State.vbatRespond_inv (x0 : State) (x1 : VbatLatch) (x2 : Nat) (x3 : Bool) (h : x0.Inv) : (State.vbatRespond x0 x1 x2 x3).Inv := by unfold State.vbatRespond; simp [*]
@[simp] theorem State.bootLatches_pending (x0 : State) : (State.bootLatches x0).pending = x0.pending := by unfold State.bootLatches; simp [*]
@[simp] theorem State.bootLatches_inv (x0 : State) (h : x0.Inv) : (State.bootLatches x0).Inv := by unfold State.bootLatches; simp (maxDischargeDepth := 60) [*]
@[simp] theorem State.bootJournal_pending (x0 : State) : (State.bootJournal x0).pending = x0.pending := by unfold State.bootJournal; simp [pend_foldl, *]
@[simp] theorem State.bootJournal_inv (x0 : State) (h : x0.Inv) : (State.bootJournal x0).Inv := by unfold State.bootJournal; simp (maxDischargeDepth := 60) (contextual := true) [inv_foldl, *]
@[simp] theorem State.bootNvm_pending (x0 : State) : (State.bootNvm x0).pending = x0.pending := by unfold State.bootNvm; dsimp only; (repeat' split) <;> simp [*]
@[simp] theorem State.bootNvm_inv (x0 : State) (h : x0.Inv) : (State.bootNvm x0).Inv := by unfold State.bootNvm; dsimp only; (repeat' split) <;> simp (maxDischargeDepth := 60) [*]
@[simp] theorem State.bootKeys_pending (x0 : State) (x1 : Bool) (x2 : Bool) : (State.bootKeys x0 x1 x2).pending = x0.pending := by unfold State.bootKeys; simp [*]
@[simp] theorem State.bootKeys_inv (x0 : State) (x1 : Bool) (x2 : Bool) (h : x0.Inv) : (State.bootKeys x0 x1 x2).Inv := by unfold State.bootKeys; (repeat' split) <;> simp [*]
@[simp] theorem State.startKeystone_pending (x0 : State) (x1 : Word) : (State.startKeystone x0 x1).pending = x0.pending := Eq.trans rfl rfl
@[simp] theorem State.startKeystone_inv (x0 : State) (x1 : Word) (h : x0.Inv) : (State.startKeystone x0 x1).Inv := by unfold State.startKeystone; simp [*]
@[simp] theorem State.bootImage_pending (x0 : State) : (State.bootImage x0).pending = x0.pending := by unfold State.bootImage; simp [*]
@[simp] theorem State.bootImage_inv (x0 : State) (h : x0.Inv) : (State.bootImage x0).Inv := by unfold State.bootImage; simp [*]
@[simp] theorem State.bootBranch_pending (x0 : State) : (State.bootBranch x0).pending = x0.pending := by unfold State.bootBranch; dsimp only; (repeat' split) <;> simp [*]
@[simp] theorem State.bootBranch_inv (x0 : State) (h : x0.Inv) : (State.bootBranch x0).Inv := by unfold State.bootBranch; dsimp only; (repeat' split) <;> simp [*]
@[simp] theorem State.holdExit_pending (x0 : State) : (State.holdExit x0).pending = x0.pending := by unfold State.holdExit; simp [*]
@[simp] theorem State.holdExit_inv (x0 : State) (h : x0.Inv) : (State.holdExit x0).Inv := by unfold State.holdExit; simp [*]
@[simp] theorem State.wdogKick_pending (x0 : State) (x1 : Word) : (State.wdogKick x0 x1).pending = x0.pending := by unfold State.wdogKick; simp [*]
@[simp] theorem State.wdogKick_inv (x0 : State) (x1 : Word) (h : x0.Inv) : (State.wdogKick x0 x1).Inv := by unfold State.wdogKick; simp [*]
@[simp] theorem State.powerResult_pending (x0 : State) (x1 : BitVec 3) : (State.powerResult x0 x1).pending = x0.pending := Eq.trans rfl rfl
@[simp] theorem State.powerResult_inv (x0 : State) (x1 : BitVec 3) (h : x0.Inv) : (State.powerResult x0 x1).Inv := by unfold State.powerResult; simp [*]
@[simp] theorem State.powerRequest_pending (x0 : State) (x1 : PState) : (State.powerRequest x0 x1).pending = x0.pending := by unfold State.powerRequest; (repeat' split) <;> simp [*]
@[simp] theorem State.powerRequest_inv (x0 : State) (x1 : PState) (h : x0.Inv) : (State.powerRequest x0 x1).Inv := by unfold State.powerRequest; (repeat' split) <;> simp [*]
@[simp] theorem State.wakeCertNow_pending (x0 : State) : (State.wakeCertNow x0).pending = x0.pending := by unfold State.wakeCertNow; (repeat' split) <;> simp [*]
@[simp] theorem State.wakeCertNow_inv (x0 : State) (h : x0.Inv) : (State.wakeCertNow x0).Inv := by unfold State.wakeCertNow; (repeat' split) <;> simp [*]
@[simp] theorem State.powerReach_pending (x0 : State) (x1 : PState) : (State.powerReach x0 x1).pending = x0.pending := by unfold State.powerReach; simp [*]
@[simp] theorem State.powerReach_inv (x0 : State) (x1 : PState) (h : x0.Inv) : (State.powerReach x0 x1).Inv := by unfold State.powerReach; simp (maxDischargeDepth := 60) [*]
@[simp] theorem State.wakeIf_pending (x0 : State) (x1 : Nat) : (State.wakeIf x0 x1).pending = x0.pending := by unfold State.wakeIf; simp [*]
@[simp] theorem State.wakeIf_inv (x0 : State) (x1 : Nat) (h : x0.Inv) : (State.wakeIf x0 x1).Inv := by unfold State.wakeIf; simp [*]
@[simp] theorem State.forceOffWrite_pending (x0 : State) (x1 : Nat) (x2 : Word) : (State.forceOffWrite x0 x1 x2).pending = x0.pending := Eq.trans rfl rfl
theorem forceOff_asked (s : State) (reg : Nat) (v : Word) (h : allForcible s.clk.forceOff) :
    allForcible ((s.clk.forceOff.filter fun d => d / 32 != reg) ++
      (List.range 32).filterMap fun j => if bit v j && forcible (32 * reg + j) then some (32 * reg + j) else none) := by
  intro d hd
  rcases List.mem_append.mp hd with hd | hd
  · exact h d (List.mem_filter.mp hd).1
  · obtain ⟨j, -, hj⟩ := List.mem_filterMap.mp hd
    split at hj
    · next hc =>
      obtain rfl := Option.some.inj hj
      exact (Bool.and_eq_true_iff.mp hc).2
    · cases hj
@[simp] theorem State.forceOffWrite_inv (x0 : State) (x1 : Nat) (x2 : Word) (h : x0.Inv) : (State.forceOffWrite x0 x1 x2).Inv := by
  have ha := forceOff_asked x0 x1 x2 h.forced
  unfold State.forceOffWrite
  simp only [inv_mk]
  refine ⟨h.mem, h.casks, h.press, h.regions, h.lat, h.lnk, h.tiles, ?_⟩
  (repeat' split) <;> first
    | exact ha
    | exact fun d hd => ha d (List.mem_filter.mp hd).1
@[simp] theorem State.presenceOff_pending (x0 : State) (x1 : Nat) : (State.presenceOff x0 x1).pending = x0.pending := by
  unfold State.presenceOff; refine pend_foldl (fun t l => ?_) _ _; split <;> simp
@[simp] theorem State.presenceOff_inv (x0 : State) (x1 : Nat) (h : x0.Inv) : (State.presenceOff x0 x1).Inv := by
  unfold State.presenceOff; refine inv_foldl (fun t l ht => ?_) _ h; split <;> simp [ht]
@[simp] theorem State.presenceOn_pending (x0 : State) (x1 : Nat) : (State.presenceOn x0 x1).pending = x0.pending := by
  unfold State.presenceOn; refine pend_foldl (fun t l => ?_) _ _; split <;> simp
@[simp] theorem State.presenceOn_inv (x0 : State) (x1 : Nat) (h : x0.Inv) : (State.presenceOn x0 x1).Inv := by
  unfold State.presenceOn; refine inv_foldl (fun t l ht => ?_) _ h; split <;> simp [ht]
@[simp] theorem State.forceOffEffect_pending (x0 : State) (x1 : Nat) : (State.forceOffEffect x0 x1).pending = x0.pending := by unfold State.forceOffEffect; simp [*]
@[simp] theorem State.forceOffEffect_inv (x0 : State) (x1 : Nat) (h : x0.Inv) : (State.forceOffEffect x0 x1).Inv := by unfold State.forceOffEffect; simp [*]
@[simp] theorem State.report_pending (x0 : State) (x1 : Bool) (x2 : Nat) (x3 : Nat) (x4 : Nat) (x5 : Nat) (x6 : Bool) : (State.report x0 x1 x2 x3 x4 x5 x6).pending = x0.pending := by unfold State.report; simp [*]
@[simp] theorem State.report_inv (x0 : State) (x1 : Bool) (x2 : Nat) (x3 : Nat) (x4 : Nat) (x5 : Nat) (x6 : Bool) (h : x0.Inv) : (State.report x0 x1 x2 x3 x4 x5 x6).Inv := by unfold State.report; simp [*]
@[simp] theorem State.windIfDark_pending (x0 : State) : (State.windIfDark x0).pending = x0.pending := by unfold State.windIfDark; (repeat' split) <;> simp [*]
@[simp] theorem State.windIfDark_inv (x0 : State) (h : x0.Inv) : (State.windIfDark x0).Inv := by unfold State.windIfDark; (repeat' split) <;> simp [*]
@[simp] theorem State.tempRead_pending (x0 : State) (x1 : Nat) (x2 : BitVec 16) : (State.tempRead x0 x1 x2).pending = x0.pending := Eq.trans rfl rfl
@[simp] theorem State.tempRead_inv (x0 : State) (x1 : Nat) (x2 : BitVec 16) (h : x0.Inv) : (State.tempRead x0 x1 x2).Inv := by unfold State.tempRead; simp [*]
@[simp] theorem State.thaw_pending (x0 : State) : (State.thaw x0).pending = x0.pending := Eq.trans rfl rfl
@[simp] theorem State.thaw_inv (x0 : State) (h : x0.Inv) : (State.thaw x0).Inv := by unfold State.thaw; simp [*]
@[simp] theorem State.tampRaise_pending (x0 : State) (x1 : BitVec 2) : (State.tampRaise x0 x1).pending = x0.pending := by unfold State.tampRaise; simp [*]
@[simp] theorem State.tampRaise_inv (x0 : State) (x1 : BitVec 2) (h : x0.Inv) : (State.tampRaise x0 x1).Inv := by unfold State.tampRaise; simp [*]
@[simp] theorem State.tampMapWrite_pending (x0 : State) (x1 : Word) : (State.tampMapWrite x0 x1).pending = x0.pending := by unfold State.tampMapWrite; simp [*]
@[simp] theorem State.tampMapWrite_inv (x0 : State) (x1 : Word) (h : x0.Inv) : (State.tampMapWrite x0 x1).Inv := by unfold State.tampMapWrite; simp [*]
@[simp] theorem State.alarmClear_pending (x0 : State) : (State.alarmClear x0).pending = x0.pending := by unfold State.alarmClear; simp [*]
@[simp] theorem State.alarmClear_inv (x0 : State) (h : x0.Inv) : (State.alarmClear x0).Inv := by unfold State.alarmClear; simp [*]
@[simp] theorem State.sysWrite_pending (x0 : State) (x1 : Nat) (x2 : Word) : (State.sysWrite x0 x1 x2).pending = x0.pending := by unfold State.sysWrite; (repeat' split) <;> simp [*]
@[simp] theorem State.sysWrite_inv (x0 : State) (x1 : Nat) (x2 : Word) (h : x0.Inv) : (State.sysWrite x0 x1 x2).Inv := by unfold State.sysWrite; (repeat' split) <;> simp [*]
@[simp] theorem State.clkWrite_pending (x0 : State) (x1 : Nat) (x2 : Word) : (State.clkWrite x0 x1 x2).pending = x0.pending := by unfold State.clkWrite; simp [*]
@[simp] theorem State.clkWrite_inv (x0 : State) (x1 : Nat) (x2 : Word) (h : x0.Inv) : (State.clkWrite x0 x1 x2).Inv := by unfold State.clkWrite; simp [*]
@[simp] theorem State.pwrCmd_pending (x0 : State) (x1 : Word) : (State.pwrCmd x0 x1).pending = x0.pending := by unfold State.pwrCmd; (repeat' split) <;> simp [*]
@[simp] theorem State.pwrCmd_inv (x0 : State) (x1 : Word) (h : x0.Inv) : (State.pwrCmd x0 x1).Inv := by unfold State.pwrCmd; (repeat' split) <;> simp [*]
@[simp] theorem State.pwrWrite_pending (x0 : State) (x1 : Nat) (x2 : Word) : (State.pwrWrite x0 x1 x2).pending = x0.pending := by unfold State.pwrWrite; (repeat' split) <;> simp [*]
@[simp] theorem State.pwrWrite_inv (x0 : State) (x1 : Nat) (x2 : Word) (h : x0.Inv) : (State.pwrWrite x0 x1 x2).Inv := by unfold State.pwrWrite; (repeat' split) <;> simp [*]
@[simp] theorem State.lcsWrite_pending (x0 : State) (x1 : Nat) (x2 : Word) : (State.lcsWrite x0 x1 x2).pending = x0.pending := by unfold State.lcsWrite; simp [*]
@[simp] theorem State.lcsWrite_inv (x0 : State) (x1 : Nat) (x2 : Word) (h : x0.Inv) : (State.lcsWrite x0 x1 x2).Inv := by unfold State.lcsWrite; simp [*]
@[simp] theorem State.tampCtrl_pending (x0 : State) (x1 : Word) : (State.tampCtrl x0 x1).pending = x0.pending := by unfold State.tampCtrl; simp [*]
@[simp] theorem State.tampCtrl_inv (x0 : State) (x1 : Word) (h : x0.Inv) : (State.tampCtrl x0 x1).Inv := by unfold State.tampCtrl; simp [*]
@[simp] theorem State.tampWrite_pending (x0 : State) (x1 : Nat) (x2 : Word) : (State.tampWrite x0 x1 x2).pending = x0.pending := by unfold State.tampWrite; (repeat' split) <;> simp [*]
@[simp] theorem State.tampWrite_inv (x0 : State) (x1 : Nat) (x2 : Word) (h : x0.Inv) : (State.tampWrite x0 x1 x2).Inv := by unfold State.tampWrite; (repeat' split) <;> simp [*]
@[simp] theorem State.certBufWrite_pending (x0 : State) (x1 : Nat) (x2 : Word) : (State.certBufWrite x0 x1 x2).pending = x0.pending := Eq.trans rfl rfl
@[simp] theorem State.certBufWrite_inv (x0 : State) (x1 : Nat) (x2 : Word) (h : x0.Inv) : (State.certBufWrite x0 x1 x2).Inv := by unfold State.certBufWrite; simp [*]
@[simp] theorem State.dbgCtrl_pending (x0 : State) (x1 : Word) : (State.dbgCtrl x0 x1).pending = x0.pending := by unfold State.dbgCtrl; simp [*]
@[simp] theorem State.dbgCtrl_inv (x0 : State) (x1 : Word) (h : x0.Inv) : (State.dbgCtrl x0 x1).Inv := by unfold State.dbgCtrl; simp (maxDischargeDepth := 60) [*]
@[simp] theorem State.dbgWrite_pending (x0 : State) (x1 : Nat) (x2 : Word) : (State.dbgWrite x0 x1 x2).pending = x0.pending := by unfold State.dbgWrite; simp [*]
@[simp] theorem State.dbgWrite_inv (x0 : State) (x1 : Nat) (x2 : Word) (h : x0.Inv) : (State.dbgWrite x0 x1 x2).Inv := by unfold State.dbgWrite; simp [*]
@[simp] theorem State.ctrFinish_pending (x0 : State) (x1 : Ctx) (x2 : BitVec 3) (x3 : Option Nat) : (State.ctrFinish x0 x1 x2 x3).pending = x0.pending := by unfold State.ctrFinish; (repeat' split) <;> simp [*]
@[simp] theorem State.ctrFinish_inv (x0 : State) (x1 : Ctx) (x2 : BitVec 3) (x3 : Option Nat) (h : x0.Inv) : (State.ctrFinish x0 x1 x2 x3).Inv := by unfold State.ctrFinish; (repeat' split) <;> simp [*]
@[simp] theorem State.setPeer_pending (x0 : State) (x1 : Nat) (x2 : Peer) : (State.setPeer x0 x1 x2).pending = x0.pending := Eq.trans rfl rfl
@[simp] theorem State.setPeer_inv (x0 : State) (x1 : Nat) (x2 : Peer) (h : x0.Inv) : (State.setPeer x0 x1 x2).Inv := by unfold State.setPeer; simp [*]
@[simp] theorem State.modPeer_pending (x0 : State) (x1 : Nat) (x2 : Peer → Peer) : (State.modPeer x0 x1 x2).pending = x0.pending := Eq.trans rfl rfl
@[simp] theorem State.modPeer_inv (x0 : State) (x1 : Nat) (x2 : Peer → Peer) (h : x0.Inv) : (State.modPeer x0 x1 x2).Inv := by unfold State.modPeer; simp [*]
@[simp] theorem State.spanPut_pending (x0 : State) (x1 : List Nat) (x2 : Byte) (x3 : SpanMsg) : (State.spanPut x0 x1 x2 x3).pending = x0.pending := by unfold State.spanPut; (repeat' split) <;> simp [pend_foldl, *]
@[simp] theorem State.spanPut_inv (x0 : State) (x1 : List Nat) (x2 : Byte) (x3 : SpanMsg) (h : x0.Inv) : (State.spanPut x0 x1 x2 x3).Inv := by unfold State.spanPut; (repeat' split) <;> simp (maxDischargeDepth := 60) (contextual := true) [inv_foldl, *]
@[simp] theorem State.spanEmit_pending (x0 : State) (x1 : List Nat) (x2 : Byte) (x3 : Nat) (x4 : Bytes) : (State.spanEmit x0 x1 x2 x3 x4).pending = x0.pending := by unfold State.spanEmit; simp [*]
@[simp] theorem State.spanEmit_inv (x0 : State) (x1 : List Nat) (x2 : Byte) (x3 : Nat) (x4 : Bytes) (h : x0.Inv) : (State.spanEmit x0 x1 x2 x3 x4).Inv := by unfold State.spanEmit; simp [*]
@[simp] theorem State.spanCast_pending (x0 : State) (x1 : Byte) (x2 : Bytes) : (State.spanCast x0 x1 x2).pending = x0.pending := by unfold State.spanCast; simp [*]
@[simp] theorem State.spanCast_inv (x0 : State) (x1 : Byte) (x2 : Bytes) (h : x0.Inv) : (State.spanCast x0 x1 x2).Inv := by unfold State.spanCast; simp [*]
@[simp] theorem State.spanSend_pending (x0 : State) (x1 : Nat) (x2 : Byte) (x3 : Bytes) : (State.spanSend x0 x1 x2 x3).pending = x0.pending := by unfold State.spanSend; (repeat' split) <;> simp [*]
@[simp] theorem State.spanSend_inv (x0 : State) (x1 : Nat) (x2 : Byte) (x3 : Bytes) (h : x0.Inv) : (State.spanSend x0 x1 x2 x3).Inv := by unfold State.spanSend; (repeat' split) <;> simp [*]
@[simp] theorem State.spanEvent_pending (x0 : State) (x1 : BitVec 6) : (State.spanEvent x0 x1).pending = x0.pending := Eq.trans rfl rfl
@[simp] theorem State.spanEvent_inv (x0 : State) (x1 : BitVec 6) (h : x0.Inv) : (State.spanEvent x0 x1).Inv := by unfold State.spanEvent; simp [*]
@[simp] theorem State.fillSlot_pending (x0 : State) (x1 : Ctx) (x2 : Byte) (x3 : Byte) (x4 : Bytes) : (State.fillSlot x0 x1 x2 x3 x4).2.pending = x0.pending := by unfold State.fillSlot; (repeat' split) <;> simp [*]
@[simp] theorem State.fillSlot_inv (x0 : State) (x1 : Ctx) (x2 : Byte) (x3 : Byte) (x4 : Bytes) (h : x0.Inv) : (State.fillSlot x0 x1 x2 x3 x4).2.Inv := by unfold State.fillSlot; (repeat' split) <;> simp [*]
@[simp] theorem State.svcFail_pending (x0 : State) (x1 : Nat) : (State.svcFail x0 x1).after.pending = x0.pending := Eq.trans rfl rfl
@[simp] theorem State.svcFail_inv (x0 : State) (x1 : Nat) (h : x0.Inv) : (State.svcFail x0 x1).after.Inv := h
@[simp] theorem State.svcFill_pending (x0 : State) (x1 : Ctx) (x2 : Req) (x3 : Bytes) : (State.svcFill x0 x1 x2 x3).after.pending = x0.pending := by unfold State.svcFill; simp [*]
@[simp] theorem State.svcFill_inv (x0 : State) (x1 : Ctx) (x2 : Req) (x3 : Bytes) (h : x0.Inv) : (State.svcFill x0 x1 x2 x3).after.Inv := by unfold State.svcFill; simp [*]
@[simp] theorem State.vaultGen_pending (x0 : State) (x1 : Ctx) (x2 : Req) : (State.vaultGen x0 x1 x2).after.pending = x0.pending := by unfold State.vaultGen; (repeat' split) <;> simp [*]
@[simp] theorem State.vaultGen_inv (x0 : State) (x1 : Ctx) (x2 : Req) (h : x0.Inv) : (State.vaultGen x0 x1 x2).after.Inv := by unfold State.vaultGen; (repeat' split) <;> simp [*]
@[simp] theorem State.vaultImport_pending (x0 : State) (x1 : Ctx) (x2 : Req) : (State.vaultImport x0 x1 x2).after.pending = x0.pending := by unfold State.vaultImport; (repeat' split) <;> simp [*]
@[simp] theorem State.vaultImport_inv (x0 : State) (x1 : Ctx) (x2 : Req) (h : x0.Inv) : (State.vaultImport x0 x1 x2).after.Inv := by unfold State.vaultImport; (repeat' split) <;> simp [*]
@[simp] theorem State.vaultExport_pending (x0 : State) (x1 : Ctx) (x2 : Req) : (State.vaultExport x0 x1 x2).after.pending = x0.pending := by unfold State.vaultExport; (repeat' split) <;> simp [*]
@[simp] theorem State.vaultExport_inv (x0 : State) (x1 : Ctx) (x2 : Req) (h : x0.Inv) : (State.vaultExport x0 x1 x2).after.Inv := by unfold State.vaultExport; (repeat' split) <;> simp [*]
@[simp] theorem State.vaultDerive_pending (x0 : State) (x1 : Ctx) (x2 : Req) : (State.vaultDerive x0 x1 x2).after.pending = x0.pending := by unfold State.vaultDerive; (repeat' split) <;> simp [*]
@[simp] theorem State.vaultDerive_inv (x0 : State) (x1 : Ctx) (x2 : Req) (h : x0.Inv) : (State.vaultDerive x0 x1 x2).after.Inv := by unfold State.vaultDerive; (repeat' split) <;> simp [*]
@[simp] theorem State.dropKey_pending (x0 : State) (x1 : Nat) (x2 : Nat) : (State.dropKey x0 x1 x2).pending = x0.pending := by unfold State.dropKey; simp [*]
@[simp] theorem State.dropKey_inv (x0 : State) (x1 : Nat) (x2 : Nat) (h : x0.Inv) : (State.dropKey x0 x1 x2).Inv := by unfold State.dropKey; simp [*]
@[simp] theorem State.freeKey_pending (x0 : State) (x1 : Word) (x2 : Nat) : (State.freeKey x0 x1 x2).pending = x0.pending := by unfold State.freeKey; simp [*]
@[simp] theorem State.freeKey_inv (x0 : State) (x1 : Word) (x2 : Nat) (h : x0.Inv) : (State.freeKey x0 x1 x2).Inv := by unfold State.freeKey; simp [*]
@[simp] theorem State.vaultDestroy_pending (x0 : State) (x1 : Ctx) (x2 : Req) : (State.vaultDestroy x0 x1 x2).after.pending = x0.pending := by unfold State.vaultDestroy; (repeat' split) <;> simp [*]
@[simp] theorem State.vaultDestroy_inv (x0 : State) (x1 : Ctx) (x2 : Req) (h : x0.Inv) : (State.vaultDestroy x0 x1 x2).after.Inv := by unfold State.vaultDestroy; (repeat' split) <;> simp [*]
@[simp] theorem State.vaultInfo_pending (x0 : State) (x1 : Ctx) (x2 : Req) : (State.vaultInfo x0 x1 x2).after.pending = x0.pending := by unfold State.vaultInfo; (repeat' split) <;> simp [*]
@[simp] theorem State.vaultInfo_inv (x0 : State) (x1 : Ctx) (x2 : Req) (h : x0.Inv) : (State.vaultInfo x0 x1 x2).after.Inv := by unfold State.vaultInfo; (repeat' split) <;> simp [*]
@[simp] theorem State.vaultServe_pending (x0 : State) (x1 : Ctx) (x2 : Nat) (x3 : Req) : (State.vaultServe x0 x1 x2 x3).after.pending = x0.pending := by unfold State.vaultServe; (repeat' split) <;> simp [*]
@[simp] theorem State.vaultServe_inv (x0 : State) (x1 : Ctx) (x2 : Nat) (x3 : Req) (h : x0.Inv) : (State.vaultServe x0 x1 x2 x3).after.Inv := by unfold State.vaultServe; (repeat' split) <;> simp [*]
@[simp] theorem State.vaultGo_pending (x0 : State) (x1 : Ctx) : (State.vaultGo x0 x1).pending = x0.pending := by unfold State.vaultGo; simp [*]
@[simp] theorem State.vaultGo_inv (x0 : State) (x1 : Ctx) (h : x0.Inv) : (State.vaultGo x0 x1).Inv := by unfold State.vaultGo; simp [*]
@[simp] theorem State.vaultRetest_pending (x0 : State) : (State.vaultRetest x0).pending = x0.pending := Eq.trans rfl rfl
@[simp] theorem State.vaultRetest_inv (x0 : State) (h : x0.Inv) : (State.vaultRetest x0).Inv := by unfold State.vaultRetest; simp [*]
@[simp] theorem State.pageDone_pending (x0 : State) (x1 : Request) (x2 : Nat) : (State.pageDone x0 x1 x2).pending = x0.pending := by unfold State.pageDone; simp [*]
@[simp] theorem State.pageDone_inv (x0 : State) (x1 : Request) (x2 : Nat) (h : x0.Inv) : (State.pageDone x0 x1 x2).Inv := by unfold State.pageDone; simp [*]
@[simp] theorem State.pageServe_pending (x0 : Nat) (x1 : State) : (State.pageServe x0 x1).pending = x1.pending := by
  induction x0 generalizing x1 with
  | zero => rfl
  | succ k ih => unfold State.pageServe; dsimp only; (repeat' split) <;> simp [ih]
@[simp] theorem State.pageServe_inv (x0 : Nat) (x1 : State) (h : x1.Inv) : (State.pageServe x0 x1).Inv := by
  induction x0 generalizing x1 with
  | zero => exact h
  | succ k ih => unfold State.pageServe; dsimp only; (repeat' split) <;> simp (maxDischargeDepth := 60) [h, ih]
@[simp] theorem State.pageNext_pending (x0 : State) : (State.pageNext x0).pending = x0.pending := by unfold State.pageNext; simp [*]
@[simp] theorem State.pageNext_inv (x0 : State) (h : x0.Inv) : (State.pageNext x0).Inv := by unfold State.pageNext; simp [*]
@[simp] theorem State.nvmGo_pending (x0 : State) (x1 : Ctx) : (State.nvmGo x0 x1).pending = x0.pending := by unfold State.nvmGo; simp [*]
@[simp] theorem State.nvmGo_inv (x0 : State) (x1 : Ctx) (h : x0.Inv) : (State.nvmGo x0 x1).Inv := by unfold State.nvmGo; simp [*]
@[simp] theorem State.pageAbort_pending (x0 : State) (x1 : NvmJob) : (State.pageAbort x0 x1).pending = x0.pending := Eq.trans rfl rfl
@[simp] theorem State.pageAbort_inv (x0 : State) (x1 : NvmJob) (h : x0.Inv) : (State.pageAbort x0 x1).Inv := by unfold State.pageAbort; simp [*]
@[simp] theorem State.nvmResult_pending (x0 : State) (x1 : Nat) : (State.nvmResult x0 x1).pending = x0.pending := Eq.trans rfl rfl
@[simp] theorem State.nvmResult_inv (x0 : State) (x1 : Nat) (h : x0.Inv) : (State.nvmResult x0 x1).Inv := by unfold State.nvmResult; simp [*]
@[simp] theorem State.nvmCommand_pending (x0 : State) (x1 : BitVec 4) : (State.nvmCommand x0 x1).pending = x0.pending := by unfold State.nvmCommand; simp [*]
@[simp] theorem State.nvmCommand_inv (x0 : State) (x1 : BitVec 4) (h : x0.Inv) : (State.nvmCommand x0 x1).Inv := by unfold State.nvmCommand; simp [*]
@[simp] theorem State.allocSect_pending (x0 : State) (x1 : Nat) (x2 : Nat) : (State.allocSect x0 x1 x2).pending = x0.pending := by unfold State.allocSect; simp [*]
@[simp] theorem State.allocSect_inv (x0 : State) (x1 : Nat) (x2 : Nat) (h : x0.Inv) : (State.allocSect x0 x1 x2).Inv := by unfold State.allocSect; simp [*]
@[simp] theorem State.rawRead_pending (x0 : State) (x1 : Nat) : (State.rawRead x0 x1).pending = x0.pending := Eq.trans rfl rfl
@[simp] theorem State.rawRead_inv (x0 : State) (x1 : Nat) (h : x0.Inv) : (State.rawRead x0 x1).Inv := by unfold State.rawRead; simp [*]
@[simp] theorem State.nvmEffect_pending (x0 : State) (x1 : Nat) (x2 : Word) (x3 : Word) : (State.nvmEffect x0 x1 x2 x3).pending = x0.pending := by unfold State.nvmEffect; (repeat' split) <;> simp [*]
@[simp] theorem State.nvmEffect_inv (x0 : State) (x1 : Nat) (x2 : Word) (x3 : Word) (h : x0.Inv) : (State.nvmEffect x0 x1 x2 x3).Inv := by unfold State.nvmEffect; (repeat' split) <;> simp [*]
@[simp] theorem State.decMac_pending (x0 : State) (x1 : Nat) (x2 : Word) : (State.decMac x0 x1 x2).pending = x0.pending := by unfold State.decMac; dsimp only; (repeat' split) <;> simp [*]
@[simp] theorem State.decMac_inv (x0 : State) (x1 : Nat) (x2 : Word) (h : x0.Inv) : (State.decMac x0 x1 x2).Inv := by unfold State.decMac; dsimp only; (repeat' split) <;> simp [*]
@[simp] theorem State.decUcode_pending (x0 : State) (x1 : Nat) (x2 : Word) : (State.decUcode x0 x1 x2).pending = x0.pending := by unfold State.decUcode; (repeat' split) <;> simp [*]
@[simp] theorem State.decUcode_inv (x0 : State) (x1 : Nat) (x2 : Word) (h : x0.Inv) : (State.decUcode x0 x1 x2).Inv := by unfold State.decUcode; (repeat' split) <;> simp [*]
@[simp] theorem State.latFail_pending (x0 : State) (x1 : Nat) : (State.latFail x0 x1).after.pending = x0.pending := Eq.trans rfl rfl
@[simp] theorem State.latFail_inv (x0 : State) (x1 : Nat) (h : x0.Inv) : (State.latFail x0 x1).after.Inv := h
@[simp] theorem State.ctRes_pending (x0 : State) (x1 : LObj) (x2 : Nat) (x3 : Rns × Rns) : (State.ctRes x0 x1 x2 x3).after.pending = x0.pending := Eq.trans rfl rfl
@[simp] theorem State.ctRes_inv (x0 : State) (x1 : LObj) (x2 : Nat) (x3 : Rns × Rns) (h : x0.Inv) : (State.ctRes x0 x1 x2 x3).after.Inv := h
@[simp] theorem State.latBinary_pending (x0 : State) (x1 : List Nat → Rns → Rns → Rns) (x2 : LObj) (x3 : LObj) : (State.latBinary x0 x1 x2 x3).after.pending = x0.pending := Eq.trans rfl rfl
@[simp] theorem State.latBinary_inv (x0 : State) (x1 : List Nat → Rns → Rns → Rns) (x2 : LObj) (x3 : LObj) (h : x0.Inv) : (State.latBinary x0 x1 x2 x3).after.Inv := h
@[simp] theorem State.latPlain_pending (x0 : State) (x1 : List Nat → Rns → Rns → Rns) (x2 : LObj) (x3 : LObj) : (State.latPlain x0 x1 x2 x3).after.pending = x0.pending := Eq.trans rfl rfl
@[simp] theorem State.latPlain_inv (x0 : State) (x1 : List Nat → Rns → Rns → Rns) (x2 : LObj) (x3 : LObj) (h : x0.Inv) : (State.latPlain x0 x1 x2 x3).after.Inv := h
@[simp] theorem State.latPmul_pending (x0 : State) (x1 : LObj) (x2 : LObj) : (State.latPmul x0 x1 x2).after.pending = x0.pending := Eq.trans rfl rfl
@[simp] theorem State.latPmul_inv (x0 : State) (x1 : LObj) (x2 : LObj) (h : x0.Inv) : (State.latPmul x0 x1 x2).after.Inv := h
@[simp] theorem State.latUnary_pending (x0 : State) (x1 : List Nat → Rns → Rns) (x2 : LObj) : (State.latUnary x0 x1 x2).after.pending = x0.pending := Eq.trans rfl rfl
@[simp] theorem State.latUnary_inv (x0 : State) (x1 : List Nat → Rns → Rns) (x2 : LObj) (h : x0.Inv) : (State.latUnary x0 x1 x2).after.Inv := h
@[simp] theorem State.latDropOp_pending (x0 : State) (x1 : LObj) (x2 : Nat) : (State.latDropOp x0 x1 x2).after.pending = x0.pending := Eq.trans rfl rfl
@[simp] theorem State.latDropOp_inv (x0 : State) (x1 : LObj) (x2 : Nat) (h : x0.Inv) : (State.latDropOp x0 x1 x2).after.Inv := h
@[simp] theorem State.latMulOp_pending (x0 : State) (x1 : LObj) (x2 : LObj) (x3 : Word) : (State.latMulOp x0 x1 x2 x3).after.pending = x0.pending := by unfold State.latMulOp; dsimp only; (repeat' split) <;> simp [*]
@[simp] theorem State.latMulOp_inv (x0 : State) (x1 : LObj) (x2 : LObj) (x3 : Word) (h : x0.Inv) : (State.latMulOp x0 x1 x2 x3).after.Inv := by unfold State.latMulOp; dsimp only; (repeat' split) <;> simp [*]
@[simp] theorem State.latRotateOp_pending (x0 : State) (x1 : LObj) (x2 : Nat) (x3 : Word) : (State.latRotateOp x0 x1 x2 x3).after.pending = x0.pending := by unfold State.latRotateOp; dsimp only; (repeat' split) <;> simp [*]
@[simp] theorem State.latRotateOp_inv (x0 : State) (x1 : LObj) (x2 : Nat) (x3 : Word) (h : x0.Inv) : (State.latRotateOp x0 x1 x2 x3).after.Inv := by unfold State.latRotateOp; dsimp only; (repeat' split) <;> simp [*]
@[simp] theorem State.drawTernary_pending (x0 : State) (x1 : Nat) : (State.drawTernary x0 x1).2.pending = x0.pending := Eq.trans rfl rfl
@[simp] theorem State.drawTernary_inv (x0 : State) (x1 : Nat) (h : x0.Inv) : (State.drawTernary x0 x1).2.Inv := by unfold State.drawTernary; simp [*]
@[simp] theorem State.drawCbd_pending (x0 : State) (x1 : Nat) : (State.drawCbd x0 x1).2.pending = x0.pending := Eq.trans rfl rfl
@[simp] theorem State.drawCbd_inv (x0 : State) (x1 : Nat) (h : x0.Inv) : (State.drawCbd x0 x1).2.Inv := by unfold State.drawCbd; simp [*]
@[simp] theorem State.encPk_pending (x0 : State) (x1 : LObj) (x2 : Word) : (State.encPk x0 x1 x2).after.pending = x0.pending := by unfold State.encPk; dsimp only; (repeat' split) <;> simp [*]
@[simp] theorem State.encPk_inv (x0 : State) (x1 : LObj) (x2 : Word) (h : x0.Inv) : (State.encPk x0 x1 x2).after.Inv := by unfold State.encPk; dsimp only; (repeat' split) <;> simp (maxDischargeDepth := 60) [*]
@[simp] theorem State.encSk_pending (x0 : State) (x1 : LObj) (x2 : Bytes) : (State.encSk x0 x1 x2).after.pending = x0.pending := Eq.trans rfl rfl
@[simp] theorem State.encSk_inv (x0 : State) (x1 : LObj) (x2 : Bytes) (h : x0.Inv) : (State.encSk x0 x1 x2).after.Inv := by unfold State.encSk; simp [*]
@[simp] theorem State.latDecryptOp_pending (x0 : State) (x1 : LObj) (x2 : Bytes) : (State.latDecryptOp x0 x1 x2).after.pending = x0.pending := Eq.trans rfl rfl
@[simp] theorem State.latDecryptOp_inv (x0 : State) (x1 : LObj) (x2 : Bytes) (h : x0.Inv) : (State.latDecryptOp x0 x1 x2).after.Inv := h
@[simp] theorem State.genDigits_pending (x0 : State) (x1 : Nat) (x2 : SwKey) (x3 : Bytes) (x4 : Nat) (x5 : Nat) (x6 : Nat) (x7 : Rns) (x8 : Rns) : (State.genDigits x0 x1 x2 x3 x4 x5 x6 x7 x8).2.pending = x0.pending := by unfold State.genDigits; simp [pend_foldl2, *]
@[simp] theorem State.genDigits_inv (x0 : State) (x1 : Nat) (x2 : SwKey) (x3 : Bytes) (x4 : Nat) (x5 : Nat) (x6 : Nat) (x7 : Rns) (x8 : Rns) (h : x0.Inv) : (State.genDigits x0 x1 x2 x3 x4 x5 x6 x7 x8).2.Inv := by unfold State.genDigits; simp (maxDischargeDepth := 60) (contextual := true) [inv_foldl2, *]
@[simp] theorem State.genMask_pending (x0 : State) (x1 : Nat) (x2 : Nat) (x3 : List Nat) (x4 : Bytes) (x5 : Nat) (x6 : Rns) (x7 : Rns) : (State.genMask x0 x1 x2 x3 x4 x5 x6 x7).2.pending = x0.pending := Eq.trans rfl rfl
@[simp] theorem State.genMask_inv (x0 : State) (x1 : Nat) (x2 : Nat) (x3 : List Nat) (x4 : Bytes) (x5 : Nat) (x6 : Rns) (x7 : Rns) (h : x0.Inv) : (State.genMask x0 x1 x2 x3 x4 x5 x6 x7).2.Inv := by unfold State.genMask; simp [*]
@[simp] theorem State.genRefresh_pending (x0 : State) (x1 : LatParams) (x2 : Bytes) (x3 : Bytes) (x4 : Bytes) : (State.genRefresh x0 x1 x2 x3 x4).2.pending = x0.pending := by unfold State.genRefresh; simp [pend_foldl2, *]
@[simp] theorem State.genRefresh_inv (x0 : State) (x1 : LatParams) (x2 : Bytes) (x3 : Bytes) (x4 : Bytes) (h : x0.Inv) : (State.genRefresh x0 x1 x2 x3 x4).2.Inv := by unfold State.genRefresh; simp (maxDischargeDepth := 60) (contextual := true) [inv_foldl2, *]
@[simp] theorem State.genKey_pending (x0 : State) (x1 : LatParams) (x2 : Nat) (x3 : Nat) (x4 : Bytes) (x5 : Bytes) : (State.genKey x0 x1 x2 x3 x4 x5).2.pending = x0.pending := by unfold State.genKey; (repeat' split) <;> simp [*]
@[simp] theorem State.genKey_inv (x0 : State) (x1 : LatParams) (x2 : Nat) (x3 : Nat) (x4 : Bytes) (x5 : Bytes) (h : x0.Inv) : (State.genKey x0 x1 x2 x3 x4 x5).2.Inv := by unfold State.genKey; (repeat' split) <;> simp [*]
@[simp] theorem State.latKeygenOp_pending (x0 : State) (x1 : LObj) (x2 : Word) (x3 : Word) (x4 : Word) (x5 : Bytes) : (State.latKeygenOp x0 x1 x2 x3 x4 x5).after.pending = x0.pending := by unfold State.latKeygenOp; dsimp only; (repeat' split) <;> simp [*]
@[simp] theorem State.latKeygenOp_inv (x0 : State) (x1 : LObj) (x2 : Word) (x3 : Word) (x4 : Word) (x5 : Bytes) (h : x0.Inv) : (State.latKeygenOp x0 x1 x2 x3 x4 x5).after.Inv := by unfold State.latKeygenOp; dsimp only; (repeat' split) <;> simp [*]
@[simp] theorem State.latImportOp_pending (x0 : State) (x1 : Bytes) (x2 : Word) : (State.latImportOp x0 x1 x2).after.pending = x0.pending := by unfold State.latImportOp; dsimp only; (repeat' split) <;> simp [*]
@[simp] theorem State.latImportOp_inv (x0 : State) (x1 : Bytes) (x2 : Word) (h : x0.Inv) : (State.latImportOp x0 x1 x2).after.Inv := by unfold State.latImportOp; dsimp only; (repeat' split) <;> simp [*]
@[simp] theorem State.latExportOp_pending (x0 : State) (x1 : LObj) (x2 : Word) : (State.latExportOp x0 x1 x2).after.pending = x0.pending := by unfold State.latExportOp; (repeat' split) <;> simp [*]
@[simp] theorem State.latExportOp_inv (x0 : State) (x1 : LObj) (x2 : Word) (h : x0.Inv) : (State.latExportOp x0 x1 x2).after.Inv := by unfold State.latExportOp; (repeat' split) <;> simp [*]
@[simp] theorem State.latCopyOp_pending (x0 : State) (x1 : LObj) : (State.latCopyOp x0 x1).after.pending = x0.pending := Eq.trans rfl rfl
@[simp] theorem State.latCopyOp_inv (x0 : State) (x1 : LObj) (h : x0.Inv) : (State.latCopyOp x0 x1).after.Inv := h
@[simp] theorem State.drawRns_pending (x0 : State) (x1 : Nat) (x2 : List Nat) : (State.drawRns x0 x1 x2).2.pending = x0.pending := Eq.trans rfl rfl
@[simp] theorem State.drawRns_inv (x0 : State) (x1 : Nat) (x2 : List Nat) (h : x0.Inv) : (State.drawRns x0 x1 x2).2.Inv := by unfold State.drawRns; simp [*]
@[simp] theorem State.latRefreshOp_pending (x0 : State) (x1 : LObj) (x2 : Option (List Nat)) (x3 : Word) : (State.latRefreshOp x0 x1 x2 x3).after.pending = x0.pending := by unfold State.latRefreshOp; dsimp only; (repeat' split) <;> simp [*]
@[simp] theorem State.latRefreshOp_inv (x0 : State) (x1 : LObj) (x2 : Option (List Nat)) (x3 : Word) (h : x0.Inv) : (State.latRefreshOp x0 x1 x2 x3).after.Inv := by unfold State.latRefreshOp; dsimp only; (repeat' split) <;> simp (maxDischargeDepth := 60) [*]
@[simp] theorem State.latGo_pending (x0 : State) (x1 : Ctx) : (State.latGo x0 x1).pending = x0.pending := by unfold State.latGo; simp [*]
@[simp] theorem State.latGo_inv (x0 : State) (x1 : Ctx) (h : x0.Inv) : (State.latGo x0 x1).Inv := by unfold State.latGo; simp (maxDischargeDepth := 60) [*]
@[simp] theorem State.latCancelJob_pending (x0 : State) (x1 : Ctx) : (State.latCancelJob x0 x1).pending = x0.pending := by unfold State.latCancelJob; (repeat' split) <;> simp [*]
@[simp] theorem State.latCancelJob_inv (x0 : State) (x1 : Ctx) (h : x0.Inv) : (State.latCancelJob x0 x1).Inv := by unfold State.latCancelJob; (repeat' split) <;> simp [*]
@[simp] theorem State.latComplete_pending (x0 : State) (x1 : Nat) (x2 : Nat) (x3 : Option Word) (x4 : Option Nat) : (State.latComplete x0 x1 x2 x3 x4).pending = x0.pending := by unfold State.latComplete; (repeat' split) <;> simp [*]
@[simp] theorem State.latComplete_inv (x0 : State) (x1 : Nat) (x2 : Nat) (x3 : Option Word) (x4 : Option Nat) (h : x0.Inv) : (State.latComplete x0 x1 x2 x3 x4).Inv := by unfold State.latComplete; (repeat' split) <;> simp (maxDischargeDepth := 60) [*]
@[simp] theorem State.commitObj_pending (x0 : State) (x1 : Nat) (x2 : Nat) (x3 : BitVec 16) (x4 : LObj × Bytes) : (State.commitObj x0 x1 x2 x3 x4).pending = x0.pending := by unfold State.commitObj; simp [*]
@[simp] theorem State.commitObj_inv (x0 : State) (x1 : Nat) (x2 : Nat) (x3 : BitVec 16) (x4 : LObj × Bytes) (h : x0.Inv) : (State.commitObj x0 x1 x2 x3 x4).Inv := by unfold State.commitObj; simp (maxDischargeDepth := 60) [*]
@[simp] theorem State.commitDst_pending (x0 : State) (x1 : Nat) (x2 : Word) (x3 : LObj × Bytes) : (State.commitDst x0 x1 x2 x3).2.pending = x0.pending := by unfold State.commitDst; (repeat' split) <;> simp [*]
@[simp] theorem State.commitDst_inv (x0 : State) (x1 : Nat) (x2 : Word) (x3 : LObj × Bytes) (h : x0.Inv) : (State.commitDst x0 x1 x2 x3).2.Inv := by unfold State.commitDst; (repeat' split) <;> simp [*]
@[simp] theorem State.autoRefresh_pending (x0 : State) (x1 : Nat) (x2 : Word) (x3 : Word) : (State.autoRefresh x0 x1 x2 x3).2.pending = x0.pending := by unfold State.autoRefresh; dsimp only; (repeat' split) <;> simp [*]
@[simp] theorem State.autoRefresh_inv (x0 : State) (x1 : Nat) (x2 : Word) (x3 : Word) (h : x0.Inv) : (State.autoRefresh x0 x1 x2 x3).2.Inv := by unfold State.autoRefresh; dsimp only; (repeat' split) <;> simp (maxDischargeDepth := 60) [*]
@[simp] theorem State.latRun_pending (x0 : State) (x1 : Nat) (x2 : LatJob) : (State.latRun x0 x1 x2).after.pending = x0.pending := by unfold State.latRun; dsimp only; (repeat' split) <;> simp [*]
@[simp] theorem State.latRun_inv (x0 : State) (x1 : Nat) (x2 : LatJob) (h : x0.Inv) : (State.latRun x0 x1 x2).after.Inv := by unfold State.latRun; dsimp only; (repeat' split) <;> simp [*]
@[simp] theorem State.latFinish_pending (x0 : State) (x1 : Nat) (x2 : LatJob) : (State.latFinish x0 x1 x2).pending = x0.pending := by unfold State.latFinish; dsimp only; (repeat' split) <;> simp [*]
@[simp] theorem State.latFinish_inv (x0 : State) (x1 : Nat) (x2 : LatJob) (h : x0.Inv) : (State.latFinish x0 x1 x2).Inv := by unfold State.latFinish; dsimp only; (repeat' split) <;> simp (maxDischargeDepth := 60) [*]
@[simp] theorem State.latWork_pending (x0 : State) (x1 : Nat) (x2 : LatJob) : (State.latWork x0 x1 x2).pending = x0.pending := by unfold State.latWork; simp [*]
@[simp] theorem State.latWork_inv (x0 : State) (x1 : Nat) (x2 : LatJob) (h : x0.Inv) : (State.latWork x0 x1 x2).Inv := by unfold State.latWork; simp (maxDischargeDepth := 60) [*]
@[simp] theorem State.latYield_pending (x0 : State) (x1 : Nat) (x2 : LatJob) : (State.latYield x0 x1 x2).pending = x0.pending := by unfold State.latYield; simp [*]
@[simp] theorem State.latYield_inv (x0 : State) (x1 : Nat) (x2 : LatJob) (h : x0.Inv) : (State.latYield x0 x1 x2).Inv := by unfold State.latYield; simp [*]
@[simp] theorem State.latFault_pending (x0 : State) (x1 : Nat) (x2 : Nat) : (State.latFault x0 x1 x2).pending = x0.pending := Eq.trans rfl rfl
@[simp] theorem State.latFault_inv (x0 : State) (x1 : Nat) (x2 : Nat) (h : x0.Inv) : (State.latFault x0 x1 x2).Inv := by unfold State.latFault; simp [*]
@[simp] theorem State.pkeKeygen_pending (x0 : State) (x1 : Ctx) (x2 : Req) (x3 : Nat) (x4 : Bytes → Bytes) : (State.pkeKeygen x0 x1 x2 x3 x4).after.pending = x0.pending := by unfold State.pkeKeygen; simp [*]
@[simp] theorem State.pkeKeygen_inv (x0 : State) (x1 : Ctx) (x2 : Req) (x3 : Nat) (x4 : Bytes → Bytes) (h : x0.Inv) : (State.pkeKeygen x0 x1 x2 x3 x4).after.Inv := by unfold State.pkeKeygen; simp (maxDischargeDepth := 60) [*]
@[simp] theorem State.pkeRun_pending (x0 : State) (x1 : Ctx) (x2 : Nat) (x3 : Req) (x4 : Nat) (x5 : Bytes) (x6 : Nat × Nat) (x7 : Nat × Nat) (x8 : Nat × Nat) : (State.pkeRun x0 x1 x2 x3 x4 x5 x6 x7 x8).after.pending = x0.pending := by unfold State.pkeRun; dsimp only; (repeat' split) <;> simp [*]
@[simp] theorem State.pkeRun_inv (x0 : State) (x1 : Ctx) (x2 : Nat) (x3 : Req) (x4 : Nat) (x5 : Bytes) (x6 : Nat × Nat) (x7 : Nat × Nat) (x8 : Nat × Nat) (h : x0.Inv) : (State.pkeRun x0 x1 x2 x3 x4 x5 x6 x7 x8).after.Inv := by unfold State.pkeRun; dsimp only; (repeat' split) <;> simp (maxDischargeDepth := 60) [*]
@[simp] theorem State.pkeServe_pending (x0 : State) (x1 : Ctx) (x2 : Nat) (x3 : Req) : (State.pkeServe x0 x1 x2 x3).after.pending = x0.pending := by unfold State.pkeServe; dsimp only; (repeat' split) <;> simp [*]
@[simp] theorem State.pkeServe_inv (x0 : State) (x1 : Ctx) (x2 : Nat) (x3 : Req) (h : x0.Inv) : (State.pkeServe x0 x1 x2 x3).after.Inv := by unfold State.pkeServe; dsimp only; (repeat' split) <;> simp [*]
@[simp] theorem State.pkeGo_pending (x0 : State) (x1 : Ctx) : (State.pkeGo x0 x1).pending = x0.pending := by unfold State.pkeGo; simp [*]
@[simp] theorem State.pkeGo_inv (x0 : State) (x1 : Ctx) (h : x0.Inv) : (State.pkeGo x0 x1).Inv := by unfold State.pkeGo; simp [*]
@[simp] theorem State.pkeTake_pending (x0 : State) (x1 : Request) : (State.pkeTake x0 x1).pending = x0.pending := Eq.trans rfl rfl
@[simp] theorem State.pkeTake_inv (x0 : State) (x1 : Request) (h : x0.Inv) : (State.pkeTake x0 x1).Inv := by unfold State.pkeTake; simp [*]
@[simp] theorem State.laneFails_pending (x0 : State) (x1 : Nat) : (State.laneFails x0 x1).pending = x0.pending := Eq.trans rfl rfl
@[simp] theorem State.laneFails_inv (x0 : State) (x1 : Nat) (h : x0.Inv) : (State.laneFails x0 x1).Inv := by unfold State.laneFails; simp [*]
@[simp] theorem State.vaultWrite_pending (x0 : State) (x1 : Nat) (x2 : Word) : (State.vaultWrite x0 x1 x2).pending = x0.pending := by unfold State.vaultWrite; simp [*]
@[simp] theorem State.vaultWrite_inv (x0 : State) (x1 : Nat) (x2 : Word) (h : x0.Inv) : (State.vaultWrite x0 x1 x2).Inv := by unfold State.vaultWrite; simp [*]
@[simp] theorem State.nvmWrite_pending (x0 : State) (x1 : Nat) (x2 : Word) : (State.nvmWrite x0 x1 x2).pending = x0.pending := by unfold State.nvmWrite; (repeat' split) <;> simp [*]
@[simp] theorem State.nvmWrite_inv (x0 : State) (x1 : Nat) (x2 : Word) (h : x0.Inv) : (State.nvmWrite x0 x1 x2).Inv := by unfold State.nvmWrite; (repeat' split) <;> simp [*]
@[simp] theorem State.caskWrite_pending (x0 : State) (x1 : Nat) (x2 : Word) : (State.caskWrite x0 x1 x2).pending = x0.pending := by unfold State.caskWrite; (repeat' split) <;> simp [*]
@[simp] theorem State.caskWrite_inv (x0 : State) (x1 : Nat) (x2 : Word) (h : x0.Inv) : (State.caskWrite x0 x1 x2).Inv := by unfold State.caskWrite; (repeat' split) <;> simp [*]
@[simp] theorem State.schedWrite_pending (x0 : State) (x1 : Nat) (x2 : Word) : (State.schedWrite x0 x1 x2).pending = x0.pending := by unfold State.schedWrite; simp [*]
@[simp] theorem State.schedWrite_inv (x0 : State) (x1 : Nat) (x2 : Word) (h : x0.Inv) : (State.schedWrite x0 x1 x2).Inv := by unfold State.schedWrite; simp [*]
@[simp] theorem State.evtWrite_pending (x0 : State) (x1 : Nat) (x2 : Word) : (State.evtWrite x0 x1 x2).pending = x0.pending := by unfold State.evtWrite; simp [*]
@[simp] theorem State.evtWrite_inv (x0 : State) (x1 : Nat) (x2 : Word) (h : x0.Inv) : (State.evtWrite x0 x1 x2).Inv := by unfold State.evtWrite; simp [*]
@[simp] theorem State.decWrite_pending (x0 : State) (x1 : Nat) (x2 : Word) : (State.decWrite x0 x1 x2).pending = x0.pending := by unfold State.decWrite; simp [*]
@[simp] theorem State.decWrite_inv (x0 : State) (x1 : Nat) (x2 : Word) (h : x0.Inv) : (State.decWrite x0 x1 x2).Inv := by unfold State.decWrite; simp [*]
@[simp] theorem State.pressWrite_pending (x0 : State) (x1 : Nat) (x2 : Word) : (State.pressWrite x0 x1 x2).pending = x0.pending := by unfold State.pressWrite; simp [*]
@[simp] theorem State.pressWrite_inv (x0 : State) (x1 : Nat) (x2 : Word) (h : x0.Inv) : (State.pressWrite x0 x1 x2).Inv := by unfold State.pressWrite; simp [*]
@[simp] theorem State.latWrite_pending (x0 : State) (x1 : Nat) (x2 : Word) : (State.latWrite x0 x1 x2).pending = x0.pending := by unfold State.latWrite; simp [*]
@[simp] theorem State.latWrite_inv (x0 : State) (x1 : Nat) (x2 : Word) (h : x0.Inv) : (State.latWrite x0 x1 x2).Inv := by unfold State.latWrite; simp [*]
@[simp] theorem State.linkCfg_pending (x0 : State) (x1 : Nat) (x2 : Word) : (State.linkCfg x0 x1 x2).pending = x0.pending := Eq.trans rfl rfl
@[simp] theorem State.linkCfg_inv (x0 : State) (x1 : Nat) (x2 : Word) (h : x0.Inv) : (State.linkCfg x0 x1 x2).Inv := by unfold State.linkCfg; simp [*]
@[simp] theorem State.linkTrain_pending (x0 : State) (x1 : Nat) : (State.linkTrain x0 x1).pending = x0.pending := by unfold State.linkTrain; simp [*]
@[simp] theorem State.linkTrain_inv (x0 : State) (x1 : Nat) (h : x0.Inv) : (State.linkTrain x0 x1).Inv := by unfold State.linkTrain; simp [*]
@[simp] theorem State.sendRetrain_pending (x0 : State) (x1 : Lane) : (State.sendRetrain x0 x1).pending = x0.pending := by
  unfold State.sendRetrain; simp [pend_foldl]
@[simp] theorem State.sendRetrain_inv (x0 : State) (x1 : Lane) (h : x0.Inv) : (State.sendRetrain x0 x1).Inv := by unfold State.sendRetrain; simp (maxDischargeDepth := 60) (contextual := true) [inv_foldl, *]
@[simp] theorem State.retrainOwn_pending (x0 : State) (x1 : Lane) : (State.retrainOwn x0 x1).pending = x0.pending := by unfold State.retrainOwn; simp [*]
@[simp] theorem State.retrainOwn_inv (x0 : State) (x1 : Lane) (h : x0.Inv) : (State.retrainOwn x0 x1).Inv := by unfold State.retrainOwn; simp [*]
@[simp] theorem State.linkRetrain_pending (x0 : State) (x1 : Lane) : (State.linkRetrain x0 x1).pending = x0.pending := by unfold State.linkRetrain; simp [*]
@[simp] theorem State.linkRetrain_inv (x0 : State) (x1 : Lane) (h : x0.Inv) : (State.linkRetrain x0 x1).Inv := by unfold State.linkRetrain; simp [*]
@[simp] theorem State.linkBroken_pending (x0 : State) (x1 : Lane) (x2 : BitVec 4) : (State.linkBroken x0 x1 x2).pending = x0.pending := by unfold State.linkBroken; simp [*]
@[simp] theorem State.linkBroken_inv (x0 : State) (x1 : Lane) (x2 : BitVec 4) (h : x0.Inv) : (State.linkBroken x0 x1 x2).Inv := by unfold State.linkBroken; simp [*]
@[simp] theorem State.retrainFailed_pending (x0 : State) (x1 : Nat) : (State.retrainFailed x0 x1).pending = x0.pending := by unfold State.retrainFailed; simp [*]
@[simp] theorem State.retrainFailed_inv (x0 : State) (x1 : Nat) (h : x0.Inv) : (State.retrainFailed x0 x1).Inv := by unfold State.retrainFailed; simp (maxDischargeDepth := 60) [*]
@[simp] theorem State.pktFreed_pending (x0 : State) (x1 : TxPkt) : (State.pktFreed x0 x1).pending = x0.pending := by unfold State.pktFreed; (repeat' split) <;> simp [*]
@[simp] theorem State.pktFreed_inv (x0 : State) (x1 : TxPkt) (h : x0.Inv) : (State.pktFreed x0 x1).Inv := by unfold State.pktFreed; (repeat' split) <;> simp [*]
@[simp] theorem State.freeAcked_pending (x0 : State) (x1 : Nat) (x2 : Nat) (x3 : Nat) : (State.freeAcked x0 x1 x2 x3).pending = x0.pending := by unfold State.freeAcked; simp [pend_foldl, *]
@[simp] theorem State.freeAcked_inv (x0 : State) (x1 : Nat) (x2 : Nat) (x3 : Nat) (h : x0.Inv) : (State.freeAcked x0 x1 x2 x3).Inv := by unfold State.freeAcked; simp (maxDischargeDepth := 60) (contextual := true) [inv_foldl, *]
@[simp] theorem State.replayVc_pending (x0 : State) (x1 : Lane) (x2 : Nat) : (State.replayVc x0 x1 x2).pending = x0.pending := by unfold State.replayVc; simp [*]
@[simp] theorem State.replayVc_inv (x0 : State) (x1 : Lane) (x2 : Nat) (h : x0.Inv) : (State.replayVc x0 x1 x2).Inv := by unfold State.replayVc; simp [*]
@[simp] theorem State.sendAck_pending (x0 : State) (x1 : Lane) (x2 : Nat) : (State.sendAck x0 x1 x2).pending = x0.pending := Eq.trans rfl rfl
@[simp] theorem State.sendAck_inv (x0 : State) (x1 : Lane) (x2 : Nat) (h : x0.Inv) : (State.sendAck x0 x1 x2).Inv := by unfold State.sendAck; simp [*]
@[simp] theorem State.countCrc_pending (x0 : State) (x1 : Nat) : (State.countCrc x0 x1).pending = x0.pending := Eq.trans rfl rfl
@[simp] theorem State.countCrc_inv (x0 : State) (x1 : Nat) (h : x0.Inv) : (State.countCrc x0 x1).Inv := by unfold State.countCrc; simp [*]
@[simp] theorem State.countDrop_pending (x0 : State) (x1 : Nat) : (State.countDrop x0 x1).pending = x0.pending := Eq.trans rfl rfl
@[simp] theorem State.countDrop_inv (x0 : State) (x1 : Nat) (h : x0.Inv) : (State.countDrop x0 x1).Inv := by unfold State.countDrop; simp [*]
@[simp] theorem State.rxAccept_pending (x0 : State) (x1 : Lane) (x2 : Nat) : (State.rxAccept x0 x1 x2).pending = x0.pending := by unfold State.rxAccept; simp [*]
@[simp] theorem State.rxAccept_inv (x0 : State) (x1 : Lane) (x2 : Nat) (h : x0.Inv) : (State.rxAccept x0 x1 x2).Inv := by unfold State.rxAccept; simp [*]
@[simp] theorem State.rxPacket_pending (x0 : State) (x1 : Lane) (x2 : Pkt) (x3 : State → State) (hf : ∀ t, (x3 t).pending = t.pending) : (State.rxPacket x0 x1 x2 x3).pending = x0.pending := by unfold State.rxPacket; simp [*]
@[simp] theorem State.rxPacket_inv (x0 : State) (x1 : Lane) (x2 : Pkt) (x3 : State → State) (hf : ∀ t, t.Inv → (x3 t).Inv) (h : x0.Inv) : (State.rxPacket x0 x1 x2 x3).Inv := by unfold State.rxPacket; simp [*]
@[simp] theorem State.lnkSubmit_pending (x0 : State) (x1 : Ctx) : (State.lnkSubmit x0 x1).pending = x0.pending := by unfold State.lnkSubmit; dsimp only; (repeat' split) <;> simp [*]
@[simp] theorem State.lnkSubmit_inv (x0 : State) (x1 : Ctx) (h : x0.Inv) : (State.lnkSubmit x0 x1).Inv := by unfold State.lnkSubmit; dsimp only; (repeat' split) <;> simp [*]
@[simp] theorem State.lnkCancel_pending (x0 : State) (x1 : Ctx) : (State.lnkCancel x0 x1).pending = x0.pending := by unfold State.lnkCancel; simp [*]
@[simp] theorem State.lnkCancel_inv (x0 : State) (x1 : Ctx) (h : x0.Inv) : (State.lnkCancel x0 x1).Inv := by unfold State.lnkCancel; simp [*]
@[simp] theorem State.lnkRespond_pending (x0 : State) (x1 : Lane) (x2 : Pkt) : (State.lnkRespond x0 x1 x2).pending = x0.pending := by unfold State.lnkRespond; (repeat' split) <;> simp [*]
@[simp] theorem State.lnkRespond_inv (x0 : State) (x1 : Lane) (x2 : Pkt) (h : x0.Inv) : (State.lnkRespond x0 x1 x2).Inv := by unfold State.lnkRespond; (repeat' split) <;> simp (maxDischargeDepth := 60) [*]
@[simp] theorem State.enumNext_pending (x0 : State) (x1 : Nat) : (State.enumNext x0 x1).pending = x0.pending := by unfold State.enumNext; (repeat' split) <;> simp [*]
@[simp] theorem State.enumNext_inv (x0 : State) (x1 : Nat) (h : x0.Inv) : (State.enumNext x0 x1).Inv := by unfold State.enumNext; (repeat' split) <;> simp [*]
@[simp] theorem State.startSearch_pending (x0 : State) (x1 : Nat) : (State.startSearch x0 x1).pending = x0.pending := Eq.trans rfl rfl
@[simp] theorem State.startSearch_inv (x0 : State) (x1 : Nat) (h : x0.Inv) : (State.startSearch x0 x1).Inv := by unfold State.startSearch; simp [*]
@[simp] theorem State.startDiscovery_pending (x0 : State) (x1 : Nat) : (State.startDiscovery x0 x1).pending = x0.pending := by unfold State.startDiscovery; simp [*]
@[simp] theorem State.startDiscovery_inv (x0 : State) (x1 : Nat) (h : x0.Inv) : (State.startDiscovery x0 x1).Inv := by unfold State.startDiscovery; simp [*]
@[simp] theorem State.abortPass_pending (x0 : State) (x1 : Nat) : (State.abortPass x0 x1).pending = x0.pending := by unfold State.abortPass; simp [*]
@[simp] theorem State.abortPass_inv (x0 : State) (x1 : Nat) (h : x0.Inv) : (State.abortPass x0 x1).Inv := by unfold State.abortPass; simp [*]
@[simp] theorem State.tileFound_pending (x0 : State) (x1 : Nat) (x2 : Nat) (x3 : Dword) : (State.tileFound x0 x1 x2 x3).pending = x0.pending := by unfold State.tileFound; simp [*]
@[simp] theorem State.tileFound_inv (x0 : State) (x1 : Nat) (x2 : Nat) (x3 : Dword) (h : x0.Inv) : (State.tileFound x0 x1 x2 x3).Inv := by unfold State.tileFound; simp [*]
@[simp] theorem State.confirmOne_pending (x0 : State) (x1 : Nat) (x2 : Dword) (x3 : List Dword) (x4 : Byte) : (State.confirmOne x0 x1 x2 x3 x4).pending = x0.pending := by unfold State.confirmOne; (repeat' split) <;> simp [*]
@[simp] theorem State.confirmOne_inv (x0 : State) (x1 : Nat) (x2 : Dword) (x3 : List Dword) (x4 : Byte) (h : x0.Inv) : (State.confirmOne x0 x1 x2 x3 x4).Inv := by unfold State.confirmOne; (repeat' split) <;> simp [*]
@[simp] theorem State.enumAnswer_pending (x0 : State) (x1 : Nat) (x2 : Pkt) : (State.enumAnswer x0 x1 x2).pending = x0.pending := by unfold State.enumAnswer; (repeat' split) <;> simp [*]
@[simp] theorem State.enumAnswer_inv (x0 : State) (x1 : Nat) (x2 : Pkt) (h : x0.Inv) : (State.enumAnswer x0 x1 x2).Inv := by unfold State.enumAnswer; (repeat' split) <;> simp [*]
@[simp] theorem State.pingTile_pending (x0 : State) (x1 : Nat) : (State.pingTile x0 x1).pending = x0.pending := by unfold State.pingTile; simp [*]
@[simp] theorem State.pingTile_inv (x0 : State) (x1 : Nat) (h : x0.Inv) : (State.pingTile x0 x1).Inv := by unfold State.pingTile; simp [*]
@[simp] theorem State.pongAnswer_pending (x0 : State) (x1 : Nat) (x2 : Pkt) : (State.pongAnswer x0 x1 x2).pending = x0.pending := by unfold State.pongAnswer; simp [*]
@[simp] theorem State.pongAnswer_inv (x0 : State) (x1 : Nat) (x2 : Pkt) (h : x0.Inv) : (State.pongAnswer x0 x1 x2).Inv := by unfold State.pongAnswer; simp [*]
@[simp] theorem State.linkChange_pending (x0 : State) (x1 : Nat) (x2 : Pkt) : (State.linkChange x0 x1 x2).pending = x0.pending := by unfold State.linkChange; (repeat' split) <;> simp [pend_foldl, *]
@[simp] theorem State.linkChange_inv (x0 : State) (x1 : Nat) (x2 : Pkt) (h : x0.Inv) : (State.linkChange x0 x1 x2).Inv := by unfold State.linkChange; (repeat' split) <;> simp (maxDischargeDepth := 60) (contextual := true) [inv_foldl, *]
@[simp] theorem State.authHello_pending (x0 : State) (x1 : Nat) (x2 : Nat) : (State.authHello x0 x1 x2).pending = x0.pending := by unfold State.authHello; simp [*]
@[simp] theorem State.authHello_inv (x0 : State) (x1 : Nat) (x2 : Nat) (h : x0.Inv) : (State.authHello x0 x1 x2).Inv := by unfold State.authHello; simp (maxDischargeDepth := 60) [*]
@[simp] theorem State.authAnswer_pending (x0 : State) (x1 : Nat) (x2 : Pkt) : (State.authAnswer x0 x1 x2).pending = x0.pending := by unfold State.authAnswer; simp [*]
@[simp] theorem State.authAnswer_inv (x0 : State) (x1 : Nat) (x2 : Pkt) (h : x0.Inv) : (State.authAnswer x0 x1 x2).Inv := by unfold State.authAnswer; simp [*]
@[simp] theorem State.authFail_pending (x0 : State) (x1 : Nat) (x2 : BitVec 4) : (State.authFail x0 x1 x2).pending = x0.pending := by unfold State.authFail; simp [*]
@[simp] theorem State.authFail_inv (x0 : State) (x1 : Nat) (x2 : BitVec 4) (h : x0.Inv) : (State.authFail x0 x1 x2).Inv := by unfold State.authFail; simp [*]
@[simp] theorem State.authVerified_pending (x0 : State) (x1 : Nat) (x2 : Nat) : (State.authVerified x0 x1 x2).pending = x0.pending := by unfold State.authVerified; dsimp only; (repeat' split) <;> simp [*]
@[simp] theorem State.authVerified_inv (x0 : State) (x1 : Nat) (x2 : Nat) (h : x0.Inv) : (State.authVerified x0 x1 x2).Inv := by unfold State.authVerified; dsimp only; (repeat' split) <;> simp [*]
@[simp] theorem State.authDone_pending (x0 : State) (x1 : Nat) (x2 : Pkt) : (State.authDone x0 x1 x2).pending = x0.pending := by unfold State.authDone; simp [*]
@[simp] theorem State.authDone_inv (x0 : State) (x1 : Nat) (x2 : Pkt) (h : x0.Inv) : (State.authDone x0 x1 x2).Inv := by unfold State.authDone; simp (maxDischargeDepth := 60) [*]
@[simp] theorem State.sendCtl_pending (x0 : State) (x1 : Nat) (x2 : Byte) (x3 : Bytes) (x4 : Word → Mgmt) : (State.sendCtl x0 x1 x2 x3 x4).pending = x0.pending := by unfold State.sendCtl; simp [*]
@[simp] theorem State.sendCtl_inv (x0 : State) (x1 : Nat) (x2 : Byte) (x3 : Bytes) (x4 : Word → Mgmt) (h : x0.Inv) : (State.sendCtl x0 x1 x2 x3 x4).Inv := by unfold State.sendCtl; simp [*]
@[simp] theorem State.writeRecord_pending (x0 : State) (x1 : Nat) (x2 : Nat) (x3 : Bytes) : (State.writeRecord x0 x1 x2 x3).pending = x0.pending := by unfold State.writeRecord; simp [*]
@[simp] theorem State.writeRecord_inv (x0 : State) (x1 : Nat) (x2 : Nat) (x3 : Bytes) (h : x0.Inv) : (State.writeRecord x0 x1 x2 x3).Inv := by unfold State.writeRecord; simp [*]
@[simp] theorem State.senseAnswer_pending (x0 : State) (x1 : Nat) (x2 : Pkt) : (State.senseAnswer x0 x1 x2).pending = x0.pending := by unfold State.senseAnswer; dsimp only; (repeat' split) <;> simp [*]
@[simp] theorem State.senseAnswer_inv (x0 : State) (x1 : Nat) (x2 : Pkt) (h : x0.Inv) : (State.senseAnswer x0 x1 x2).Inv := by unfold State.senseAnswer; dsimp only; (repeat' split) <;> simp (maxDischargeDepth := 60) [*]
@[simp] theorem State.limitAnswer_pending (x0 : State) (x1 : Nat) (x2 : Pkt) : (State.limitAnswer x0 x1 x2).pending = x0.pending := by unfold State.limitAnswer; dsimp only; (repeat' split) <;> simp [*]
@[simp] theorem State.limitAnswer_inv (x0 : State) (x1 : Nat) (x2 : Pkt) (h : x0.Inv) : (State.limitAnswer x0 x1 x2).Inv := by unfold State.limitAnswer; dsimp only; (repeat' split) <;> simp [*]
@[simp] theorem State.exchTimeout_pending (x0 : State) (x1 : Nat) (x2 : Mgmt) : (State.exchTimeout x0 x1 x2).pending = x0.pending := by unfold State.exchTimeout; (repeat' split) <;> simp [*]
@[simp] theorem State.exchTimeout_inv (x0 : State) (x1 : Nat) (x2 : Mgmt) (h : x0.Inv) : (State.exchTimeout x0 x1 x2).Inv := by unfold State.exchTimeout; (repeat' split) <;> simp (maxDischargeDepth := 60) [*]
@[simp] theorem State.tileDone_pending (x0 : State) (x1 : BitVec 10) (x2 : Nat) (x3 : Nat) : (State.tileDone x0 x1 x2 x3).pending = x0.pending := by unfold State.tileDone; simp [*]
@[simp] theorem State.tileDone_inv (x0 : State) (x1 : BitVec 10) (x2 : Nat) (x3 : Nat) (h : x0.Inv) : (State.tileDone x0 x1 x2 x3).Inv := by unfold State.tileDone; simp [*]
@[simp] theorem State.loopStart_pending (x0 : State) (x1 : BitVec 10) (x2 : Req) : (State.loopStart x0 x1 x2).pending = x0.pending := by unfold State.loopStart; simp [*]
@[simp] theorem State.loopStart_inv (x0 : State) (x1 : BitVec 10) (x2 : Req) (h : x0.Inv) : (State.loopStart x0 x1 x2).Inv := by unfold State.loopStart; simp [*]
@[simp] theorem State.limitSend_pending (x0 : State) (x1 : BitVec 10) (x2 : Req) : (State.limitSend x0 x1 x2).pending = x0.pending := by unfold State.limitSend; simp [*]
@[simp] theorem State.limitSend_inv (x0 : State) (x1 : BitVec 10) (x2 : Req) (h : x0.Inv) : (State.limitSend x0 x1 x2).Inv := by unfold State.limitSend; simp [*]
@[simp] theorem State.tileGo_pending (x0 : State) (x1 : BitVec 10) : (State.tileGo x0 x1).pending = x0.pending := by unfold State.tileGo; dsimp only; (repeat' split) <;> simp [*]
@[simp] theorem State.tileGo_inv (x0 : State) (x1 : BitVec 10) (h : x0.Inv) : (State.tileGo x0 x1).Inv := by unfold State.tileGo; dsimp only; (repeat' split) <;> simp (maxDischargeDepth := 60) [*]
@[simp] theorem State.staleRecord_pending (x0 : State) (x1 : Nat) (x2 : Nat) : (State.staleRecord x0 x1 x2).pending = x0.pending := by unfold State.staleRecord; simp [*]
@[simp] theorem State.staleRecord_inv (x0 : State) (x1 : Nat) (x2 : Nat) (h : x0.Inv) : (State.staleRecord x0 x1 x2).Inv := by unfold State.staleRecord; simp [*]
@[simp] theorem State.loopPass_pending (x0 : State) (x1 : Nat) : (State.loopPass x0 x1).pending = x0.pending := by unfold State.loopPass; simp [pend_foldl, *]
@[simp] theorem State.loopPass_inv (x0 : State) (x1 : Nat) (h : x0.Inv) : (State.loopPass x0 x1).Inv := by unfold State.loopPass; simp (maxDischargeDepth := 60) (contextual := true) [inv_foldl, *]
@[simp] theorem State.tileResult_pending (x0 : State) (x1 : BitVec 4) : (State.tileResult x0 x1).pending = x0.pending := Eq.trans rfl rfl
@[simp] theorem State.tileResult_inv (x0 : State) (x1 : BitVec 4) (h : x0.Inv) : (State.tileResult x0 x1).Inv := by unfold State.tileResult; simp [*]
@[simp] theorem State.cmdDiscover_pending (x0 : State) (x1 : Nat) : (State.cmdDiscover x0 x1).pending = x0.pending := by unfold State.cmdDiscover; simp [*]
@[simp] theorem State.cmdDiscover_inv (x0 : State) (x1 : Nat) (h : x0.Inv) : (State.cmdDiscover x0 x1).Inv := by unfold State.cmdDiscover; simp [*]
@[simp] theorem State.cmdForget_pending (x0 : State) (x1 : Nat) : (State.cmdForget x0 x1).pending = x0.pending := by unfold State.cmdForget; simp [*]
@[simp] theorem State.cmdForget_inv (x0 : State) (x1 : Nat) (h : x0.Inv) : (State.cmdForget x0 x1).Inv := by unfold State.cmdForget; simp (maxDischargeDepth := 60) [*]
@[simp] theorem State.cmdReauth_pending (x0 : State) (x1 : Nat) (x2 : Nat) : (State.cmdReauth x0 x1 x2).pending = x0.pending := by unfold State.cmdReauth; simp [*]
@[simp] theorem State.cmdReauth_inv (x0 : State) (x1 : Nat) (x2 : Nat) (h : x0.Inv) : (State.cmdReauth x0 x1 x2).Inv := by unfold State.cmdReauth; simp (maxDischargeDepth := 60) [*]
@[simp] theorem State.tileCmd_pending (x0 : State) (x1 : Word) : (State.tileCmd x0 x1).pending = x0.pending := by unfold State.tileCmd; (repeat' split) <;> simp [*]
@[simp] theorem State.tileCmd_inv (x0 : State) (x1 : Word) (h : x0.Inv) : (State.tileCmd x0 x1).Inv := by unfold State.tileCmd; (repeat' split) <;> simp [*]
@[simp] theorem State.makerWrite_pending (x0 : State) (x1 : Nat) (x2 : Nat) (x3 : Word) : (State.makerWrite x0 x1 x2 x3).pending = x0.pending := by unfold State.makerWrite; simp [pend_foldl, *]
@[simp] theorem State.makerWrite_inv (x0 : State) (x1 : Nat) (x2 : Nat) (x3 : Word) (h : x0.Inv) : (State.makerWrite x0 x1 x2 x3).Inv := by unfold State.makerWrite; simp (maxDischargeDepth := 60) (contextual := true) [inv_foldl, *]
@[simp] theorem State.tileCtrl_pending (x0 : State) (x1 : Word) : (State.tileCtrl x0 x1).pending = x0.pending := by unfold State.tileCtrl; simp [*]
@[simp] theorem State.tileCtrl_inv (x0 : State) (x1 : Word) (h : x0.Inv) : (State.tileCtrl x0 x1).Inv := by unfold State.tileCtrl; simp (maxDischargeDepth := 60) [*]
@[simp] theorem State.chainUp_pending (x0 : State) (x1 : Nat) : (State.chainUp x0 x1).pending = x0.pending := by unfold State.chainUp; simp [*]
@[simp] theorem State.chainUp_inv (x0 : State) (x1 : Nat) (h : x0.Inv) : (State.chainUp x0 x1).Inv := by unfold State.chainUp; simp [*]
@[simp] theorem State.ssbStore_pending (x0 : State) (x1 : List Nat) (x2 : Bytes) : (State.ssbStore x0 x1 x2).pending = x0.pending := by unfold State.ssbStore; simp [pend_foldl, *]
@[simp] theorem State.ssbStore_inv (x0 : State) (x1 : List Nat) (x2 : Bytes) (h : x0.Inv) : (State.ssbStore x0 x1 x2).Inv := by unfold State.ssbStore; simp (maxDischargeDepth := 60) (contextual := true) [inv_foldl, *]
@[simp] theorem State.ssbZero_pending (x0 : State) (x1 : List Nat) : (State.ssbZero x0 x1).pending = x0.pending := by unfold State.ssbZero; simp [pend_foldl, *]
@[simp] theorem State.ssbZero_inv (x0 : State) (x1 : List Nat) (h : x0.Inv) : (State.ssbZero x0 x1).Inv := by unfold State.ssbZero; simp (maxDischargeDepth := 60) (contextual := true) [inv_foldl, *]
@[simp] theorem State.segRecord_pending (x0 : State) (x1 : Nat) (x2 : BitVec 4) : (State.segRecord x0 x1 x2).pending = x0.pending := by unfold State.segRecord; simp [*]
@[simp] theorem State.segRecord_inv (x0 : State) (x1 : Nat) (x2 : BitVec 4) (h : x0.Inv) : (State.segRecord x0 x1 x2).Inv := by unfold State.segRecord; simp [*]
@[simp] theorem State.setAsm_pending (x0 : State) (x1 : Nat) (x2 : Assembly) : (State.setAsm x0 x1 x2).pending = x0.pending := Eq.trans rfl rfl
@[simp] theorem State.setAsm_inv (x0 : State) (x1 : Nat) (x2 : Assembly) (h : x0.Inv) : (State.setAsm x0 x1 x2).Inv := by unfold State.setAsm; simp [*]
@[simp] theorem State.asmDrop_pending (x0 : State) (x1 : Nat) : (State.asmDrop x0 x1).pending = x0.pending := by unfold State.asmDrop; simp [*]
@[simp] theorem State.asmDrop_inv (x0 : State) (x1 : Nat) (h : x0.Inv) : (State.asmDrop x0 x1).Inv := by unfold State.asmDrop; simp [*]
@[simp] theorem State.asmBad_pending (x0 : State) (x1 : Nat) : (State.asmBad x0 x1).pending = x0.pending := by unfold State.asmBad; (repeat' split) <;> simp [*]
@[simp] theorem State.asmBad_inv (x0 : State) (x1 : Nat) (h : x0.Inv) : (State.asmBad x0 x1).Inv := by unfold State.asmBad; (repeat' split) <;> simp [*]
@[simp] theorem State.asmHeader_pending (x0 : State) (x1 : Nat) (x2 : Assembly) : (State.asmHeader x0 x1 x2).pending = x0.pending := by unfold State.asmHeader; (repeat' split) <;> simp [*]
@[simp] theorem State.asmHeader_inv (x0 : State) (x1 : Nat) (x2 : Assembly) (h : x0.Inv) : (State.asmHeader x0 x1 x2).Inv := by unfold State.asmHeader; (repeat' split) <;> simp (maxDischargeDepth := 60) [*]
@[simp] theorem State.asmLast_pending (x0 : State) (x1 : Nat) : (State.asmLast x0 x1).pending = x0.pending := by unfold State.asmLast; (repeat' split) <;> simp [*]
@[simp] theorem State.asmLast_inv (x0 : State) (x1 : Nat) (h : x0.Inv) : (State.asmLast x0 x1).Inv := by unfold State.asmLast; (repeat' split) <;> simp [*]
@[simp] theorem State.asmAdd_pending (x0 : State) (x1 : Nat) (x2 : Assembly) (x3 : Bytes) (x4 : Bool) : (State.asmAdd x0 x1 x2 x3 x4).pending = x0.pending := by unfold State.asmAdd; dsimp only; (repeat' split) <;> simp [*]
@[simp] theorem State.asmAdd_inv (x0 : State) (x1 : Nat) (x2 : Assembly) (x3 : Bytes) (x4 : Bool) (h : x0.Inv) : (State.asmAdd x0 x1 x2 x3 x4).Inv := by unfold State.asmAdd; dsimp only; (repeat' split) <;> simp (maxDischargeDepth := 60) [*]
@[simp] theorem State.dataFragment_pending (x0 : State) (x1 : Nat) (x2 : Pkt) : (State.dataFragment x0 x1 x2).pending = x0.pending := by unfold State.dataFragment; dsimp only; (repeat' split) <;> simp [*]
@[simp] theorem State.dataFragment_inv (x0 : State) (x1 : Nat) (x2 : Pkt) (h : x0.Inv) : (State.dataFragment x0 x1 x2).Inv := by unfold State.dataFragment; dsimp only; (repeat' split) <;> simp [*]
@[simp] theorem State.segDrop_pending (x0 : State) (x1 : Nat) : (State.segDrop x0 x1).pending = x0.pending := by unfold State.segDrop; (repeat' split) <;> simp [*]
@[simp] theorem State.segDrop_inv (x0 : State) (x1 : Nat) (h : x0.Inv) : (State.segDrop x0 x1).Inv := by unfold State.segDrop; (repeat' split) <;> simp (maxDischargeDepth := 60) [*]
@[simp] theorem State.segFail_pending (x0 : State) (x1 : Nat) (x2 : Nat) (x3 : BitVec 4) : (State.segFail x0 x1 x2 x3).pending = x0.pending := by unfold State.segFail; simp [*]
@[simp] theorem State.segFail_inv (x0 : State) (x1 : Nat) (x2 : Nat) (x3 : BitVec 4) (h : x0.Inv) : (State.segFail x0 x1 x2 x3).Inv := by unfold State.segFail; simp (maxDischargeDepth := 60) [*]
@[simp] theorem State.segDecrypted_pending (x0 : State) (x1 : Nat) (x2 : Segm) : (State.segDecrypted x0 x1 x2).pending = x0.pending := by unfold State.segDecrypted; dsimp only; (repeat' split) <;> simp [*]
@[simp] theorem State.segDecrypted_inv (x0 : State) (x1 : Nat) (x2 : Segm) (h : x0.Inv) : (State.segDecrypted x0 x1 x2).Inv := by unfold State.segDecrypted; dsimp only; (repeat' split) <;> simp (maxDischargeDepth := 60) [*]
@[simp] theorem State.sendData_pending (x0 : State) (x1 : Nat) (x2 : Byte) (x3 : Bytes) : (State.sendData x0 x1 x2 x3).pending = x0.pending := by unfold State.sendData; simp [*]
@[simp] theorem State.sendData_inv (x0 : State) (x1 : Nat) (x2 : Byte) (x3 : Bytes) (h : x0.Inv) : (State.sendData x0 x1 x2 x3).Inv := by unfold State.sendData; simp [*]
@[simp] theorem State.segRelease_pending (x0 : State) (x1 : Region) (x2 : Segm) : (State.segRelease x0 x1 x2).2.pending = x0.pending := by unfold State.segRelease; simp [*]
@[simp] theorem State.segRelease_inv (x0 : State) (x1 : Region) (x2 : Segm) (h : x0.Inv) : (State.segRelease x0 x1 x2).2.Inv := by unfold State.segRelease; simp [*]
@[simp] theorem State.freeReleased_pending (x0 : State) (x1 : Nat) : (State.freeReleased x0 x1).pending = x0.pending := by
  unfold State.freeReleased
  exact pend_foldl2 (fun a g => by dsimp only; split <;> simp) _ _
@[simp] theorem State.freeReleased_inv (x0 : State) (x1 : Nat) (h : x0.Inv) : (State.freeReleased x0 x1).Inv := by
  unfold State.freeReleased
  have hy := inv_foldl2 (s := (([] : List Segm), x0)) (f := fun (a : List Segm × State) g =>
    if g.region.toNat = x1 ∧ g.phase = .releasable ∧ g.frame = x0.frame.frameNo + 1 then
      (if (a.2.segRelease (x0.region x1) g).1.grans.all (·.isNone) then a.1 else a.1 ++ [(a.2.segRelease (x0.region x1) g).1],
        (a.2.segRelease (x0.region x1) g).2)
    else (a.1 ++ [g], a.2)) (fun a g ha => by split <;> simp [ha]) x0.frame.segs h
  exact (State.inv_iff _).mpr ⟨hy.mem, hy.casks, hy.press, hy.regions, hy.lat, hy.lnk, hy.tiles, hy.forced⟩
@[simp] theorem State.tileReencrypt_pending (x0 : State) (x1 : Nat) (x2 : Nat) : (State.tileReencrypt x0 x1 x2).pending = x0.pending := by unfold State.tileReencrypt; dsimp only; (repeat' split) <;> simp [*]
@[simp] theorem State.tileReencrypt_inv (x0 : State) (x1 : Nat) (x2 : Nat) (h : x0.Inv) : (State.tileReencrypt x0 x1 x2).Inv := by unfold State.tileReencrypt; dsimp only; (repeat' split) <;> simp (maxDischargeDepth := 60) [*]
@[simp] theorem State.fallbackVerdict_pending (x0 : State) (x1 : Region) : (State.fallbackVerdict x0 x1).2.pending = x0.pending := by unfold State.fallbackVerdict; (repeat' split) <;> simp [*]
@[simp] theorem State.fallbackVerdict_inv (x0 : State) (x1 : Region) (h : x0.Inv) : (State.fallbackVerdict x0 x1).2.Inv := by unfold State.fallbackVerdict; (repeat' split) <;> simp [*]
@[simp] theorem State.enterFallback_pending (x0 : State) (x1 : Nat) : (State.enterFallback x0 x1).pending = x0.pending := by unfold State.enterFallback; simp [*]
@[simp] theorem State.enterFallback_inv (x0 : State) (x1 : Nat) (h : x0.Inv) : (State.enterFallback x0 x1).Inv := by unfold State.enterFallback; simp (maxDischargeDepth := 60) [*]
@[simp] theorem State.regionVerdict_pending (x0 : State) (x1 : Nat) : (State.regionVerdict x0 x1).2.pending = x0.pending := by unfold State.regionVerdict; dsimp only; (repeat' split) <;> simp [*]
@[simp] theorem State.regionVerdict_inv (x0 : State) (x1 : Nat) (h : x0.Inv) : (State.regionVerdict x0 x1).2.Inv := by unfold State.regionVerdict; dsimp only; (repeat' split) <;> simp (maxDischargeDepth := 60) [*]
@[simp] theorem State.commitTile_pending (x0 : State) (x1 : Nat) (x2 : Verdict) : (State.commitTile x0 x1 x2).pending = x0.pending := by unfold State.commitTile; simp [*]
@[simp] theorem State.commitTile_inv (x0 : State) (x1 : Nat) (x2 : Verdict) (h : x0.Inv) : (State.commitTile x0 x1 x2).Inv := by unfold State.commitTile; simp [*]
@[simp] theorem State.commitRegion_pending (x0 : State) (x1 : Nat) : (State.commitRegion x0 x1).pending = x0.pending := by unfold State.commitRegion; simp [pend_foldl, *]
@[simp] theorem State.commitRegion_inv (x0 : State) (x1 : Nat) (h : x0.Inv) : (State.commitRegion x0 x1).Inv := by unfold State.commitRegion; simp (maxDischargeDepth := 60) (contextual := true) [inv_foldl, *]
@[simp] theorem State.commitBlack_pending (x0 : State) (x1 : Nat → Bool) : (State.commitBlack x0 x1).pending = x0.pending := by unfold State.commitBlack; simp [pend_foldl, *]
@[simp] theorem State.commitBlack_inv (x0 : State) (x1 : Nat → Bool) (h : x0.Inv) : (State.commitBlack x0 x1).Inv := by unfold State.commitBlack; simp (maxDischargeDepth := 60) (contextual := true) [inv_foldl, *]
@[simp] theorem State.dropFrame_pending (x0 : State) : (State.dropFrame x0).pending = x0.pending := by unfold State.dropFrame; simp [pend_foldl, *]
@[simp] theorem State.dropFrame_inv (x0 : State) (h : x0.Inv) : (State.dropFrame x0).Inv := by unfold State.dropFrame; simp (maxDischargeDepth := 60) (contextual := true) [inv_foldl, *]
@[simp] theorem State.takeDeadline_pending (x0 : State) : (State.takeDeadline x0).pending = x0.pending := by unfold State.takeDeadline; simp [pend_foldl, *]
@[simp] theorem State.takeDeadline_inv (x0 : State) (h : x0.Inv) : (State.takeDeadline x0).Inv := by unfold State.takeDeadline; simp (maxDischargeDepth := 60) (contextual := true) [inv_foldl, *]
@[simp] theorem State.closeWindow_pending (x0 : State) (x1 : Nat) : (State.closeWindow x0 x1).pending = x0.pending := by unfold State.closeWindow; simp [*]
@[simp] theorem State.closeWindow_inv (x0 : State) (x1 : Nat) (h : x0.Inv) : (State.closeWindow x0 x1).Inv := by unfold State.closeWindow; simp [*]
@[simp] theorem State.sendFlip_pending (x0 : State) (x1 : Dword) (x2 : Nat) : (State.sendFlip x0 x1 x2).pending = x0.pending := by unfold State.sendFlip; simp [*]
@[simp] theorem State.sendFlip_inv (x0 : State) (x1 : Dword) (x2 : Nat) (h : x0.Inv) : (State.sendFlip x0 x1 x2).Inv := by unfold State.sendFlip; simp [*]
@[simp] theorem State.sendFlips_pending (x0 : State) (x1 : Dword) : (State.sendFlips x0 x1).pending = x0.pending := by unfold State.sendFlips; simp [pend_foldl, *]
@[simp] theorem State.sendFlips_inv (x0 : State) (x1 : Dword) (h : x0.Inv) : (State.sendFlips x0 x1).Inv := by unfold State.sendFlips; simp (maxDischargeDepth := 60) (contextual := true) [inv_foldl, *]
@[simp] theorem State.frameOut_pending (x0 : State) (x1 : Bool) : (State.frameOut x0 x1).pending = x0.pending := by unfold State.frameOut; simp [*]
@[simp] theorem State.frameOut_inv (x0 : State) (x1 : Bool) (h : x0.Inv) : (State.frameOut x0 x1).Inv := by unfold State.frameOut; simp [*]
@[simp] theorem State.lightTiles_pending (x0 : State) : (State.lightTiles x0).pending = x0.pending := Eq.trans rfl rfl
@[simp] theorem State.lightTiles_inv (x0 : State) (h : x0.Inv) : (State.lightTiles x0).Inv := by unfold State.lightTiles; simp [*]
@[simp] theorem State.flushCleared_pending (x0 : State) : (State.flushCleared x0).pending = x0.pending := by unfold State.flushCleared; simp [pend_foldl, *]
@[simp] theorem State.flushCleared_inv (x0 : State) (h : x0.Inv) : (State.flushCleared x0).Inv := by unfold State.flushCleared; simp (maxDischargeDepth := 60) (contextual := true) [inv_foldl, *]
@[simp] theorem State.boundaryTo_pending (x0 : State) (x1 : Dword) (x2 : Time) : (State.boundaryTo x0 x1 x2).pending = x0.pending := by unfold State.boundaryTo; simp [pend_foldl, *]
@[simp] theorem State.boundaryTo_inv (x0 : State) (x1 : Dword) (x2 : Time) (h : x0.Inv) : (State.boundaryTo x0 x1 x2).Inv := by unfold State.boundaryTo; simp (maxDischargeDepth := 60) (contextual := true) [inv_foldl, *]
@[simp] theorem State.boundary_pending (x0 : State) (x1 : Time) : (State.boundary x0 x1).pending = x0.pending := by unfold State.boundary; simp [*]
@[simp] theorem State.boundary_inv (x0 : State) (x1 : Time) (h : x0.Inv) : (State.boundary x0 x1).Inv := by unfold State.boundary; simp [*]
@[simp] theorem State.fackAnswer_pending (x0 : State) (x1 : Nat) (x2 : Pkt) : (State.fackAnswer x0 x1 x2).pending = x0.pending := by unfold State.fackAnswer; dsimp only; (repeat' split) <;> simp [*]
@[simp] theorem State.fackAnswer_inv (x0 : State) (x1 : Nat) (x2 : Pkt) (h : x0.Inv) : (State.fackAnswer x0 x1 x2).Inv := by unfold State.fackAnswer; dsimp only; (repeat' split) <;> simp [*]
@[simp] theorem State.commitCount_pending (x0 : State) (x1 : Nat) (x2 : Bool) : (State.commitCount x0 x1 x2).pending = x0.pending := by
  unfold State.commitCount
  split
  · rfl
  · next k _ =>
    have h := State.ctrAdd_pending x0 k.ctr k.amount x2
    split
    · rfl
    · split <;> (next e => rw [e] at h; simp at h; simp [h])
@[simp] theorem State.commitCount_inv (x0 : State) (x1 : Nat) (x2 : Bool) (h : x0.Inv) : (State.commitCount x0 x1 x2).Inv := by
  unfold State.commitCount
  split
  · exact h
  · next k _ =>
    have h1 := State.ctrAdd_inv x0 k.ctr k.amount x2 h
    split
    · exact h
    · split <;> (next e => rw [e] at h1; simp at h1; simp [h1])
@[simp] theorem State.tallyAdd_pending (x0 : State) (x1 : Nat) (x2 : RCommit) : (State.tallyAdd x0 x1 x2).pending = x0.pending := by unfold State.tallyAdd; dsimp only; (repeat' split) <;> simp [*]
@[simp] theorem State.tallyAdd_inv (x0 : State) (x1 : Nat) (x2 : RCommit) (h : x0.Inv) : (State.tallyAdd x0 x1 x2).Inv := by unfold State.tallyAdd; dsimp only; (repeat' split) <;> simp [*]
@[simp] theorem State.commitAllNow_pending (x0 : State) : (State.commitAllNow x0).pending = x0.pending := by
  unfold State.commitAllNow
  refine pend_foldl (fun t r => ?_) _ _
  dsimp only
  (repeat' split) <;> simp
@[simp] theorem State.commitAllNow_inv (x0 : State) (h : x0.Inv) : (State.commitAllNow x0).Inv := by
  unfold State.commitAllNow
  refine inv_foldl (fun t r ht => ?_) _ h
  dsimp only
  (repeat' split) <;> simp (maxDischargeDepth := 60) [ht]
@[simp] theorem State.frameErr_pending (x0 : State) (x1 : BitVec 4) : (State.frameErr x0 x1).pending = x0.pending := Eq.trans rfl rfl
@[simp] theorem State.frameErr_inv (x0 : State) (x1 : BitVec 4) (h : x0.Inv) : (State.frameErr x0 x1).Inv := by unfold State.frameErr; simp [*]
@[simp] theorem State.regionWrite_pending (x0 : State) (x1 : Nat) (x2 : Nat) (x3 : Word) : (State.regionWrite x0 x1 x2 x3).pending = x0.pending := by unfold State.regionWrite; simp [*]
@[simp] theorem State.regionWrite_inv (x0 : State) (x1 : Nat) (x2 : Nat) (x3 : Word) (h : x0.Inv) : (State.regionWrite x0 x1 x2 x3).Inv := by unfold State.regionWrite; simp [*]
@[simp] theorem State.frmApply_pending (x0 : State) (x1 : Ctx) : (State.frmApply x0 x1).pending = x0.pending := by unfold State.frmApply; simp [*]
@[simp] theorem State.frmApply_inv (x0 : State) (x1 : Ctx) (h : x0.Inv) : (State.frmApply x0 x1).Inv := by unfold State.frmApply; simp [*]
@[simp] theorem State.frmFlush_pending (x0 : State) (x1 : Ctx) : (State.frmFlush x0 x1).pending = x0.pending := by unfold State.frmFlush; simp [*]
@[simp] theorem State.frmFlush_inv (x0 : State) (x1 : Ctx) (h : x0.Inv) : (State.frmFlush x0 x1).Inv := by unfold State.frmFlush; simp [*]
@[simp] theorem State.frmRead_pending (x0 : State) (x1 : Ctx) : (State.frmRead x0 x1).pending = x0.pending := by unfold State.frmRead; simp [*]
@[simp] theorem State.frmRead_inv (x0 : State) (x1 : Ctx) (h : x0.Inv) : (State.frmRead x0 x1).Inv := by unfold State.frmRead; simp [*]
@[simp] theorem State.spanTo_pending (x0 : State) (x1 : MState) : (State.spanTo x0 x1).pending = x0.pending := by unfold State.spanTo; simp [*]
@[simp] theorem State.spanTo_inv (x0 : State) (x1 : MState) (h : x0.Inv) : (State.spanTo x0 x1).Inv := by unfold State.spanTo; simp [*]
@[simp] theorem State.sendHello_pending (x0 : State) (x1 : Nat) : (State.sendHello x0 x1).pending = x0.pending := by unfold State.sendHello; simp [*]
@[simp] theorem State.sendHello_inv (x0 : State) (x1 : Nat) (h : x0.Inv) : (State.sendHello x0 x1).Inv := by unfold State.sendHello; simp [*]
@[simp] theorem State.spanUp_pending (x0 : State) (x1 : Nat) : (State.spanUp x0 x1).pending = x0.pending := by unfold State.spanUp; simp [*]
@[simp] theorem State.spanUp_inv (x0 : State) (x1 : Nat) (h : x0.Inv) : (State.spanUp x0 x1).Inv := by unfold State.spanUp; simp [*]
@[simp] theorem State.incsFail_pending (x0 : State) : (State.incsFail x0).pending = x0.pending := by unfold State.incsFail; simp [pend_foldl, *]
@[simp] theorem State.incsFail_inv (x0 : State) (h : x0.Inv) : (State.incsFail x0).Inv := by unfold State.incsFail; simp (maxDischargeDepth := 60) (contextual := true) [inv_foldl, *]
@[simp] theorem State.spanOn_pending (x0 : State) : (State.spanOn x0).pending = x0.pending := by unfold State.spanOn; simp [pend_foldl, *]
@[simp] theorem State.spanOn_inv (x0 : State) (h : x0.Inv) : (State.spanOn x0).Inv := by unfold State.spanOn; simp (maxDischargeDepth := 60) (contextual := true) [inv_foldl, *]
@[simp] theorem State.spanOff_pending (x0 : State) : (State.spanOff x0).pending = x0.pending := by unfold State.spanOff; simp [*]
@[simp] theorem State.spanOff_inv (x0 : State) (h : x0.Inv) : (State.spanOff x0).Inv := by unfold State.spanOff; simp [*]
@[simp] theorem State.spanHeard_pending (x0 : State) (x1 : SpanMsg) : (State.spanHeard x0 x1).pending = x0.pending := Eq.trans rfl rfl
@[simp] theorem State.spanHeard_inv (x0 : State) (x1 : SpanMsg) (h : x0.Inv) : (State.spanHeard x0 x1).Inv := by unfold State.spanHeard; simp [*]
@[simp] theorem State.spanVia_pending (x0 : State) (x1 : Nat) (x2 : SpanMsg) : (State.spanVia x0 x1 x2).pending = x0.pending := Eq.trans rfl rfl
@[simp] theorem State.spanVia_inv (x0 : State) (x1 : Nat) (x2 : SpanMsg) (h : x0.Inv) : (State.spanVia x0 x1 x2).Inv := by unfold State.spanVia; simp [*]
@[simp] theorem State.spanForward_pending (x0 : State) (x1 : Nat) (x2 : Byte) (x3 : SpanMsg) : (State.spanForward x0 x1 x2 x3).pending = x0.pending := by unfold State.spanForward; (repeat' split) <;> simp [*]
@[simp] theorem State.spanForward_inv (x0 : State) (x1 : Nat) (x2 : Byte) (x3 : SpanMsg) (h : x0.Inv) : (State.spanForward x0 x1 x2 x3).Inv := by unfold State.spanForward; (repeat' split) <;> simp [*]
@[simp] theorem State.spanRoute_pending (x0 : State) (x1 : Nat) (x2 : Byte) (x3 : SpanMsg) (x4 : State → State) (hf : ∀ t, (x4 t).pending = t.pending) : (State.spanRoute x0 x1 x2 x3 x4).pending = x0.pending := by unfold State.spanRoute; simp [*]
@[simp] theorem State.spanRoute_inv (x0 : State) (x1 : Nat) (x2 : Byte) (x3 : SpanMsg) (x4 : State → State) (hf : ∀ t, t.Inv → (x4 t).Inv) (h : x0.Inv) : (State.spanRoute x0 x1 x2 x3 x4).Inv := by unfold State.spanRoute; simp (maxDischargeDepth := 60) [*]
@[simp] theorem State.spanTake_pending (x0 : State) (x1 : Nat) (x2 : Byte) (x3 : SpanMsg) (x4 : State → State) (hf : ∀ t, (x4 t).pending = t.pending) : (State.spanTake x0 x1 x2 x3 x4).pending = x0.pending := by unfold State.spanTake; (repeat' split) <;> simp [*]
@[simp] theorem State.spanTake_inv (x0 : State) (x1 : Nat) (x2 : Byte) (x3 : SpanMsg) (x4 : State → State) (hf : ∀ t, t.Inv → (x4 t).Inv) (h : x0.Inv) : (State.spanTake x0 x1 x2 x3 x4).Inv := by unfold State.spanTake; (repeat' split) <;> simp (maxDischargeDepth := 60) (contextual := true) [*]
@[simp] theorem State.syncStart_pending (x0 : State) : (State.syncStart x0).pending = x0.pending := by unfold State.syncStart; simp [*]
@[simp] theorem State.syncStart_inv (x0 : State) (h : x0.Inv) : (State.syncStart x0).Inv := by unfold State.syncStart; simp [*]
@[simp] theorem State.loseLock_pending (x0 : State) : (State.loseLock x0).pending = x0.pending := by unfold State.loseLock; simp [*]
@[simp] theorem State.loseLock_inv (x0 : State) (h : x0.Inv) : (State.loseLock x0).Inv := by unfold State.loseLock; simp [*]
@[simp] theorem State.spanRaise_pending (x0 : State) (x1 : Nat) (x2 : Nat) : (State.spanRaise x0 x1 x2).pending = x0.pending := by unfold State.spanRaise; simp [*]
@[simp] theorem State.spanRaise_inv (x0 : State) (x1 : Nat) (x2 : Nat) (h : x0.Inv) : (State.spanRaise x0 x1 x2).Inv := by unfold State.spanRaise; simp [*]
@[simp] theorem State.sendReports_pending (x0 : State) (x1 : Nat) : (State.sendReports x0 x1).pending = x0.pending := by unfold State.sendReports; simp [pend_foldl, *]
@[simp] theorem State.sendReports_inv (x0 : State) (x1 : Nat) (h : x0.Inv) : (State.sendReports x0 x1).Inv := by unfold State.sendReports; simp (maxDischargeDepth := 60) (contextual := true) [inv_foldl, *]
@[simp] theorem State.sendKey_pending (x0 : State) (x1 : Nat) (x2 : Nat) : (State.sendKey x0 x1 x2).pending = x0.pending := by unfold State.sendKey; (repeat' split) <;> simp [*]
@[simp] theorem State.sendKey_inv (x0 : State) (x1 : Nat) (x2 : Nat) (h : x0.Inv) : (State.sendKey x0 x1 x2).Inv := by unfold State.sendKey; (repeat' split) <;> simp [*]
@[simp] theorem State.sendKeys_pending (x0 : State) (x1 : Nat) : (State.sendKeys x0 x1).pending = x0.pending := by unfold State.sendKeys; simp [pend_foldl, *]
@[simp] theorem State.sendKeys_inv (x0 : State) (x1 : Nat) (h : x0.Inv) : (State.sendKeys x0 x1).Inv := by unfold State.sendKeys; simp (maxDischargeDepth := 60) (contextual := true) [inv_foldl, *]
@[simp] theorem State.takeVote_pending (x0 : State) (x1 : Nat) (x2 : Dword) : (State.takeVote x0 x1 x2).2.pending = x0.pending := by unfold State.takeVote; (repeat' split) <;> simp [*]
@[simp] theorem State.takeVote_inv (x0 : State) (x1 : Nat) (x2 : Dword) (h : x0.Inv) : (State.takeVote x0 x1 x2).2.Inv := by unfold State.takeVote; (repeat' split) <;> simp [*]
@[simp] theorem State.sendEpoch_pending (x0 : State) (x1 : Forming) : (State.sendEpoch x0 x1).pending = x0.pending := by unfold State.sendEpoch; simp [pend_foldl, *]
@[simp] theorem State.sendEpoch_inv (x0 : State) (x1 : Forming) (h : x0.Inv) : (State.sendEpoch x0 x1).Inv := by unfold State.sendEpoch; simp (maxDischargeDepth := 60) (contextual := true) [inv_foldl, *]
@[simp] theorem State.epochSet_pending (x0 : State) (x1 : List Nat) : (State.epochSet x0 x1).pending = x0.pending := by unfold State.epochSet; simp [pend_foldl, *]
@[simp] theorem State.epochSet_inv (x0 : State) (x1 : List Nat) (h : x0.Inv) : (State.epochSet x0 x1).Inv := by unfold State.epochSet; simp (maxDischargeDepth := 60) (contextual := true) [inv_foldl, *]
@[simp] theorem State.proposalDone_pending (x0 : State) (x1 : Proposal) : (State.proposalDone x0 x1).pending = x0.pending := by unfold State.proposalDone; dsimp only; (repeat' split) <;> simp [*]
@[simp] theorem State.proposalDone_inv (x0 : State) (x1 : Proposal) (h : x0.Inv) : (State.proposalDone x0 x1).Inv := by unfold State.proposalDone; dsimp only; (repeat' split) <;> simp [*]
@[simp] theorem State.proposalCommit_pending (x0 : State) (x1 : Proposal) : (State.proposalCommit x0 x1).pending = x0.pending := by unfold State.proposalCommit; simp [*]
@[simp] theorem State.proposalCommit_inv (x0 : State) (x1 : Proposal) (h : x0.Inv) : (State.proposalCommit x0 x1).Inv := by unfold State.proposalCommit; simp (maxDischargeDepth := 60) [*]
@[simp] theorem State.propose_pending (x0 : State) (x1 : Proposal) : (State.propose x0 x1).pending = x0.pending := by unfold State.propose; simp [*]
@[simp] theorem State.propose_inv (x0 : State) (x1 : Proposal) (h : x0.Inv) : (State.propose x0 x1).Inv := by unfold State.propose; simp (maxDischargeDepth := 60) [*]
@[simp] theorem State.incPump_pending (x0 : Nat) (x1 : State) : (State.incPump x0 x1).pending = x1.pending := by
  induction x0 generalizing x1 with
  | zero => rfl
  | succ k ih => unfold State.incPump; (repeat' split) <;> simp [ih]
@[simp] theorem State.incPump_inv (x0 : Nat) (x1 : State) (h : x1.Inv) : (State.incPump x0 x1).Inv := by
  induction x0 generalizing x1 with
  | zero => exact h
  | succ k ih => unfold State.incPump; (repeat' split) <;> (try apply ih) <;> simp [h]
@[simp] theorem State.incGo_pending (x0 : State) : (State.incGo x0).pending = x0.pending := by unfold State.incGo; simp [*]
@[simp] theorem State.incGo_inv (x0 : State) (h : x0.Inv) : (State.incGo x0).Inv := by unfold State.incGo; simp [*]
@[simp] theorem State.formGo_pending (x0 : State) (x1 : Forming) : (State.formGo x0 x1).pending = x0.pending := by unfold State.formGo; simp [pend_foldl, *]
@[simp] theorem State.formGo_inv (x0 : State) (x1 : Forming) (h : x0.Inv) : (State.formGo x0 x1).Inv := by unfold State.formGo; simp (maxDischargeDepth := 60) (contextual := true) [inv_foldl, *]
@[simp] theorem State.formEpoch_pending (x0 : State) : (State.formEpoch x0).pending = x0.pending := by unfold State.formEpoch; simp [pend_foldl, *]
@[simp] theorem State.formEpoch_inv (x0 : State) (h : x0.Inv) : (State.formEpoch x0).Inv := by unfold State.formEpoch; simp (maxDischargeDepth := 60) (contextual := true) [inv_foldl, *]
@[simp] theorem State.linkDone_pending (x0 : State) (x1 : Nat) : (State.linkDone x0 x1).pending = x0.pending := by unfold State.linkDone; simp [*]
@[simp] theorem State.linkDone_inv (x0 : State) (x1 : Nat) (h : x0.Inv) : (State.linkDone x0 x1).Inv := by unfold State.linkDone; simp (maxDischargeDepth := 60) [*]
@[simp] theorem State.helloIn_pending (x0 : State) (x1 : Nat) (x2 : SpanMsg) : (State.helloIn x0 x1 x2).pending = x0.pending := by unfold State.helloIn; (repeat' split) <;> simp [*]
@[simp] theorem State.helloIn_inv (x0 : State) (x1 : Nat) (x2 : SpanMsg) (h : x0.Inv) : (State.helloIn x0 x1 x2).Inv := by unfold State.helloIn; (repeat' split) <;> simp (maxDischargeDepth := 60) [*]
@[simp] theorem State.helloAckIn_pending (x0 : State) (x1 : Nat) (x2 : SpanMsg) : (State.helloAckIn x0 x1 x2).pending = x0.pending := by unfold State.helloAckIn; simp [*]
@[simp] theorem State.helloAckIn_inv (x0 : State) (x1 : Nat) (x2 : SpanMsg) (h : x0.Inv) : (State.helloAckIn x0 x1 x2).Inv := by unfold State.helloAckIn; simp [*]
@[simp] theorem State.measure_pending (x0 : State) (x1 : Lane) : (State.measure x0 x1).pending = x0.pending := Eq.trans rfl rfl
@[simp] theorem State.measure_inv (x0 : State) (x1 : Lane) (h : x0.Inv) : (State.measure x0 x1).Inv := by unfold State.measure; simp [*]
@[simp] theorem State.stampAnswer_pending (x0 : State) (x1 : Lane) (x2 : BitVec 16) : (State.stampAnswer x0 x1 x2).pending = x0.pending := by unfold State.stampAnswer; simp [*]
@[simp] theorem State.stampAnswer_inv (x0 : State) (x1 : Lane) (x2 : BitVec 16) (h : x0.Inv) : (State.stampAnswer x0 x1 x2).Inv := by unfold State.stampAnswer; simp (maxDischargeDepth := 60) [*]
@[simp] theorem State.timeStep_pending (x0 : State) (x1 : Int) : (State.timeStep x0 x1).pending = x0.pending := Eq.trans rfl rfl
@[simp] theorem State.timeStep_inv (x0 : State) (x1 : Int) (h : x0.Inv) : (State.timeStep x0 x1).Inv := by unfold State.timeStep; simp [*]
@[simp] theorem State.measured_pending (x0 : State) (x1 : Int) : (State.measured x0 x1).pending = x0.pending := by unfold State.measured; simp [*]
@[simp] theorem State.measured_inv (x0 : State) (x1 : Int) (h : x0.Inv) : (State.measured x0 x1).Inv := by unfold State.measured; simp [*]
@[simp] theorem State.timeRspIn_pending (x0 : State) (x1 : Nat) (x2 : SpanMsg) : (State.timeRspIn x0 x1 x2).pending = x0.pending := by unfold State.timeRspIn; (repeat' split) <;> simp [*]
@[simp] theorem State.timeRspIn_inv (x0 : State) (x1 : Nat) (x2 : SpanMsg) (h : x0.Inv) : (State.timeRspIn x0 x1 x2).Inv := by unfold State.timeRspIn; (repeat' split) <;> simp [*]
@[simp] theorem State.slewTick_pending (x0 : State) : (State.slewTick x0).2.pending = x0.pending := by unfold State.slewTick; (repeat' split) <;> simp [*]
@[simp] theorem State.slewTick_inv (x0 : State) (h : x0.Inv) : (State.slewTick x0).2.Inv := by unfold State.slewTick; (repeat' split) <;> simp [*]
@[simp] theorem State.scheduleIn_pending (x0 : State) (x1 : SpanMsg) : (State.scheduleIn x0 x1).pending = x0.pending := by unfold State.scheduleIn; simp [pend_foldl, *]
@[simp] theorem State.scheduleIn_inv (x0 : State) (x1 : SpanMsg) (h : x0.Inv) : (State.scheduleIn x0 x1).Inv := by unfold State.scheduleIn; (repeat' split) <;> simp (maxDischargeDepth := 60) (contextual := true) [inv_foldl, *]
@[simp] theorem State.reportReqIn_pending (x0 : State) (x1 : SpanMsg) : (State.reportReqIn x0 x1).pending = x0.pending := by unfold State.reportReqIn; simp [*]
@[simp] theorem State.reportReqIn_inv (x0 : State) (x1 : SpanMsg) (h : x0.Inv) : (State.reportReqIn x0 x1).Inv := by unfold State.reportReqIn; simp (maxDischargeDepth := 60) [*]
@[simp] theorem State.reportIn_pending (x0 : State) (x1 : SpanMsg) : (State.reportIn x0 x1).pending = x0.pending := by unfold State.reportIn; (repeat' split) <;> simp [pend_foldl, *]
@[simp] theorem State.reportIn_inv (x0 : State) (x1 : SpanMsg) (h : x0.Inv) : (State.reportIn x0 x1).Inv := by unfold State.reportIn; (repeat' split) <;> simp (maxDischargeDepth := 60) (contextual := true) [inv_foldl, *]
@[simp] theorem State.adopt_pending (x0 : State) (x1 : Nat) (x2 : Nat) : (State.adopt x0 x1 x2).pending = x0.pending := by unfold State.adopt; simp [*]
@[simp] theorem State.adopt_inv (x0 : State) (x1 : Nat) (x2 : Nat) (h : x0.Inv) : (State.adopt x0 x1 x2).Inv := by unfold State.adopt; simp [*]
@[simp] theorem State.epochIn_pending (x0 : State) (x1 : SpanMsg) : (State.epochIn x0 x1).pending = x0.pending := by unfold State.epochIn; simp [pend_foldl, *]
@[simp] theorem State.epochIn_inv (x0 : State) (x1 : SpanMsg) (h : x0.Inv) : (State.epochIn x0 x1).Inv := by unfold State.epochIn; simp (maxDischargeDepth := 60) (contextual := true) [inv_foldl, *]
@[simp] theorem State.incReqIn_pending (x0 : State) (x1 : SpanMsg) : (State.incReqIn x0 x1).pending = x0.pending := by unfold State.incReqIn; simp [*]
@[simp] theorem State.incReqIn_inv (x0 : State) (x1 : SpanMsg) (h : x0.Inv) : (State.incReqIn x0 x1).Inv := by unfold State.incReqIn; simp [*]
@[simp] theorem State.proposeIn_pending (x0 : State) (x1 : SpanMsg) : (State.proposeIn x0 x1).pending = x0.pending := by unfold State.proposeIn; simp [*]
@[simp] theorem State.proposeIn_inv (x0 : State) (x1 : SpanMsg) (h : x0.Inv) : (State.proposeIn x0 x1).Inv := by unfold State.proposeIn; simp [*]
@[simp] theorem State.voteIn_pending (x0 : State) (x1 : SpanMsg) : (State.voteIn x0 x1).pending = x0.pending := by unfold State.voteIn; (repeat' split) <;> simp [*]
@[simp] theorem State.voteIn_inv (x0 : State) (x1 : SpanMsg) (h : x0.Inv) : (State.voteIn x0 x1).Inv := by unfold State.voteIn; (repeat' split) <;> simp [*]
@[simp] theorem State.commitIn_pending (x0 : State) (x1 : SpanMsg) : (State.commitIn x0 x1).pending = x0.pending := by unfold State.commitIn; simp [*]
@[simp] theorem State.commitIn_inv (x0 : State) (x1 : SpanMsg) (h : x0.Inv) : (State.commitIn x0 x1).Inv := by unfold State.commitIn; simp [*]
@[simp] theorem State.doneIn_pending (x0 : State) (x1 : SpanMsg) : (State.doneIn x0 x1).pending = x0.pending := by unfold State.doneIn; (repeat' split) <;> simp [*]
@[simp] theorem State.doneIn_inv (x0 : State) (x1 : SpanMsg) (h : x0.Inv) : (State.doneIn x0 x1).Inv := by unfold State.doneIn; (repeat' split) <;> simp [*]
@[simp] theorem State.incRspIn_pending (x0 : State) (x1 : SpanMsg) : (State.incRspIn x0 x1).pending = x0.pending := by unfold State.incRspIn; (repeat' split) <;> simp [*]
@[simp] theorem State.incRspIn_inv (x0 : State) (x1 : SpanMsg) (h : x0.Inv) : (State.incRspIn x0 x1).Inv := by unfold State.incRspIn; (repeat' split) <;> simp [*]
@[simp] theorem State.spanInc_pending (x0 : State) (x1 : Ctx) (x2 : Nat) (x3 : Nat) : (State.spanInc x0 x1 x2 x3).pending = x0.pending := by unfold State.spanInc; dsimp only; (repeat' split) <;> simp [*]
@[simp] theorem State.spanInc_inv (x0 : State) (x1 : Ctx) (x2 : Nat) (x3 : Nat) (h : x0.Inv) : (State.spanInc x0 x1 x2 x3).Inv := by unfold State.spanInc; dsimp only; (repeat' split) <;> simp [*]
@[simp] theorem State.installKey_pending (x0 : State) (x1 : Nat) (x2 : VSlot) : (State.installKey x0 x1 x2).pending = x0.pending := by unfold State.installKey; (repeat' split) <;> simp [*]
@[simp] theorem State.installKey_inv (x0 : State) (x1 : Nat) (x2 : VSlot) (h : x0.Inv) : (State.installKey x0 x1 x2).Inv := by unfold State.installKey; (repeat' split) <;> simp [*]
@[simp] theorem State.keysIn_pending (x0 : State) (x1 : SpanMsg) : (State.keysIn x0 x1).pending = x0.pending := by unfold State.keysIn; dsimp only; (repeat' split) <;> simp [*]
@[simp] theorem State.keysIn_inv (x0 : State) (x1 : SpanMsg) (h : x0.Inv) : (State.keysIn x0 x1).Inv := by unfold State.keysIn; dsimp only; (repeat' split) <;> simp [*]
@[simp] theorem State.keyDelIn_pending (x0 : State) (x1 : SpanMsg) : (State.keyDelIn x0 x1).pending = x0.pending := by unfold State.keyDelIn; dsimp only; (repeat' split) <;> simp [*]
@[simp] theorem State.keyDelIn_inv (x0 : State) (x1 : SpanMsg) (h : x0.Inv) : (State.keyDelIn x0 x1).Inv := by unfold State.keyDelIn; dsimp only; (repeat' split) <;> simp [*]
@[simp] theorem State.spanResult_pending (x0 : State) (x1 : BitVec 4) : (State.spanResult x0 x1).pending = x0.pending := Eq.trans rfl rfl
@[simp] theorem State.spanResult_inv (x0 : State) (x1 : BitVec 4) (h : x0.Inv) : (State.spanResult x0 x1).Inv := by unfold State.spanResult; simp [*]
@[simp] theorem State.spanPush_pending (x0 : State) : (State.spanPush x0).pending = x0.pending := by unfold State.spanPush; dsimp only; (repeat' split) <;> simp [pend_foldl, *]
@[simp] theorem State.spanPush_inv (x0 : State) (h : x0.Inv) : (State.spanPush x0).Inv := by unfold State.spanPush; dsimp only; (repeat' split) <;> simp (maxDischargeDepth := 60) (contextual := true) [inv_foldl, *]
@[simp] theorem State.spanCommand_pending (x0 : State) (x1 : BitVec 4) : (State.spanCommand x0 x1).pending = x0.pending := by unfold State.spanCommand; simp [*]
@[simp] theorem State.spanCommand_inv (x0 : State) (x1 : BitVec 4) (h : x0.Inv) : (State.spanCommand x0 x1).Inv := by unfold State.spanCommand; simp [*]
@[simp] theorem State.laneUp_pending (x0 : State) (x1 : Nat) (x2 : BitVec 128) : (State.laneUp x0 x1 x2).pending = x0.pending := by unfold State.laneUp; simp [pend_foldl, *]
@[simp] theorem State.laneUp_inv (x0 : State) (x1 : Nat) (x2 : BitVec 128) (h : x0.Inv) : (State.laneUp x0 x1 x2).Inv := by unfold State.laneUp; simp (maxDischargeDepth := 60) (contextual := true) [inv_foldl, *]
@[simp] theorem State.trainFailed_pending (x0 : State) (x1 : Nat) (x2 : BitVec 4) : (State.trainFailed x0 x1 x2).pending = x0.pending := by unfold State.trainFailed; simp [*]
@[simp] theorem State.trainFailed_inv (x0 : State) (x1 : Nat) (x2 : BitVec 4) (h : x0.Inv) : (State.trainFailed x0 x1 x2).Inv := by unfold State.trainFailed; simp (maxDischargeDepth := 60) [*]
@[simp] theorem State.trainStep_pending (x0 : State) (x1 : Nat) (x2 : BitVec 128) : (State.trainStep x0 x1 x2).pending = x0.pending := by unfold State.trainStep; dsimp only; (repeat' split) <;> simp [*]
@[simp] theorem State.trainStep_inv (x0 : State) (x1 : Nat) (x2 : BitVec 128) (h : x0.Inv) : (State.trainStep x0 x1 x2).Inv := by unfold State.trainStep; dsimp only; (repeat' split) <;> simp [*]
@[simp] theorem State.trainBreak_pending (x0 : State) (x1 : Nat) : (State.trainBreak x0 x1).pending = x0.pending := Eq.trans rfl rfl
@[simp] theorem State.trainBreak_inv (x0 : State) (x1 : Nat) (h : x0.Inv) : (State.trainBreak x0 x1).Inv := by unfold State.trainBreak; simp [*]
@[simp] theorem State.sendSchedule_pending (x0 : State) (x1 : Nat) : (State.sendSchedule x0 x1).pending = x0.pending := by unfold State.sendSchedule; simp [*]
@[simp] theorem State.sendSchedule_inv (x0 : State) (x1 : Nat) (h : x0.Inv) : (State.sendSchedule x0 x1).Inv := by unfold State.sendSchedule; simp [*]
@[simp] theorem State.flySchedule_pending (x0 : State) : (State.flySchedule x0).pending = x0.pending := by unfold State.flySchedule; simp [*]
@[simp] theorem State.flySchedule_inv (x0 : State) (h : x0.Inv) : (State.flySchedule x0).Inv := by unfold State.flySchedule; simp (maxDischargeDepth := 60) [*]
@[simp] theorem State.leaderSchedule_pending (x0 : State) : (State.leaderSchedule x0).pending = x0.pending := by unfold State.leaderSchedule; (repeat' split) <;> simp [*]
@[simp] theorem State.leaderSchedule_inv (x0 : State) (h : x0.Inv) : (State.leaderSchedule x0).Inv := by unfold State.leaderSchedule; (repeat' split) <;> simp [*]
@[simp] theorem State.syncDone_pending (x0 : State) : (State.syncDone x0).pending = x0.pending := by unfold State.syncDone; simp [*]
@[simp] theorem State.syncDone_inv (x0 : State) (h : x0.Inv) : (State.syncDone x0).Inv := by unfold State.syncDone; simp [*]
@[simp] theorem State.admitServed_pending (x0 : State) : (State.admitServed x0).pending = x0.pending := by unfold State.admitServed; simp [*]
@[simp] theorem State.admitServed_inv (x0 : State) (h : x0.Inv) : (State.admitServed x0).Inv := by unfold State.admitServed; simp [*]
@[simp] theorem State.spanBoundary_pending (x0 : State) : (State.spanBoundary x0).pending = x0.pending := by unfold State.spanBoundary; simp [*]
@[simp] theorem State.spanBoundary_inv (x0 : State) (h : x0.Inv) : (State.spanBoundary x0).Inv := by unfold State.spanBoundary; simp (maxDischargeDepth := 60) [*]
@[simp] theorem State.takeBoundary_pending (x0 : State) (x1 : Nat) : (State.takeBoundary x0 x1).pending = x0.pending := by unfold State.takeBoundary; simp [*]
@[simp] theorem State.takeBoundary_inv (x0 : State) (x1 : Nat) (h : x0.Inv) : (State.takeBoundary x0 x1).Inv := by unfold State.takeBoundary; simp (maxDischargeDepth := 60) [*]
@[simp] theorem State.frameStart_pending (x0 : State) : (State.frameStart x0).pending = x0.pending := by unfold State.frameStart; simp [*]
@[simp] theorem State.frameStart_inv (x0 : State) (h : x0.Inv) : (State.frameStart x0).Inv := by unfold State.frameStart; simp [*]
@[simp] theorem State.frameCfg_pending (x0 : State) (x1 : Word) : (State.frameCfg x0 x1).pending = x0.pending := by unfold State.frameCfg; simp [*]
@[simp] theorem State.frameCfg_inv (x0 : State) (x1 : Word) (h : x0.Inv) : (State.frameCfg x0 x1).Inv := by unfold State.frameCfg; simp [*]
@[simp] theorem State.framePeriodSet_pending (x0 : State) (x1 : Word) : (State.framePeriodSet x0 x1).pending = x0.pending := by unfold State.framePeriodSet; simp [*]
@[simp] theorem State.framePeriodSet_inv (x0 : State) (x1 : Word) (h : x0.Inv) : (State.framePeriodSet x0 x1).Inv := by unfold State.framePeriodSet; simp [*]
@[simp] theorem State.edgeRejected_pending (x0 : State) : (State.edgeRejected x0).pending = x0.pending := Eq.trans rfl rfl
@[simp] theorem State.edgeRejected_inv (x0 : State) (h : x0.Inv) : (State.edgeRejected x0).Inv := by unfold State.edgeRejected; simp [*]
@[simp] theorem State.spanEdge_pending (x0 : State) (x1 : Bool) : (State.spanEdge x0 x1).pending = x0.pending := by unfold State.spanEdge; simp [*]
@[simp] theorem State.spanEdge_inv (x0 : State) (x1 : Bool) (h : x0.Inv) : (State.spanEdge x0 x1).Inv := by unfold State.spanEdge; simp [*]
@[simp] theorem State.linkCtrl_pending (x0 : State) (x1 : Lane) (x2 : Word) : (State.linkCtrl x0 x1 x2).pending = x0.pending := by unfold State.linkCtrl; simp [*]
@[simp] theorem State.linkCtrl_inv (x0 : State) (x1 : Lane) (x2 : Word) (h : x0.Inv) : (State.linkCtrl x0 x1 x2).Inv := by unfold State.linkCtrl; simp (maxDischargeDepth := 60) [*]
@[simp] theorem State.linkWrite_pending (x0 : State) (x1 : Nat) (x2 : Word) : (State.linkWrite x0 x1 x2).pending = x0.pending := by unfold State.linkWrite; dsimp only; (repeat' split) <;> simp [*]
@[simp] theorem State.linkWrite_inv (x0 : State) (x1 : Nat) (x2 : Word) (h : x0.Inv) : (State.linkWrite x0 x1 x2).Inv := by unfold State.linkWrite; dsimp only; (repeat' split) <;> simp [*]
@[simp] theorem State.tileWrite_pending (x0 : State) (x1 : Nat) (x2 : Word) : (State.tileWrite x0 x1 x2).pending = x0.pending := by unfold State.tileWrite; (repeat' split) <;> simp [*]
@[simp] theorem State.tileWrite_inv (x0 : State) (x1 : Nat) (x2 : Word) (h : x0.Inv) : (State.tileWrite x0 x1 x2).Inv := by unfold State.tileWrite; (repeat' split) <;> simp [*]
@[simp] theorem State.frameBlkWrite_pending (x0 : State) (x1 : Nat) (x2 : Word) : (State.frameBlkWrite x0 x1 x2).pending = x0.pending := by unfold State.frameBlkWrite; (repeat' split) <;> simp [*]
@[simp] theorem State.frameBlkWrite_inv (x0 : State) (x1 : Nat) (x2 : Word) (h : x0.Inv) : (State.frameBlkWrite x0 x1 x2).Inv := by unfold State.frameBlkWrite; (repeat' split) <;> simp [*]
@[simp] theorem State.spanCfgWrite_pending (x0 : State) (x1 : Nat) (x2 : Word) : (State.spanCfgWrite x0 x1 x2).pending = x0.pending := Eq.trans rfl rfl
@[simp] theorem State.spanCfgWrite_inv (x0 : State) (x1 : Nat) (x2 : Word) (h : x0.Inv) : (State.spanCfgWrite x0 x1 x2).Inv := by unfold State.spanCfgWrite; simp [*]
@[simp] theorem State.spanWrite_pending (x0 : State) (x1 : Nat) (x2 : Word) : (State.spanWrite x0 x1 x2).pending = x0.pending := by unfold State.spanWrite; (repeat' split) <;> simp [*]
@[simp] theorem State.spanWrite_inv (x0 : State) (x1 : Nat) (x2 : Word) (h : x0.Inv) : (State.spanWrite x0 x1 x2).Inv := by unfold State.spanWrite; (repeat' split) <;> simp [*]
@[simp] theorem State.hostCfgWrite_pending (x0 : State) (x1 : Word) : (State.hostCfgWrite x0 x1).pending = x0.pending := by unfold State.hostCfgWrite; simp [*]
@[simp] theorem State.hostCfgWrite_inv (x0 : State) (x1 : Word) (h : x0.Inv) : (State.hostCfgWrite x0 x1).Inv := by unfold State.hostCfgWrite; simp [*]
@[simp] theorem State.hostWrite_pending (x0 : State) (x1 : Nat) (x2 : Word) : (State.hostWrite x0 x1 x2).pending = x0.pending := by unfold State.hostWrite; (repeat' split) <;> simp [*]
@[simp] theorem State.hostWrite_inv (x0 : State) (x1 : Nat) (x2 : Word) (h : x0.Inv) : (State.hostWrite x0 x1 x2).Inv := by unfold State.hostWrite; (repeat' split) <;> simp [*]
@[simp] theorem State.setLatches_pending (x0 : State) (x1 : Requester) (x2 : Latches) : (State.setLatches x0 x1 x2).pending = x0.pending := Eq.trans rfl rfl
@[simp] theorem State.setLatches_inv (x0 : State) (x1 : Requester) (x2 : Latches) (h : x0.Inv) : (State.setLatches x0 x1 x2).Inv := by unfold State.setLatches; simp [*]
@[simp] theorem State.loLatch_pending (x0 : State) (x1 : Requester) (x2 : Nat) : (State.loLatch x0 x1 x2).pending = x0.pending := by
  rw [State.loLatch]; generalize ctrlBlk x2 = k; generalize ctrlOff x2 = o; split <;> (repeat' split) <;> rfl
@[simp] theorem State.loLatch_inv (x0 : State) (x1 : Requester) (x2 : Nat) (h : x0.Inv) : (State.loLatch x0 x1 x2).Inv := by unfold State.loLatch; (repeat' split) <;> simp [*]
@[simp] theorem State.blkWrite_pending (x0 : State) (x1 : Nat) (x2 : Word) : (State.blkWrite x0 x1 x2).pending = x0.pending := by
  rw [State.blkWrite]; generalize ctrlBlk x1 = k; generalize ctrlOff x1 = o; split <;> first | rfl | simp
@[simp] theorem State.blkWrite_inv (x0 : State) (x1 : Nat) (x2 : Word) (h : x0.Inv) : (State.blkWrite x0 x1 x2).Inv := by unfold State.blkWrite; (repeat' split) <;> simp [*]
@[simp] theorem State.violation_pending (x0 : State) (x1 : BitVec 3) (x2 : Bool) (x3 : Word) : (State.violation x0 x1 x2 x3).pending = x0.pending := Eq.trans rfl rfl
@[simp] theorem State.violation_inv (x0 : State) (x1 : BitVec 3) (x2 : Bool) (x3 : Word) (h : x0.Inv) : (State.violation x0 x1 x2 x3).Inv := by unfold State.violation; simp [*]
@[simp] theorem State.regRead_pending (x0 : State) (x1 : Requester) (x2 : Word) : (State.regRead x0 x1 x2).2.pending = x0.pending := by unfold State.regRead; (repeat' split) <;> simp [*]
@[simp] theorem State.regRead_inv (x0 : State) (x1 : Requester) (x2 : Word) (h : x0.Inv) : (State.regRead x0 x1 x2).2.Inv := by unfold State.regRead; (repeat' split) <;> simp [*]
@[simp] theorem State.regWrite_pending (x0 : State) (x1 : Requester) (x2 : Word) (x3 : Word) : (State.regWrite x0 x1 x2 x3).pending = x0.pending := by unfold State.regWrite; simp [*]
@[simp] theorem State.regWrite_inv (x0 : State) (x1 : Requester) (x2 : Word) (x3 : Word) (h : x0.Inv) : (State.regWrite x0 x1 x2 x3).Inv := by unfold State.regWrite; simp [*]
@[simp] theorem State.blockWrite_pending (x0 : State) (x1 : Ctx) (x2 : Nat) (x3 : Bytes) : (State.blockWrite x0 x1 x2 x3).pending = x0.pending := by unfold State.blockWrite; (repeat' split) <;> simp [*]
@[simp] theorem State.blockWrite_inv (x0 : State) (x1 : Ctx) (x2 : Nat) (x3 : Bytes) (h : x0.Inv) : (State.blockWrite x0 x1 x2 x3).Inv := by unfold State.blockWrite; (repeat' split) <;> simp [*]
@[simp] theorem State.pageWrite_pending (x0 : State) (x1 : Ctx) (x2 : Nat) (x3 : Nat) (x4 : Bytes) : (State.pageWrite x0 x1 x2 x3 x4).pending = x0.pending := by unfold State.pageWrite; simp [*]
@[simp] theorem State.pageWrite_inv (x0 : State) (x1 : Ctx) (x2 : Nat) (x3 : Nat) (x4 : Bytes) (h : x0.Inv) : (State.pageWrite x0 x1 x2 x3 x4).Inv := by unfold State.pageWrite; simp [*]
theorem snd_ite {α : Type} {n : Prop} [Decidable n] {a b : α} {t u : State} {P : State → Prop} (ht : P t) (hu : P u) :
    P (if n then (a, t) else (b, u)).2 := by split <;> assumption
theorem snd_mk {α : Type} {a : α} {t : State} {P : State → Prop} (ht : P t) : P (a, t).2 := ht
theorem dataRead_keeps (s : State) (c : Ctx) (a : Word) (n : Nat) (P : State → Prop) (h0 : P s) (h1 : P (s.regRead .keystone a).2) :
    P (s.dataRead c a n).2 := by
  by_cases h : c = .keystone ∧ inCtrl a.toNat
  · rw [State.dataRead, if_pos h]; exact snd_ite h1 h0
  · rw [State.dataRead, if_neg h]; exact snd_ite h0 h0
@[simp] theorem State.dataRead_pending (x0 : State) (x1 : Ctx) (x2 : Word) (x3 : Nat) : (State.dataRead x0 x1 x2 x3).2.pending = x0.pending :=
  dataRead_keeps x0 x1 x2 x3 (fun t => t.pending = x0.pending) rfl (State.regRead_pending ..)
@[simp] theorem State.dataRead_inv (x0 : State) (x1 : Ctx) (x2 : Word) (x3 : Nat) (h : x0.Inv) : (State.dataRead x0 x1 x2 x3).2.Inv :=
  dataRead_keeps x0 x1 x2 x3 State.Inv h (State.regRead_inv _ _ _ h)
@[simp] theorem State.dataWriteBy_pending (x0 : State) (w : Option Ctx) (x1 : Ctx) (x2 : Word) (x3 : Bytes) : (State.dataWriteBy x0 w x1 x2 x3).pending = x0.pending := by unfold State.dataWriteBy; simp [*]
@[simp] theorem State.dataWriteBy_inv (x0 : State) (w : Option Ctx) (x1 : Ctx) (x2 : Word) (x3 : Bytes) (h : x0.Inv) : (State.dataWriteBy x0 w x1 x2 x3).Inv := by unfold State.dataWriteBy; simp [*]
@[simp] theorem State.dataWrite_pending (x0 : State) (x1 : Ctx) (x2 : Word) (x3 : Bytes) : (State.dataWrite x0 x1 x2 x3).pending = x0.pending := by unfold State.dataWrite; simp [*]
@[simp] theorem State.dataWrite_inv (x0 : State) (x1 : Ctx) (x2 : Word) (x3 : Bytes) (h : x0.Inv) : (State.dataWrite x0 x1 x2 x3).Inv := by unfold State.dataWrite; simp [*]
@[simp] theorem State.toFallback_pending (x0 : State) (x1 : Ctx) (x2 : Frame4) (x3 : Nat) : (State.toFallback x0 x1 x2 x3).pending = x0.pending := by unfold State.toFallback; (repeat' split) <;> simp [*]
@[simp] theorem State.toFallback_inv (x0 : State) (x1 : Ctx) (x2 : Frame4) (x3 : Nat) (h : x0.Inv) : (State.toFallback x0 x1 x2 x3).Inv := by unfold State.toFallback; (repeat' split) <;> simp (maxDischargeDepth := 60) [*]
@[simp] theorem State.enterHandler_pending (x0 : State) (x1 : Ctx) (x2 : Frame4) : (State.enterHandler x0 x1 x2).pending = x0.pending := by unfold State.enterHandler; simp [*]
@[simp] theorem State.enterHandler_inv (x0 : State) (x1 : Ctx) (x2 : Frame4) (h : x0.Inv) : (State.enterHandler x0 x1 x2).Inv := by unfold State.enterHandler; simp [*]
@[simp] theorem State.takeException_pending (x0 : State) (x1 : Ctx) (x2 : Nat) (x3 : Nat) (x4 : Word) : (State.takeException x0 x1 x2 x3 x4).pending = x0.pending := by unfold State.takeException; simp [*]
@[simp] theorem State.takeException_inv (x0 : State) (x1 : Ctx) (x2 : Nat) (x3 : Nat) (x4 : Word) (h : x0.Inv) : (State.takeException x0 x1 x2 x3 x4).Inv := by unfold State.takeException; simp [*]
@[simp] theorem State.deliver_pending (x0 : State) (x1 : Ctx) (x2 : Nat) : (State.deliver x0 x1 x2).pending = x0.pending := by unfold State.deliver; simp [*]
@[simp] theorem State.deliver_inv (x0 : State) (x1 : Ctx) (x2 : Nat) (h : x0.Inv) : (State.deliver x0 x1 x2).Inv := by unfold State.deliver; simp [*]
@[simp] theorem State.endWait_pending (x0 : State) (x1 : Ctx) (x2 : Wait) : (State.endWait x0 x1 x2).pending = x0.pending := by unfold State.endWait; (repeat' split) <;> simp [*]
@[simp] theorem State.endWait_inv (x0 : State) (x1 : Ctx) (x2 : Wait) (h : x0.Inv) : (State.endWait x0 x1 x2).Inv := by unfold State.endWait; (repeat' split) <;> simp [*]
@[simp] theorem State.setRunning_pending (x0 : State) (x1 : Ctx) : (State.setRunning x0 x1).pending = x0.pending := by unfold State.setRunning; (repeat' split) <;> simp [*]
@[simp] theorem State.setRunning_inv (x0 : State) (x1 : Ctx) (h : x0.Inv) : (State.setRunning x0 x1).Inv := by unfold State.setRunning; (repeat' split) <;> simp [*]
@[simp] theorem State.setWaiting_pending (x0 : State) (x1 : Ctx) : (State.setWaiting x0 x1).pending = x0.pending := by unfold State.setWaiting; (repeat' split) <;> simp [*]
@[simp] theorem State.setWaiting_inv (x0 : State) (x1 : Ctx) (h : x0.Inv) : (State.setWaiting x0 x1).Inv := by unfold State.setWaiting; (repeat' split) <;> simp [*]
@[simp] theorem State.startWait_pending (x0 : State) (x1 : Ctx) (x2 : Wait) : (State.startWait x0 x1 x2).pending = x0.pending := by unfold State.startWait; simp [*]
@[simp] theorem State.startWait_inv (x0 : State) (x1 : Ctx) (x2 : Wait) (h : x0.Inv) : (State.startWait x0 x1 x2).Inv := by unfold State.startWait; simp [*]
@[simp] theorem State.waitFor_pending (x0 : State) (x1 : Ctx) (x2 : Wait) : (State.waitFor x0 x1 x2).pending = x0.pending := by unfold State.waitFor; simp [*]
@[simp] theorem State.waitFor_inv (x0 : State) (x1 : Ctx) (x2 : Wait) (h : x0.Inv) : (State.waitFor x0 x1 x2).Inv := by unfold State.waitFor; simp [*]
@[simp] theorem State.freshFetch_pending (x0 : State) (x1 : Ctx) : (State.freshFetch x0 x1).pending = x0.pending := by unfold State.freshFetch; split <;> rfl
@[simp] theorem State.freshFetch_inv (x0 : State) (x1 : Ctx) (h : x0.Inv) : (State.freshFetch x0 x1).Inv := by unfold State.freshFetch; split <;> simp [h]
@[simp] theorem State.retire_pending (x0 : State) (x1 : State) (x2 : Ctx) (x3 : Nat) (x4 : Flow) : (State.retire x0 x1 x2 x3 x4).pending = x1.pending := by
  unfold State.retire; simp
@[simp] theorem State.retire_inv (x0 : State) (x1 : State) (x2 : Ctx) (x3 : Nat) (x4 : Flow) (h : x1.Inv) : (State.retire x0 x1 x2 x3 x4).Inv := by
  unfold State.retire; simp [h]
@[simp] theorem State.eret_pending (x0 : State) (x1 : Ctx) (x2 : Word) : (State.eret x0 x1 x2).pending = x0.pending := by unfold State.eret; simp [*]
@[simp] theorem State.eret_inv (x0 : State) (x1 : Ctx) (x2 : Word) (h : x0.Inv) : (State.eret x0 x1 x2).Inv := by unfold State.eret; simp [*]
@[simp] theorem State.dbgCapture_pending (x0 : State) (x1 : Nat) (x2 : BitVec 11) (x3 : Word) (x4 : Word) : (State.dbgCapture x0 x1 x2 x3 x4).pending = x0.pending := Eq.trans rfl rfl
@[simp] theorem State.dbgCapture_inv (x0 : State) (x1 : Nat) (x2 : BitVec 11) (x3 : Word) (x4 : Word) (h : x0.Inv) : (State.dbgCapture x0 x1 x2 x3 x4).Inv := by unfold State.dbgCapture; simp [*]
@[simp] theorem State.dbgRefused_pending (x0 : State) (x1 : Nat) (x2 : BitVec 11) (x3 : Word) : (State.dbgRefused x0 x1 x2 x3).pending = x0.pending := Eq.trans rfl rfl
@[simp] theorem State.dbgRefused_inv (x0 : State) (x1 : Nat) (x2 : BitVec 11) (x3 : Word) (h : x0.Inv) : (State.dbgRefused x0 x1 x2 x3).Inv := by unfold State.dbgRefused; simp [*]
@[simp] theorem State.dbgDone_pending (x0 : State) (x1 : Nat) (x2 : BitVec 11) (x3 : Word) : (State.dbgDone x0 x1 x2 x3).pending = x0.pending := Eq.trans rfl rfl
@[simp] theorem State.dbgDone_inv (x0 : State) (x1 : Nat) (x2 : BitVec 11) (x3 : Word) (h : x0.Inv) : (State.dbgDone x0 x1 x2 x3).Inv := by unfold State.dbgDone; simp [*]
@[simp] theorem State.dbgCaskWrite_pending (x0 : State) (x1 : Nat) (x2 : Nat) (x3 : Word) : (State.dbgCaskWrite x0 x1 x2 x3).pending = x0.pending := by unfold State.dbgCaskWrite; simp [*]
@[simp] theorem State.dbgCaskWrite_inv (x0 : State) (x1 : Nat) (x2 : Nat) (x3 : Word) (h : x0.Inv) : (State.dbgCaskWrite x0 x1 x2 x3).Inv := by unfold State.dbgCaskWrite; simp [*]
theorem dbgMapRead_keeps (s : State) (a : Word) (P : State → Prop) (h0 : P s) (h1 : P (s.regRead .debugger a).2) :
    P (s.dbgMapRead a).2 := by
  by_cases h : a.toNat % 4 ≠ 0
  · rw [State.dbgMapRead, if_pos h]; exact h0
  · by_cases hc : inCtrl a.toNat = true
    · rw [State.dbgMapRead, if_neg h, if_pos hc]; exact snd_mk h1
    · rw [State.dbgMapRead, if_neg h, if_neg hc]; exact snd_ite h0 h0
@[simp] theorem State.dbgMapRead_pending (x0 : State) (x1 : Word) : (State.dbgMapRead x0 x1).2.pending = x0.pending :=
  dbgMapRead_keeps x0 x1 (fun t => t.pending = x0.pending) rfl (State.regRead_pending ..)
@[simp] theorem State.dbgMapRead_inv (x0 : State) (x1 : Word) (h : x0.Inv) : (State.dbgMapRead x0 x1).2.Inv :=
  dbgMapRead_keeps x0 x1 State.Inv h (State.regRead_inv _ _ _ h)
@[simp] theorem State.dbgMapWrite_pending (x0 : State) (x1 : Word) (x2 : Word) : (State.dbgMapWrite x0 x1 x2).pending = x0.pending := by unfold State.dbgMapWrite; simp [*]
@[simp] theorem State.dbgMapWrite_inv (x0 : State) (x1 : Word) (x2 : Word) (h : x0.Inv) : (State.dbgMapWrite x0 x1 x2).Inv := by unfold State.dbgMapWrite; simp [*]
@[simp] theorem State.dbgRead'_pending (x0 : State) (x1 : DbgTarget) (x2 : Word) : (State.dbgRead' x0 x1 x2).2.pending = x0.pending := by unfold State.dbgRead'; (repeat' split) <;> simp [*]
@[simp] theorem State.dbgRead'_inv (x0 : State) (x1 : DbgTarget) (x2 : Word) (h : x0.Inv) : (State.dbgRead' x0 x1 x2).2.Inv := by unfold State.dbgRead'; (repeat' split) <;> simp [*]
@[simp] theorem State.dbgWrite'_pending (x0 : State) (x1 : DbgTarget) (x2 : Word) (x3 : Word) : (State.dbgWrite' x0 x1 x2 x3).pending = x0.pending := by unfold State.dbgWrite'; (repeat' split) <;> simp [*]
@[simp] theorem State.dbgWrite'_inv (x0 : State) (x1 : DbgTarget) (x2 : Word) (x3 : Word) (h : x0.Inv) : (State.dbgWrite' x0 x1 x2 x3).Inv := by unfold State.dbgWrite'; (repeat' split) <;> simp [*]
@[simp] theorem State.dbgHalt_pending (x0 : State) (x1 : DbgTarget) : (State.dbgHalt x0 x1).pending = x0.pending := by unfold State.dbgHalt; (repeat' split) <;> simp [*]
@[simp] theorem State.dbgHalt_inv (x0 : State) (x1 : DbgTarget) (h : x0.Inv) : (State.dbgHalt x0 x1).Inv := by unfold State.dbgHalt; (repeat' split) <;> simp [*]
@[simp] theorem State.dbgResume_pending (x0 : State) (x1 : DbgTarget) : (State.dbgResume x0 x1).pending = x0.pending := by unfold State.dbgResume; (repeat' split) <;> simp [*]
@[simp] theorem State.dbgResume_inv (x0 : State) (x1 : DbgTarget) (h : x0.Inv) : (State.dbgResume x0 x1).Inv := by unfold State.dbgResume; (repeat' split) <;> simp [*]
@[simp] theorem State.bar0Do_pending (x0 : State) (x1 : Word) (x2 : Width) (x3 : Option Word) : (State.bar0Do x0 x1 x2 x3).2.pending = x0.pending := by unfold State.bar0Do; (repeat' split) <;> simp [*]
@[simp] theorem State.bar0Do_inv (x0 : State) (x1 : Word) (x2 : Width) (x3 : Option Word) (h : x0.Inv) : (State.bar0Do x0 x1 x2 x3).2.Inv := by unfold State.bar0Do; (repeat' split) <;> simp [*]
@[simp] theorem State.reply_pending (x0 : State) (x1 : HostVia) (x2 : Bytes) : (State.reply x0 x1 x2).pending = x0.pending := Eq.trans rfl rfl
@[simp] theorem State.reply_inv (x0 : State) (x1 : HostVia) (x2 : Bytes) (h : x0.Inv) : (State.reply x0 x1 x2).Inv := by unfold State.reply; simp [*]
@[simp] theorem State.stagingEnd_pending (x0 : State) : (State.stagingEnd x0).pending = x0.pending := Eq.trans rfl rfl
@[simp] theorem State.stagingEnd_inv (x0 : State) (h : x0.Inv) : (State.stagingEnd x0).Inv := by unfold State.stagingEnd; simp [*]
@[simp] theorem State.writeImage_pending (x0 : State) (x1 : Nat) (x2 : Bytes) : (State.writeImage x0 x1 x2).pending = x0.pending := Eq.trans rfl rfl
@[simp] theorem State.writeImage_inv (x0 : State) (x1 : Nat) (x2 : Bytes) (h : x0.Inv) : (State.writeImage x0 x1 x2).Inv := by unfold State.writeImage; simp [*]
@[simp] theorem State.claim_pending (x0 : State) (x1 : HostVia) : (State.claim x0 x1).2.pending = x0.pending := by unfold State.claim; dsimp only; (repeat' split) <;> simp [*]
@[simp] theorem State.claim_inv (x0 : State) (x1 : HostVia) (h : x0.Inv) : (State.claim x0 x1).2.Inv := by unfold State.claim; dsimp only; (repeat' split) <;> simp [*]
@[simp] theorem State.replaceImage_pending (x0 : State) (x1 : HostVia) : (State.replaceImage x0 x1).2.pending = x0.pending := by unfold State.replaceImage; dsimp only; (repeat' split) <;> simp [*]
@[simp] theorem State.replaceImage_inv (x0 : State) (x1 : HostVia) (h : x0.Inv) : (State.replaceImage x0 x1).2.Inv := by unfold State.replaceImage; dsimp only; (repeat' split) <;> simp [*]
@[simp] theorem State.claimReset_pending (x0 : State) : (State.claimReset x0).pending = x0.pending := by unfold State.claimReset; simp [*]
@[simp] theorem State.claimReset_inv (x0 : State) (h : x0.Inv) : (State.claimReset x0).Inv := by unfold State.claimReset; simp [*]
@[simp] theorem State.claimRead_pending (x0 : State) (x1 : HostVia) : (State.claimRead x0 x1).pending = x0.pending := by unfold State.claimRead; simp [*]
@[simp] theorem State.claimRead_inv (x0 : State) (x1 : HostVia) (h : x0.Inv) : (State.claimRead x0 x1).Inv := by unfold State.claimRead; simp [*]
@[simp] theorem State.v1Effect_pending (x0 : State) (x1 : HostVia) (x2 : Nat) (x3 : Nat) (x4 : Bytes) : (State.v1Effect x0 x1 x2 x3 x4).2.2.pending = x0.pending := by unfold State.v1Effect; dsimp only; (repeat' split) <;> simp [*]
@[simp] theorem State.v1Effect_inv (x0 : State) (x1 : HostVia) (x2 : Nat) (x3 : Nat) (x4 : Bytes) (h : x0.Inv) : (State.v1Effect x0 x1 x2 x3 x4).2.2.Inv := by unfold State.v1Effect; dsimp only; (repeat' split) <;> simp [*]
@[simp] theorem State.v1Run_pending (x0 : State) (x1 : HostVia) (x2 : Byte) (x3 : V1Frame) : (State.v1Run x0 x1 x2 x3).2.2.pending = x0.pending := by unfold State.v1Run; dsimp only; (repeat' split) <;> simp [*]
@[simp] theorem State.v1Run_inv (x0 : State) (x1 : HostVia) (x2 : Byte) (x3 : V1Frame) (h : x0.Inv) : (State.v1Run x0 x1 x2 x3).2.2.Inv := by unfold State.v1Run; dsimp only; (repeat' split) <;> simp [*]
@[simp] theorem State.v1Put_pending (x0 : State) (x1 : HostVia) (x2 : BitVec 16) (x3 : Bytes) : (State.v1Put x0 x1 x2 x3).pending = x0.pending := by unfold State.v1Put; (repeat' split) <;> simp [*]
@[simp] theorem State.v1Put_inv (x0 : State) (x1 : HostVia) (x2 : BitVec 16) (x3 : Bytes) (h : x0.Inv) : (State.v1Put x0 x1 x2 x3).Inv := by unfold State.v1Put; (repeat' split) <;> simp [*]
@[simp] theorem State.v1Fresh_pending (x0 : State) (x1 : HostVia) : (State.v1Fresh x0 x1).pending = x0.pending := by unfold State.v1Fresh; (repeat' split) <;> simp [*]
@[simp] theorem State.v1Fresh_inv (x0 : State) (x1 : HostVia) (h : x0.Inv) : (State.v1Fresh x0 x1).Inv := by unfold State.v1Fresh; (repeat' split) <;> simp [*]
@[simp] theorem State.v1Frame_pending (x0 : State) (x1 : HostVia) (x2 : Byte) (x3 : V1Frame) : (State.v1Frame x0 x1 x2 x3).pending = x0.pending := by unfold State.v1Frame; simp [*]
@[simp] theorem State.v1Frame_inv (x0 : State) (x1 : HostVia) (x2 : Byte) (x3 : V1Frame) (h : x0.Inv) : (State.v1Frame x0 x1 x2 x3).Inv := by unfold State.v1Frame; simp (maxDischargeDepth := 60) [*]
@[simp] theorem State.v1Bad_pending (x0 : State) (x1 : HostVia) (x2 : BitVec 16) (x3 : BitVec 16) : (State.v1Bad x0 x1 x2 x3).pending = x0.pending := by unfold State.v1Bad; simp [*]
@[simp] theorem State.v1Bad_inv (x0 : State) (x1 : HostVia) (x2 : BitVec 16) (x3 : BitVec 16) (h : x0.Inv) : (State.v1Bad x0 x1 x2 x3).Inv := by unfold State.v1Bad; simp (maxDischargeDepth := 60) [*]
@[simp] theorem State.v1Take_pending (x0 : State) (x1 : HostVia) (x2 : Byte) (x3 : V1Frame) : (State.v1Take x0 x1 x2 x3).pending = x0.pending := by unfold State.v1Take; simp [*]
@[simp] theorem State.v1Take_inv (x0 : State) (x1 : HostVia) (x2 : Byte) (x3 : V1Frame) (h : x0.Inv) : (State.v1Take x0 x1 x2 x3).Inv := by unfold State.v1Take; simp [*]
@[simp] theorem State.v1Bytes_pending (x0 : State) (x1 : HostVia) (x2 : Bytes) : (State.v1Bytes x0 x1 x2).pending = x0.pending := by unfold State.v1Bytes; simp [*]
@[simp] theorem State.v1Bytes_inv (x0 : State) (x1 : HostVia) (x2 : Bytes) (h : x0.Inv) : (State.v1Bytes x0 x1 x2).Inv := by unfold State.v1Bytes; simp [*]
@[simp] theorem State.setSpi_pending (x0 : State) (x1 : V1Port) : (State.setSpi x0 x1).pending = x0.pending := Eq.trans rfl rfl
@[simp] theorem State.setSpi_inv (x0 : State) (x1 : V1Port) (h : x0.Inv) : (State.setSpi x0 x1).Inv := by unfold State.setSpi; simp [*]
@[simp] theorem State.setI2c_pending (x0 : State) (x1 : V1Port) : (State.setI2c x0 x1).pending = x0.pending := Eq.trans rfl rfl
@[simp] theorem State.setI2c_inv (x0 : State) (x1 : V1Port) (h : x0.Inv) : (State.setI2c x0 x1).Inv := by unfold State.setI2c; simp [*]
@[simp] theorem State.rngRead_pending (x0 : State) (x1 : Ctx) : (State.rngRead x0 x1).2.pending = x0.pending := by unfold State.rngRead; dsimp only; (repeat' split) <;> simp [*]
@[simp] theorem State.rngRead_inv (x0 : State) (x1 : Ctx) (h : x0.Inv) : (State.rngRead x0 x1).2.Inv := by unfold State.rngRead; dsimp only; (repeat' split) <;> simp [*]
@[simp] theorem State.ctrStall_pending (x0 : State) (x1 : Ctx) : (State.ctrStall x0 x1).pending = x0.pending := by unfold State.ctrStall; simp [*]
@[simp] theorem State.ctrStall_inv (x0 : State) (x1 : Ctx) (h : x0.Inv) : (State.ctrStall x0 x1).Inv := by unfold State.ctrStall; simp [*]
@[simp] theorem State.evtSend_pending (x0 : State) (x1 : Ctx) (x2 : Word) : (State.evtSend x0 x1 x2).pending = x0.pending := by unfold State.evtSend; simp [*]
@[simp] theorem State.evtSend_inv (x0 : State) (x1 : Ctx) (x2 : Word) (h : x0.Inv) : (State.evtSend x0 x1 x2).Inv := by unfold State.evtSend; simp [*]
@[simp] theorem State.engineTrigger_pending (x0 : State) (x1 : Ctx) (x2 : Nat) : (State.engineTrigger x0 x1 x2).pending = x0.pending := by unfold State.engineTrigger; (repeat' split) <;> simp [*]
@[simp] theorem State.engineTrigger_inv (x0 : State) (x1 : Ctx) (x2 : Nat) (h : x0.Inv) : (State.engineTrigger x0 x1 x2).Inv := by unfold State.engineTrigger; (repeat' split) <;> simp [*]
/-- What a source leaves: the queue, and the invariant. -/
def SrcRes.keeps (s : State) : SrcRes → Prop
  | .value _ t _ => t.pending = s.pending ∧ (s.Inv → t.Inv)
  | .stall t => t.pending = s.pending ∧ (s.Inv → t.Inv)
theorem keeps_ite (s : State) (c : Prop) [Decidable c] (a b : SrcRes) (ha : a.keeps s) (hb : b.keeps s) : (if c then a else b).keeps s := by
  split <;> assumption
theorem portRead_keeps (s : State) (c : Ctx) (p : Nat) : (s.portRead c p).keeps s := by
  unfold State.portRead
  dsimp only
  repeat' apply keeps_ite
  all_goals first | exact ⟨rfl, id⟩ | (constructor <;> (try split) <;> simp +contextual)
/-- What a destination leaves: the queue, and the invariant. -/
def Eff.keeps (s : State) : Eff → Prop
  | .done t _ => t.pending = s.pending ∧ (s.Inv → t.Inv)
  | .hold t => t.pending = s.pending ∧ (s.Inv → t.Inv)
  | .fault _ _ => True
  | .stall => True
theorem eff_ite (s : State) (c : Prop) [Decidable c] (a b : Eff) (ha : a.keeps s) (hb : b.keeps s) : (if c then a else b).keeps s := by
  split <;> assumption
theorem onRegs_keeps (s : State) (c : Ctx) (f : Regs → Regs) : (s.onRegs c f).keeps s :=
  ⟨State.modRegs_pending s c f, fun h => State.modRegs_inv s c f h⟩
theorem onRegs_keeps' {s u : State} (h : u.pending = s.pending ∧ (s.Inv → u.Inv)) (c : Ctx) (f : Regs → Regs) : (u.onRegs c f).keeps s :=
  ⟨(State.modRegs_pending u c f).trans h.1, fun hs => State.modRegs_inv u c f (h.2 hs)⟩
theorem done_keeps {s u : State} (fl : Flow) (h1 : u.pending = s.pending) (h2 : s.Inv → u.Inv) : (Eff.done u fl).keeps s := ⟨h1, h2⟩
theorem lsuTrigger_keeps (s : State) (c : Ctx) (p w : Nat) (v : Word) : (s.lsuTrigger c p w v).keeps s := by
  unfold State.lsuTrigger
  dsimp only
  generalize (if p = 0x192 ∨ p = 0x193 then (s.regs c).lsu.base + v else v) = a
  generalize (if 0x194 ≤ p then 4 else widthBytes w) = n
  generalize (if p = 0x190 ∨ p = 0x192 then Acc.load else if p = 0x191 ∨ p = 0x193 then Acc.store else Acc.atomic) = acc
  have hx : (s.dataRead c a n).2.pending = s.pending ∧ (s.Inv → (s.dataRead c a n).2.Inv) := ⟨State.dataRead_pending s c a n, fun h => State.dataRead_inv s c a n h⟩
  generalize s.dataRead c a n = x at hx
  split
  · trivial
  · split
    · exact onRegs_keeps' hx c _
    · exact ⟨State.dataWrite_pending _ _ _ _, fun h => State.dataWrite_inv _ _ _ _ h⟩
    · split
      · exact onRegs_keeps' ⟨(State.dataWrite_pending _ _ _ _).trans hx.1, fun h => State.dataWrite_inv _ _ _ _ (hx.2 h)⟩ c _
      · exact onRegs_keeps' hx c _
theorem brTrigger_keeps (s : State) (c : Ctx) (p n : Nat) (v : Word) : (s.brTrigger c p n v).keeps s := by
  unfold State.brTrigger; dsimp only
  repeat' apply eff_ite
  all_goals first | trivial | (constructor <;> simp +contextual)
theorem evtTrigger_keeps (s : State) (c : Ctx) (p : Nat) (v : Word) : (s.evtTrigger c p v).keeps s := by
  unfold State.evtTrigger; split <;> constructor <;> simp +contextual
theorem tmrTrigger_keeps (s : State) (c : Ctx) (p : Nat) (v : Word) : (s.tmrTrigger c p v).keeps s := by
  unfold State.tmrTrigger; dsimp only; split <;> first | exact onRegs_keeps _ _ _ | (constructor <;> simp +contextual)
theorem rptGo_keeps (s : State) (c : Ctx) (n : Nat) (v : Word) : (s.rptGo c n v).keeps s := by
  unfold State.rptGo; dsimp only; apply eff_ite
  · exact onRegs_keeps _ _ _
  · constructor <;> simp +contextual
theorem strTrigger_keeps (s : State) (c : Ctx) (op : BitVec 3) (n : Nat) : (s.strTrigger c op n).keeps s := by
  unfold State.strTrigger; dsimp only; apply eff_ite
  · exact onRegs_keeps _ _ _
  · constructor <;> simp +contextual
theorem sysTrigger_keeps (s : State) (c : Ctx) (p : Nat) (v : Word) : (s.sysTrigger c p v).keeps s := by
  unfold State.sysTrigger; split
  · exact ⟨rfl, id⟩
  · trivial
  · split <;> constructor <;> simp +contextual
theorem ctrTrigger_keeps (s : State) (c : Ctx) (inc : Option Nat) : (s.ctrTrigger c inc).keeps s := by
  unfold State.ctrTrigger; dsimp only; apply eff_ite
  · trivial
  · split
    · exact onRegs_keeps _ _ _
    · split
      · exact onRegs_keeps _ _ _
      · repeat' apply eff_ite
        all_goals first | exact onRegs_keeps _ _ _ | (constructor <;> simp +contextual)
theorem portWrite_keeps (s : State) (c : Ctx) (p w n : Nat) (v : Word) : (s.portWrite c p w n v).keeps s := by
  unfold State.portWrite; dsimp only
  repeat' first
    | exact ctrTrigger_keeps _ _ _ | exact rptGo_keeps _ _ _ _ | exact strTrigger_keeps _ _ _ _ | exact sysTrigger_keeps _ _ _ _
    | exact brTrigger_keeps _ _ _ _ _ | apply eff_ite
  all_goals first
    | exact onRegs_keeps _ _ _ | exact lsuTrigger_keeps _ _ _ _ _ | exact brTrigger_keeps _ _ _ _ _ | exact evtTrigger_keeps _ _ _ _
    | exact tmrTrigger_keeps _ _ _ _ | exact rptGo_keeps _ _ _ _ | exact strTrigger_keeps _ _ _ _ | exact sysTrigger_keeps _ _ _ _
    | exact ctrTrigger_keeps _ _ _ | (constructor <;> simp +contextual)
theorem mvRead_keeps (s : State) (c : Ctx) (m : MvSrc) : (s.mvRead c m).keeps s := by
  cases m with
  | port p => exact portRead_keeps s c p
  | value v => exact ⟨rfl, id⟩
  | mac p i =>
    have h := portRead_keeps s c p
    rw [State.mvRead]
    generalize s.portRead c p = r at h
    cases r <;> exact h
theorem execMv_keeps (s : State) (c : Ctx) (m : Mv) : (s.execMv c m).pending = s.pending ∧ (s.Inv → (s.execMv c m).Inv) := by
  have hr := mvRead_keeps s c m.src
  unfold State.execMv
  generalize s.mvRead c m.src = r at hr
  cases r with
  | stall t => exact hr
  | value v t ecc =>
    obtain ⟨hp, hi⟩ := hr
    dsimp only
    have hw := portWrite_keeps t c m.dst m.width m.len (if converts m.dst then widen m.width v else v)
    generalize t.portWrite c m.dst m.width m.len (if converts m.dst then widen m.width v else v) = e at hw
    cases e with
    | fault code a => dsimp only; (repeat' split) <;> simp +contextual
    | stall => cases ecc <;> simp +contextual
    | done u fl =>
      cases ecc with
      | some a => simp +contextual
      | none => exact ⟨(State.retire_pending ..).trans (hw.1.trans hp), fun h => State.retire_inv _ _ _ _ _ (hw.2 (hi h))⟩
    | hold u =>
      cases ecc with
      | some a => simp +contextual
      | none => exact ⟨hw.1.trans hp, fun h => hw.2 (hi h)⟩
@[simp] theorem State.execMv_pending (x0 : State) (x1 : Ctx) (x2 : Mv) : (State.execMv x0 x1 x2).pending = x0.pending := (execMv_keeps x0 x1 x2).1
@[simp] theorem State.execMv_inv (x0 : State) (x1 : Ctx) (x2 : Mv) (h : x0.Inv) : (State.execMv x0 x1 x2).Inv := (execMv_keeps x0 x1 x2).2 h
@[simp] theorem State.issueMv_pending (x0 : State) (x1 : Ctx) (x2 : Mv) : (State.issueMv x0 x1 x2).pending = x0.pending := by unfold State.issueMv; (repeat' split) <;> simp [*]
@[simp] theorem State.issueMv_inv (x0 : State) (x1 : Ctx) (x2 : Mv) (h : x0.Inv) : (State.issueMv x0 x1 x2).Inv := by unfold State.issueMv; (repeat' split) <;> simp [*]
@[simp] theorem State.fetchMv_pending (x0 : State) (x1 : Ctx) (x2 : Bool) (x3 : Bool) : (State.fetchMv x0 x1 x2 x3).pending = x0.pending := by unfold State.fetchMv; dsimp only; (repeat' split) <;> simp [*]
@[simp] theorem State.fetchMv_inv (x0 : State) (x1 : Ctx) (x2 : Bool) (x3 : Bool) (h : x0.Inv) : (State.fetchMv x0 x1 x2 x3).Inv := by unfold State.fetchMv; dsimp only; (repeat' split) <;> simp [*]
@[simp] theorem State.wdogFirst_pending (x0 : State) (x1 : Ctx) : (State.wdogFirst x0 x1).pending = x0.pending := by unfold State.wdogFirst; simp [*]
@[simp] theorem State.wdogFirst_inv (x0 : State) (x1 : Ctx) (h : x0.Inv) : (State.wdogFirst x0 x1).Inv := by unfold State.wdogFirst; simp [*]
@[simp] theorem State.waitDone_pending (x0 : State) (x1 : Ctx) : (State.waitDone x0 x1).pending = x0.pending := by unfold State.waitDone; (repeat' split) <;> simp [*]
@[simp] theorem State.waitDone_inv (x0 : State) (x1 : Ctx) (h : x0.Inv) : (State.waitDone x0 x1).Inv := by unfold State.waitDone; (repeat' split) <;> simp [*]
@[simp] theorem State.pressFault_pending (x0 : State) (x1 : Nat) (x2 : Nat) : (State.pressFault x0 x1 x2).pending = x0.pending := Eq.trans rfl rfl
@[simp] theorem State.pressFault_inv (x0 : State) (x1 : Nat) (x2 : Nat) (h : x0.Inv) : (State.pressFault x0 x1 x2).Inv := by unfold State.pressFault; simp [*]
@[simp] theorem State.cryParity_pending (x0 : State) (x1 : Nat) (x2 : PressJob) : (State.cryParity x0 x1 x2).pending = x0.pending := by unfold State.cryParity; simp [*]
@[simp] theorem State.cryParity_inv (x0 : State) (x1 : Nat) (x2 : PressJob) (h : x0.Inv) : (State.cryParity x0 x1 x2).Inv := by unfold State.cryParity; simp (maxDischargeDepth := 60) [*]
@[simp] theorem State.strPut_pending (x0 : Ctx) (x1 : Str) (x2 : State) (x3 : Nat) : (State.strPut x0 x1 x2 x3).pending = x2.pending := by unfold State.strPut; (repeat' split) <;> simp [*]
@[simp] theorem State.strPut_inv (x0 : Ctx) (x1 : Str) (x2 : State) (x3 : Nat) (h : x2.Inv) : (State.strPut x0 x1 x2 x3).Inv := by unfold State.strPut; (repeat' split) <;> simp [*]
@[simp] theorem State.strStep_pending (x0 : State) (x1 : Ctx) (x2 : Nat) : (State.strStep x0 x1 x2).pending = x0.pending := by unfold State.strStep; dsimp only; (repeat' split) <;> simp [pend_foldl, *]
@[simp] theorem State.strStep_inv (x0 : State) (x1 : Ctx) (x2 : Nat) (h : x0.Inv) : (State.strStep x0 x1 x2).Inv := by unfold State.strStep; dsimp only; (repeat' split) <;> simp (maxDischargeDepth := 60) (contextual := true) [inv_foldl, *]
@[simp] theorem State.idle_pending (x0 : State) : (State.idle x0).pending = x0.pending := by unfold State.idle; simp [*]
@[simp] theorem State.idle_inv (x0 : State) (h : x0.Inv) : (State.idle x0).Inv := by unfold State.idle; simp [*]
@[simp] theorem State.heardFrom_pending (x0 : State) (x1 : Lane) (x2 : SpanMsg) : (State.heardFrom x0 x1 x2).pending = x0.pending := Eq.trans rfl rfl
@[simp] theorem State.heardFrom_inv (x0 : State) (x1 : Lane) (x2 : SpanMsg) (h : x0.Inv) : (State.heardFrom x0 x1 x2).Inv := by unfold State.heardFrom; simp [*]

end Sys2Proof.Machine
end

