-- ==== Sys2Proof/Laws/State.lean ====
section
/-! SUPPORT. The state field by field: what each named update leaves of every other field, and what reading a table, a cask, a
context's registers or its lines gives after a write. The queue is in Laws/Kept. -/

namespace Sys2Proof.Machine

open Sys2Proof

/-! ## Tables: a read after a write gives what was written, and no other key changes -/

@[simp] theorem tget_tset_same {α : Type} (t : Tab α) (k : Nat) (v d : α) : tget (tset t k v) k d = v := by
  induction t with
  | nil => simp [tset, tget]
  | cons e t ih =>
    obtain ⟨j, w⟩ := e
    simp only [tset]
    by_cases h1 : j = k
    · simp [h1, tget]
    · by_cases h2 : k < j
      · simp [h1, h2, tget]
      · simp [h1, h2, tget, ih]

theorem tget_tset_other {α : Type} (t : Tab α) {k j : Nat} (h : j ≠ k) (v d : α) : tget (tset t k v) j d = tget t j d := by
  induction t with
  | nil => simp [tset, tget, Ne.symm h]
  | cons e t ih =>
    obtain ⟨i, w⟩ := e
    simp only [tset]
    by_cases h1 : i = k
    · subst h1; simp [tget, Ne.symm h]
    · by_cases h2 : k < i
      · simp [h1, h2, tget, Ne.symm h]
      · simp only [h1, h2, if_false, tget]; split <;> simp [*]

/-! ## Casks, registers and lines -/

@[simp] theorem State.cask_setCask_same (s : State) (n : Nat) (k : Cask) : (s.setCask n k).cask n = k := tget_tset_same _ _ _ _
theorem State.cask_setCask_other (s : State) {n m : Nat} (h : m ≠ n) (k : Cask) : (s.setCask n k).cask m = s.cask m :=
  tget_tset_other _ h _ _
@[simp] theorem State.regs_setRegs_same (s : State) (c : Ctx) (r : Regs) : (s.setRegs c r).regs c = r := by
  cases c <;> simp [State.setRegs, State.regs]
theorem State.regs_setRegs_other (s : State) {c d : Ctx} (h : d ≠ c) (r : Regs) : (s.setRegs c r).regs d = s.regs d := by
  cases c with
  | keystone => cases d with
    | keystone => exact absurd rfl h
    | cask m => rfl
  | cask n => cases d with
    | keystone => rfl
    | cask m =>
      have hm : m.toNat ≠ n.toNat := fun e => h (congrArg Ctx.cask (BitVec.eq_of_toNat_eq e))
      simp [State.setRegs, State.regs, State.cask_setCask_other _ hm]
@[simp] theorem State.pendOf_setRegs (s : State) (c d : Ctx) (r : Regs) : (s.setRegs c r).pendOf d = s.pendOf d := by
  cases c with
  | keystone => cases d <;> rfl
  | cask n => cases d with
    | keystone => rfl
    | cask m =>
      by_cases hm : m.toNat = n.toNat
      · simp [State.setRegs, State.pendOf, hm]
      · simp [State.setRegs, State.pendOf, State.cask_setCask_other _ hm]
@[simp] theorem State.pendOf_setPend_same (s : State) (c : Ctx) (p : Word) : (s.setPend c p).pendOf c = p := by
  cases c <;> simp [State.setPend, State.pendOf]
@[simp] theorem State.regs_setPend (s : State) (c d : Ctx) (p : Word) : (s.setPend c p).regs d = s.regs d := by
  cases c with
  | keystone => cases d <;> rfl
  | cask n => cases d with
    | keystone => rfl
    | cask m =>
      by_cases hm : m.toNat = n.toNat
      · simp [State.setPend, State.regs, hm]
      · simp [State.setPend, State.regs, State.cask_setCask_other _ hm]

/-! ## Field by field -/

@[simp] theorem State.wrBytes_life (s : State) (a : Nat) (bs : Bytes) : (s.wrBytes a bs).life = s.life := rfl
@[simp] theorem State.wrBytes_dbg (s : State) (a : Nat) (bs : Bytes) : (s.wrBytes a bs).dbg = s.dbg := rfl
@[simp] theorem State.wrBytes_tap (s : State) (a : Nat) (bs : Bytes) : (s.wrBytes a bs).tap = s.tap := rfl
@[simp] theorem State.wrBytes_clk (s : State) (a : Nat) (bs : Bytes) : (s.wrBytes a bs).clk = s.clk := rfl
@[simp] theorem State.wrBytes_pwr (s : State) (a : Nat) (bs : Bytes) : (s.wrBytes a bs).pwr = s.pwr := rfl
@[simp] theorem State.wrBytes_tamp (s : State) (a : Nat) (bs : Bytes) : (s.wrBytes a bs).tamp = s.tamp := rfl
@[simp] theorem State.wrBytes_nvm (s : State) (a : Nat) (bs : Bytes) : (s.wrBytes a bs).nvm = s.nvm := rfl
@[simp] theorem State.wrBytes_ctrs (s : State) (a : Nat) (bs : Bytes) : (s.wrBytes a bs).ctrs = s.ctrs := rfl
@[simp] theorem State.wrBytes_vault (s : State) (a : Nat) (bs : Bytes) : (s.wrBytes a bs).vault = s.vault := rfl
@[simp] theorem State.wrBytes_rng (s : State) (a : Nat) (bs : Bytes) : (s.wrBytes a bs).rng = s.rng := rfl
@[simp] theorem State.wrBytes_ks (s : State) (a : Nat) (bs : Bytes) : (s.wrBytes a bs).ks = s.ks := rfl
@[simp] theorem State.wrBytes_casks (s : State) (a : Nat) (bs : Bytes) : (s.wrBytes a bs).casks = s.casks := rfl
@[simp] theorem State.wrBytes_caskBlk (s : State) (a : Nat) (bs : Bytes) : (s.wrBytes a bs).caskBlk = s.caskBlk := rfl
@[simp] theorem State.wrBytes_sched (s : State) (a : Nat) (bs : Bytes) : (s.wrBytes a bs).sched = s.sched := rfl
@[simp] theorem State.wrBytes_dec (s : State) (a : Nat) (bs : Bytes) : (s.wrBytes a bs).dec = s.dec := rfl
@[simp] theorem State.wrBytes_press (s : State) (a : Nat) (bs : Bytes) : (s.wrBytes a bs).press = s.press := rfl
@[simp] theorem State.wrBytes_lat (s : State) (a : Nat) (bs : Bytes) : (s.wrBytes a bs).lat = s.lat := rfl
@[simp] theorem State.wrBytes_lanes (s : State) (a : Nat) (bs : Bytes) : (s.wrBytes a bs).lanes = s.lanes := rfl
@[simp] theorem State.wrBytes_lnk (s : State) (a : Nat) (bs : Bytes) : (s.wrBytes a bs).lnk = s.lnk := rfl
@[simp] theorem State.wrBytes_tile (s : State) (a : Nat) (bs : Bytes) : (s.wrBytes a bs).tile = s.tile := rfl
@[simp] theorem State.wrBytes_frame (s : State) (a : Nat) (bs : Bytes) : (s.wrBytes a bs).frame = s.frame := rfl
@[simp] theorem State.wrBytes_span (s : State) (a : Nat) (bs : Bytes) : (s.wrBytes a bs).span = s.span := rfl
@[simp] theorem State.wrBytes_host (s : State) (a : Nat) (bs : Bytes) : (s.wrBytes a bs).host = s.host := rfl
@[simp] theorem State.wrBytes_gpio (s : State) (a : Nat) (bs : Bytes) : (s.wrBytes a bs).gpio = s.gpio := rfl
@[simp] theorem State.wrBytes_latches (s : State) (a : Nat) (bs : Bytes) : (s.wrBytes a bs).latches = s.latches := rfl
@[simp] theorem State.wrBytes_stale (s : State) (a : Nat) (bs : Bytes) : (s.wrBytes a bs).stale = s.stale := rfl
@[simp] theorem State.wrBytes_draw (s : State) (a : Nat) (bs : Bytes) : (s.wrBytes a bs).draw = s.draw := rfl
@[simp] theorem State.wrBytes_out (s : State) (a : Nat) (bs : Bytes) : (s.wrBytes a bs).out = s.out := rfl

@[simp] theorem State.clear_life (s : State) (a n : Nat) : (s.clear a n).life = s.life := rfl
@[simp] theorem State.clear_dbg (s : State) (a n : Nat) : (s.clear a n).dbg = s.dbg := rfl
@[simp] theorem State.clear_tap (s : State) (a n : Nat) : (s.clear a n).tap = s.tap := rfl
@[simp] theorem State.clear_clk (s : State) (a n : Nat) : (s.clear a n).clk = s.clk := rfl
@[simp] theorem State.clear_pwr (s : State) (a n : Nat) : (s.clear a n).pwr = s.pwr := rfl
@[simp] theorem State.clear_tamp (s : State) (a n : Nat) : (s.clear a n).tamp = s.tamp := rfl
@[simp] theorem State.clear_nvm (s : State) (a n : Nat) : (s.clear a n).nvm = s.nvm := rfl
@[simp] theorem State.clear_ctrs (s : State) (a n : Nat) : (s.clear a n).ctrs = s.ctrs := rfl
@[simp] theorem State.clear_vault (s : State) (a n : Nat) : (s.clear a n).vault = s.vault := rfl
@[simp] theorem State.clear_rng (s : State) (a n : Nat) : (s.clear a n).rng = s.rng := rfl
@[simp] theorem State.clear_ks (s : State) (a n : Nat) : (s.clear a n).ks = s.ks := rfl
@[simp] theorem State.clear_casks (s : State) (a n : Nat) : (s.clear a n).casks = s.casks := rfl
@[simp] theorem State.clear_caskBlk (s : State) (a n : Nat) : (s.clear a n).caskBlk = s.caskBlk := rfl
@[simp] theorem State.clear_sched (s : State) (a n : Nat) : (s.clear a n).sched = s.sched := rfl
@[simp] theorem State.clear_dec (s : State) (a n : Nat) : (s.clear a n).dec = s.dec := rfl
@[simp] theorem State.clear_press (s : State) (a n : Nat) : (s.clear a n).press = s.press := rfl
@[simp] theorem State.clear_lat (s : State) (a n : Nat) : (s.clear a n).lat = s.lat := rfl
@[simp] theorem State.clear_lanes (s : State) (a n : Nat) : (s.clear a n).lanes = s.lanes := rfl
@[simp] theorem State.clear_lnk (s : State) (a n : Nat) : (s.clear a n).lnk = s.lnk := rfl
@[simp] theorem State.clear_tile (s : State) (a n : Nat) : (s.clear a n).tile = s.tile := rfl
@[simp] theorem State.clear_frame (s : State) (a n : Nat) : (s.clear a n).frame = s.frame := rfl
@[simp] theorem State.clear_span (s : State) (a n : Nat) : (s.clear a n).span = s.span := rfl
@[simp] theorem State.clear_host (s : State) (a n : Nat) : (s.clear a n).host = s.host := rfl
@[simp] theorem State.clear_gpio (s : State) (a n : Nat) : (s.clear a n).gpio = s.gpio := rfl
@[simp] theorem State.clear_latches (s : State) (a n : Nat) : (s.clear a n).latches = s.latches := rfl
@[simp] theorem State.clear_stale (s : State) (a n : Nat) : (s.clear a n).stale = s.stale := rfl
@[simp] theorem State.clear_draw (s : State) (a n : Nat) : (s.clear a n).draw = s.draw := rfl
@[simp] theorem State.clear_out (s : State) (a n : Nat) : (s.clear a n).out = s.out := rfl

@[simp] theorem State.emit_life (s : State) (o : Output) : (s.emit o).life = s.life := rfl
@[simp] theorem State.emit_dbg (s : State) (o : Output) : (s.emit o).dbg = s.dbg := rfl
@[simp] theorem State.emit_tap (s : State) (o : Output) : (s.emit o).tap = s.tap := rfl
@[simp] theorem State.emit_clk (s : State) (o : Output) : (s.emit o).clk = s.clk := rfl
@[simp] theorem State.emit_pwr (s : State) (o : Output) : (s.emit o).pwr = s.pwr := rfl
@[simp] theorem State.emit_tamp (s : State) (o : Output) : (s.emit o).tamp = s.tamp := rfl
@[simp] theorem State.emit_mem (s : State) (o : Output) : (s.emit o).mem = s.mem := rfl
@[simp] theorem State.emit_nvm (s : State) (o : Output) : (s.emit o).nvm = s.nvm := rfl
@[simp] theorem State.emit_ctrs (s : State) (o : Output) : (s.emit o).ctrs = s.ctrs := rfl
@[simp] theorem State.emit_vault (s : State) (o : Output) : (s.emit o).vault = s.vault := rfl
@[simp] theorem State.emit_rng (s : State) (o : Output) : (s.emit o).rng = s.rng := rfl
@[simp] theorem State.emit_ks (s : State) (o : Output) : (s.emit o).ks = s.ks := rfl
@[simp] theorem State.emit_casks (s : State) (o : Output) : (s.emit o).casks = s.casks := rfl
@[simp] theorem State.emit_caskBlk (s : State) (o : Output) : (s.emit o).caskBlk = s.caskBlk := rfl
@[simp] theorem State.emit_sched (s : State) (o : Output) : (s.emit o).sched = s.sched := rfl
@[simp] theorem State.emit_dec (s : State) (o : Output) : (s.emit o).dec = s.dec := rfl
@[simp] theorem State.emit_press (s : State) (o : Output) : (s.emit o).press = s.press := rfl
@[simp] theorem State.emit_lat (s : State) (o : Output) : (s.emit o).lat = s.lat := rfl
@[simp] theorem State.emit_lanes (s : State) (o : Output) : (s.emit o).lanes = s.lanes := rfl
@[simp] theorem State.emit_lnk (s : State) (o : Output) : (s.emit o).lnk = s.lnk := rfl
@[simp] theorem State.emit_tile (s : State) (o : Output) : (s.emit o).tile = s.tile := rfl
@[simp] theorem State.emit_frame (s : State) (o : Output) : (s.emit o).frame = s.frame := rfl
@[simp] theorem State.emit_span (s : State) (o : Output) : (s.emit o).span = s.span := rfl
@[simp] theorem State.emit_host (s : State) (o : Output) : (s.emit o).host = s.host := rfl
@[simp] theorem State.emit_gpio (s : State) (o : Output) : (s.emit o).gpio = s.gpio := rfl
@[simp] theorem State.emit_latches (s : State) (o : Output) : (s.emit o).latches = s.latches := rfl
@[simp] theorem State.emit_stale (s : State) (o : Output) : (s.emit o).stale = s.stale := rfl
@[simp] theorem State.emit_draw (s : State) (o : Output) : (s.emit o).draw = s.draw := rfl

@[simp] theorem State.setCask_life (s : State) (n : Nat) (k : Cask) : (s.setCask n k).life = s.life := rfl
@[simp] theorem State.setCask_dbg (s : State) (n : Nat) (k : Cask) : (s.setCask n k).dbg = s.dbg := rfl
@[simp] theorem State.setCask_tap (s : State) (n : Nat) (k : Cask) : (s.setCask n k).tap = s.tap := rfl
@[simp] theorem State.setCask_clk (s : State) (n : Nat) (k : Cask) : (s.setCask n k).clk = s.clk := rfl
@[simp] theorem State.setCask_pwr (s : State) (n : Nat) (k : Cask) : (s.setCask n k).pwr = s.pwr := rfl
@[simp] theorem State.setCask_tamp (s : State) (n : Nat) (k : Cask) : (s.setCask n k).tamp = s.tamp := rfl
@[simp] theorem State.setCask_mem (s : State) (n : Nat) (k : Cask) : (s.setCask n k).mem = s.mem := rfl
@[simp] theorem State.setCask_nvm (s : State) (n : Nat) (k : Cask) : (s.setCask n k).nvm = s.nvm := rfl
@[simp] theorem State.setCask_ctrs (s : State) (n : Nat) (k : Cask) : (s.setCask n k).ctrs = s.ctrs := rfl
@[simp] theorem State.setCask_vault (s : State) (n : Nat) (k : Cask) : (s.setCask n k).vault = s.vault := rfl
@[simp] theorem State.setCask_rng (s : State) (n : Nat) (k : Cask) : (s.setCask n k).rng = s.rng := rfl
@[simp] theorem State.setCask_ks (s : State) (n : Nat) (k : Cask) : (s.setCask n k).ks = s.ks := rfl
@[simp] theorem State.setCask_caskBlk (s : State) (n : Nat) (k : Cask) : (s.setCask n k).caskBlk = s.caskBlk := rfl
@[simp] theorem State.setCask_sched (s : State) (n : Nat) (k : Cask) : (s.setCask n k).sched = s.sched := rfl
@[simp] theorem State.setCask_dec (s : State) (n : Nat) (k : Cask) : (s.setCask n k).dec = s.dec := rfl
@[simp] theorem State.setCask_press (s : State) (n : Nat) (k : Cask) : (s.setCask n k).press = s.press := rfl
@[simp] theorem State.setCask_lat (s : State) (n : Nat) (k : Cask) : (s.setCask n k).lat = s.lat := rfl
@[simp] theorem State.setCask_lanes (s : State) (n : Nat) (k : Cask) : (s.setCask n k).lanes = s.lanes := rfl
@[simp] theorem State.setCask_lnk (s : State) (n : Nat) (k : Cask) : (s.setCask n k).lnk = s.lnk := rfl
@[simp] theorem State.setCask_tile (s : State) (n : Nat) (k : Cask) : (s.setCask n k).tile = s.tile := rfl
@[simp] theorem State.setCask_frame (s : State) (n : Nat) (k : Cask) : (s.setCask n k).frame = s.frame := rfl
@[simp] theorem State.setCask_span (s : State) (n : Nat) (k : Cask) : (s.setCask n k).span = s.span := rfl
@[simp] theorem State.setCask_host (s : State) (n : Nat) (k : Cask) : (s.setCask n k).host = s.host := rfl
@[simp] theorem State.setCask_gpio (s : State) (n : Nat) (k : Cask) : (s.setCask n k).gpio = s.gpio := rfl
@[simp] theorem State.setCask_latches (s : State) (n : Nat) (k : Cask) : (s.setCask n k).latches = s.latches := rfl
@[simp] theorem State.setCask_stale (s : State) (n : Nat) (k : Cask) : (s.setCask n k).stale = s.stale := rfl
@[simp] theorem State.setCask_draw (s : State) (n : Nat) (k : Cask) : (s.setCask n k).draw = s.draw := rfl
@[simp] theorem State.setCask_out (s : State) (n : Nat) (k : Cask) : (s.setCask n k).out = s.out := rfl

@[simp] theorem State.setRegs_life (s : State) (c : Ctx) (r : Regs) : (s.setRegs c r).life = s.life := by cases c <;> rfl
@[simp] theorem State.setRegs_dbg (s : State) (c : Ctx) (r : Regs) : (s.setRegs c r).dbg = s.dbg := by cases c <;> rfl
@[simp] theorem State.setRegs_tap (s : State) (c : Ctx) (r : Regs) : (s.setRegs c r).tap = s.tap := by cases c <;> rfl
@[simp] theorem State.setRegs_clk (s : State) (c : Ctx) (r : Regs) : (s.setRegs c r).clk = s.clk := by cases c <;> rfl
@[simp] theorem State.setRegs_pwr (s : State) (c : Ctx) (r : Regs) : (s.setRegs c r).pwr = s.pwr := by cases c <;> rfl
@[simp] theorem State.setRegs_tamp (s : State) (c : Ctx) (r : Regs) : (s.setRegs c r).tamp = s.tamp := by cases c <;> rfl
@[simp] theorem State.setRegs_mem (s : State) (c : Ctx) (r : Regs) : (s.setRegs c r).mem = s.mem := by cases c <;> rfl
@[simp] theorem State.setRegs_nvm (s : State) (c : Ctx) (r : Regs) : (s.setRegs c r).nvm = s.nvm := by cases c <;> rfl
@[simp] theorem State.setRegs_ctrs (s : State) (c : Ctx) (r : Regs) : (s.setRegs c r).ctrs = s.ctrs := by cases c <;> rfl
@[simp] theorem State.setRegs_vault (s : State) (c : Ctx) (r : Regs) : (s.setRegs c r).vault = s.vault := by cases c <;> rfl
@[simp] theorem State.setRegs_rng (s : State) (c : Ctx) (r : Regs) : (s.setRegs c r).rng = s.rng := by cases c <;> rfl
@[simp] theorem State.setRegs_caskBlk (s : State) (c : Ctx) (r : Regs) : (s.setRegs c r).caskBlk = s.caskBlk := by cases c <;> rfl
@[simp] theorem State.setRegs_sched (s : State) (c : Ctx) (r : Regs) : (s.setRegs c r).sched = s.sched := by cases c <;> rfl
@[simp] theorem State.setRegs_dec (s : State) (c : Ctx) (r : Regs) : (s.setRegs c r).dec = s.dec := by cases c <;> rfl
@[simp] theorem State.setRegs_press (s : State) (c : Ctx) (r : Regs) : (s.setRegs c r).press = s.press := by cases c <;> rfl
@[simp] theorem State.setRegs_lat (s : State) (c : Ctx) (r : Regs) : (s.setRegs c r).lat = s.lat := by cases c <;> rfl
@[simp] theorem State.setRegs_lanes (s : State) (c : Ctx) (r : Regs) : (s.setRegs c r).lanes = s.lanes := by cases c <;> rfl
@[simp] theorem State.setRegs_lnk (s : State) (c : Ctx) (r : Regs) : (s.setRegs c r).lnk = s.lnk := by cases c <;> rfl
@[simp] theorem State.setRegs_tile (s : State) (c : Ctx) (r : Regs) : (s.setRegs c r).tile = s.tile := by cases c <;> rfl
@[simp] theorem State.setRegs_frame (s : State) (c : Ctx) (r : Regs) : (s.setRegs c r).frame = s.frame := by cases c <;> rfl
@[simp] theorem State.setRegs_span (s : State) (c : Ctx) (r : Regs) : (s.setRegs c r).span = s.span := by cases c <;> rfl
@[simp] theorem State.setRegs_host (s : State) (c : Ctx) (r : Regs) : (s.setRegs c r).host = s.host := by cases c <;> rfl
@[simp] theorem State.setRegs_gpio (s : State) (c : Ctx) (r : Regs) : (s.setRegs c r).gpio = s.gpio := by cases c <;> rfl
@[simp] theorem State.setRegs_latches (s : State) (c : Ctx) (r : Regs) : (s.setRegs c r).latches = s.latches := by cases c <;> rfl
@[simp] theorem State.setRegs_stale (s : State) (c : Ctx) (r : Regs) : (s.setRegs c r).stale = s.stale := by cases c <;> rfl
@[simp] theorem State.setRegs_draw (s : State) (c : Ctx) (r : Regs) : (s.setRegs c r).draw = s.draw := by cases c <;> rfl
@[simp] theorem State.setRegs_out (s : State) (c : Ctx) (r : Regs) : (s.setRegs c r).out = s.out := by cases c <;> rfl

@[simp] theorem State.setPend_life (s : State) (c : Ctx) (p : Word) : (s.setPend c p).life = s.life := by cases c <;> rfl
@[simp] theorem State.setPend_dbg (s : State) (c : Ctx) (p : Word) : (s.setPend c p).dbg = s.dbg := by cases c <;> rfl
@[simp] theorem State.setPend_tap (s : State) (c : Ctx) (p : Word) : (s.setPend c p).tap = s.tap := by cases c <;> rfl
@[simp] theorem State.setPend_clk (s : State) (c : Ctx) (p : Word) : (s.setPend c p).clk = s.clk := by cases c <;> rfl
@[simp] theorem State.setPend_pwr (s : State) (c : Ctx) (p : Word) : (s.setPend c p).pwr = s.pwr := by cases c <;> rfl
@[simp] theorem State.setPend_tamp (s : State) (c : Ctx) (p : Word) : (s.setPend c p).tamp = s.tamp := by cases c <;> rfl
@[simp] theorem State.setPend_mem (s : State) (c : Ctx) (p : Word) : (s.setPend c p).mem = s.mem := by cases c <;> rfl
@[simp] theorem State.setPend_nvm (s : State) (c : Ctx) (p : Word) : (s.setPend c p).nvm = s.nvm := by cases c <;> rfl
@[simp] theorem State.setPend_ctrs (s : State) (c : Ctx) (p : Word) : (s.setPend c p).ctrs = s.ctrs := by cases c <;> rfl
@[simp] theorem State.setPend_vault (s : State) (c : Ctx) (p : Word) : (s.setPend c p).vault = s.vault := by cases c <;> rfl
@[simp] theorem State.setPend_rng (s : State) (c : Ctx) (p : Word) : (s.setPend c p).rng = s.rng := by cases c <;> rfl
@[simp] theorem State.setPend_caskBlk (s : State) (c : Ctx) (p : Word) : (s.setPend c p).caskBlk = s.caskBlk := by cases c <;> rfl
@[simp] theorem State.setPend_sched (s : State) (c : Ctx) (p : Word) : (s.setPend c p).sched = s.sched := by cases c <;> rfl
@[simp] theorem State.setPend_dec (s : State) (c : Ctx) (p : Word) : (s.setPend c p).dec = s.dec := by cases c <;> rfl
@[simp] theorem State.setPend_press (s : State) (c : Ctx) (p : Word) : (s.setPend c p).press = s.press := by cases c <;> rfl
@[simp] theorem State.setPend_lat (s : State) (c : Ctx) (p : Word) : (s.setPend c p).lat = s.lat := by cases c <;> rfl
@[simp] theorem State.setPend_lanes (s : State) (c : Ctx) (p : Word) : (s.setPend c p).lanes = s.lanes := by cases c <;> rfl
@[simp] theorem State.setPend_lnk (s : State) (c : Ctx) (p : Word) : (s.setPend c p).lnk = s.lnk := by cases c <;> rfl
@[simp] theorem State.setPend_tile (s : State) (c : Ctx) (p : Word) : (s.setPend c p).tile = s.tile := by cases c <;> rfl
@[simp] theorem State.setPend_frame (s : State) (c : Ctx) (p : Word) : (s.setPend c p).frame = s.frame := by cases c <;> rfl
@[simp] theorem State.setPend_span (s : State) (c : Ctx) (p : Word) : (s.setPend c p).span = s.span := by cases c <;> rfl
@[simp] theorem State.setPend_host (s : State) (c : Ctx) (p : Word) : (s.setPend c p).host = s.host := by cases c <;> rfl
@[simp] theorem State.setPend_gpio (s : State) (c : Ctx) (p : Word) : (s.setPend c p).gpio = s.gpio := by cases c <;> rfl
@[simp] theorem State.setPend_latches (s : State) (c : Ctx) (p : Word) : (s.setPend c p).latches = s.latches := by cases c <;> rfl
@[simp] theorem State.setPend_stale (s : State) (c : Ctx) (p : Word) : (s.setPend c p).stale = s.stale := by cases c <;> rfl
@[simp] theorem State.setPend_draw (s : State) (c : Ctx) (p : Word) : (s.setPend c p).draw = s.draw := by cases c <;> rfl
@[simp] theorem State.setPend_out (s : State) (c : Ctx) (p : Word) : (s.setPend c p).out = s.out := by cases c <;> rfl

@[simp] theorem State.setCtr_life (s : State) (c : Nat) (r : CtrRec) : (s.setCtr c r).life = s.life := rfl
@[simp] theorem State.setCtr_dbg (s : State) (c : Nat) (r : CtrRec) : (s.setCtr c r).dbg = s.dbg := rfl
@[simp] theorem State.setCtr_tap (s : State) (c : Nat) (r : CtrRec) : (s.setCtr c r).tap = s.tap := rfl
@[simp] theorem State.setCtr_clk (s : State) (c : Nat) (r : CtrRec) : (s.setCtr c r).clk = s.clk := rfl
@[simp] theorem State.setCtr_pwr (s : State) (c : Nat) (r : CtrRec) : (s.setCtr c r).pwr = s.pwr := rfl
@[simp] theorem State.setCtr_tamp (s : State) (c : Nat) (r : CtrRec) : (s.setCtr c r).tamp = s.tamp := rfl
@[simp] theorem State.setCtr_mem (s : State) (c : Nat) (r : CtrRec) : (s.setCtr c r).mem = s.mem := rfl
@[simp] theorem State.setCtr_nvm (s : State) (c : Nat) (r : CtrRec) : (s.setCtr c r).nvm = s.nvm := rfl
@[simp] theorem State.setCtr_vault (s : State) (c : Nat) (r : CtrRec) : (s.setCtr c r).vault = s.vault := rfl
@[simp] theorem State.setCtr_rng (s : State) (c : Nat) (r : CtrRec) : (s.setCtr c r).rng = s.rng := rfl
@[simp] theorem State.setCtr_ks (s : State) (c : Nat) (r : CtrRec) : (s.setCtr c r).ks = s.ks := rfl
@[simp] theorem State.setCtr_casks (s : State) (c : Nat) (r : CtrRec) : (s.setCtr c r).casks = s.casks := rfl
@[simp] theorem State.setCtr_caskBlk (s : State) (c : Nat) (r : CtrRec) : (s.setCtr c r).caskBlk = s.caskBlk := rfl
@[simp] theorem State.setCtr_sched (s : State) (c : Nat) (r : CtrRec) : (s.setCtr c r).sched = s.sched := rfl
@[simp] theorem State.setCtr_dec (s : State) (c : Nat) (r : CtrRec) : (s.setCtr c r).dec = s.dec := rfl
@[simp] theorem State.setCtr_press (s : State) (c : Nat) (r : CtrRec) : (s.setCtr c r).press = s.press := rfl
@[simp] theorem State.setCtr_lat (s : State) (c : Nat) (r : CtrRec) : (s.setCtr c r).lat = s.lat := rfl
@[simp] theorem State.setCtr_lanes (s : State) (c : Nat) (r : CtrRec) : (s.setCtr c r).lanes = s.lanes := rfl
@[simp] theorem State.setCtr_lnk (s : State) (c : Nat) (r : CtrRec) : (s.setCtr c r).lnk = s.lnk := rfl
@[simp] theorem State.setCtr_tile (s : State) (c : Nat) (r : CtrRec) : (s.setCtr c r).tile = s.tile := rfl
@[simp] theorem State.setCtr_frame (s : State) (c : Nat) (r : CtrRec) : (s.setCtr c r).frame = s.frame := rfl
@[simp] theorem State.setCtr_span (s : State) (c : Nat) (r : CtrRec) : (s.setCtr c r).span = s.span := rfl
@[simp] theorem State.setCtr_host (s : State) (c : Nat) (r : CtrRec) : (s.setCtr c r).host = s.host := rfl
@[simp] theorem State.setCtr_gpio (s : State) (c : Nat) (r : CtrRec) : (s.setCtr c r).gpio = s.gpio := rfl
@[simp] theorem State.setCtr_latches (s : State) (c : Nat) (r : CtrRec) : (s.setCtr c r).latches = s.latches := rfl
@[simp] theorem State.setCtr_stale (s : State) (c : Nat) (r : CtrRec) : (s.setCtr c r).stale = s.stale := rfl
@[simp] theorem State.setCtr_draw (s : State) (c : Nat) (r : CtrRec) : (s.setCtr c r).draw = s.draw := rfl
@[simp] theorem State.setCtr_out (s : State) (c : Nat) (r : CtrRec) : (s.setCtr c r).out = s.out := rfl

@[simp] theorem State.setLane_life (s : State) (l : Nat) (x : LaneSt) : (s.setLane l x).life = s.life := rfl
@[simp] theorem State.setLane_dbg (s : State) (l : Nat) (x : LaneSt) : (s.setLane l x).dbg = s.dbg := rfl
@[simp] theorem State.setLane_tap (s : State) (l : Nat) (x : LaneSt) : (s.setLane l x).tap = s.tap := rfl
@[simp] theorem State.setLane_clk (s : State) (l : Nat) (x : LaneSt) : (s.setLane l x).clk = s.clk := rfl
@[simp] theorem State.setLane_pwr (s : State) (l : Nat) (x : LaneSt) : (s.setLane l x).pwr = s.pwr := rfl
@[simp] theorem State.setLane_tamp (s : State) (l : Nat) (x : LaneSt) : (s.setLane l x).tamp = s.tamp := rfl
@[simp] theorem State.setLane_mem (s : State) (l : Nat) (x : LaneSt) : (s.setLane l x).mem = s.mem := rfl
@[simp] theorem State.setLane_nvm (s : State) (l : Nat) (x : LaneSt) : (s.setLane l x).nvm = s.nvm := rfl
@[simp] theorem State.setLane_ctrs (s : State) (l : Nat) (x : LaneSt) : (s.setLane l x).ctrs = s.ctrs := rfl
@[simp] theorem State.setLane_vault (s : State) (l : Nat) (x : LaneSt) : (s.setLane l x).vault = s.vault := rfl
@[simp] theorem State.setLane_rng (s : State) (l : Nat) (x : LaneSt) : (s.setLane l x).rng = s.rng := rfl
@[simp] theorem State.setLane_ks (s : State) (l : Nat) (x : LaneSt) : (s.setLane l x).ks = s.ks := rfl
@[simp] theorem State.setLane_casks (s : State) (l : Nat) (x : LaneSt) : (s.setLane l x).casks = s.casks := rfl
@[simp] theorem State.setLane_caskBlk (s : State) (l : Nat) (x : LaneSt) : (s.setLane l x).caskBlk = s.caskBlk := rfl
@[simp] theorem State.setLane_sched (s : State) (l : Nat) (x : LaneSt) : (s.setLane l x).sched = s.sched := rfl
@[simp] theorem State.setLane_dec (s : State) (l : Nat) (x : LaneSt) : (s.setLane l x).dec = s.dec := rfl
@[simp] theorem State.setLane_press (s : State) (l : Nat) (x : LaneSt) : (s.setLane l x).press = s.press := rfl
@[simp] theorem State.setLane_lat (s : State) (l : Nat) (x : LaneSt) : (s.setLane l x).lat = s.lat := rfl
@[simp] theorem State.setLane_lnk (s : State) (l : Nat) (x : LaneSt) : (s.setLane l x).lnk = s.lnk := rfl
@[simp] theorem State.setLane_tile (s : State) (l : Nat) (x : LaneSt) : (s.setLane l x).tile = s.tile := rfl
@[simp] theorem State.setLane_frame (s : State) (l : Nat) (x : LaneSt) : (s.setLane l x).frame = s.frame := rfl
@[simp] theorem State.setLane_span (s : State) (l : Nat) (x : LaneSt) : (s.setLane l x).span = s.span := rfl
@[simp] theorem State.setLane_host (s : State) (l : Nat) (x : LaneSt) : (s.setLane l x).host = s.host := rfl
@[simp] theorem State.setLane_gpio (s : State) (l : Nat) (x : LaneSt) : (s.setLane l x).gpio = s.gpio := rfl
@[simp] theorem State.setLane_latches (s : State) (l : Nat) (x : LaneSt) : (s.setLane l x).latches = s.latches := rfl
@[simp] theorem State.setLane_stale (s : State) (l : Nat) (x : LaneSt) : (s.setLane l x).stale = s.stale := rfl
@[simp] theorem State.setLane_draw (s : State) (l : Nat) (x : LaneSt) : (s.setLane l x).draw = s.draw := rfl
@[simp] theorem State.setLane_out (s : State) (l : Nat) (x : LaneSt) : (s.setLane l x).out = s.out := rfl

@[simp] theorem State.setLnk_life (s : State) (n : Nat) (p : LnkPage) : (s.setLnk n p).life = s.life := rfl
@[simp] theorem State.setLnk_dbg (s : State) (n : Nat) (p : LnkPage) : (s.setLnk n p).dbg = s.dbg := rfl
@[simp] theorem State.setLnk_tap (s : State) (n : Nat) (p : LnkPage) : (s.setLnk n p).tap = s.tap := rfl
@[simp] theorem State.setLnk_clk (s : State) (n : Nat) (p : LnkPage) : (s.setLnk n p).clk = s.clk := rfl
@[simp] theorem State.setLnk_pwr (s : State) (n : Nat) (p : LnkPage) : (s.setLnk n p).pwr = s.pwr := rfl
@[simp] theorem State.setLnk_tamp (s : State) (n : Nat) (p : LnkPage) : (s.setLnk n p).tamp = s.tamp := rfl
@[simp] theorem State.setLnk_mem (s : State) (n : Nat) (p : LnkPage) : (s.setLnk n p).mem = s.mem := rfl
@[simp] theorem State.setLnk_nvm (s : State) (n : Nat) (p : LnkPage) : (s.setLnk n p).nvm = s.nvm := rfl
@[simp] theorem State.setLnk_ctrs (s : State) (n : Nat) (p : LnkPage) : (s.setLnk n p).ctrs = s.ctrs := rfl
@[simp] theorem State.setLnk_vault (s : State) (n : Nat) (p : LnkPage) : (s.setLnk n p).vault = s.vault := rfl
@[simp] theorem State.setLnk_rng (s : State) (n : Nat) (p : LnkPage) : (s.setLnk n p).rng = s.rng := rfl
@[simp] theorem State.setLnk_ks (s : State) (n : Nat) (p : LnkPage) : (s.setLnk n p).ks = s.ks := rfl
@[simp] theorem State.setLnk_casks (s : State) (n : Nat) (p : LnkPage) : (s.setLnk n p).casks = s.casks := rfl
@[simp] theorem State.setLnk_caskBlk (s : State) (n : Nat) (p : LnkPage) : (s.setLnk n p).caskBlk = s.caskBlk := rfl
@[simp] theorem State.setLnk_sched (s : State) (n : Nat) (p : LnkPage) : (s.setLnk n p).sched = s.sched := rfl
@[simp] theorem State.setLnk_dec (s : State) (n : Nat) (p : LnkPage) : (s.setLnk n p).dec = s.dec := rfl
@[simp] theorem State.setLnk_press (s : State) (n : Nat) (p : LnkPage) : (s.setLnk n p).press = s.press := rfl
@[simp] theorem State.setLnk_lat (s : State) (n : Nat) (p : LnkPage) : (s.setLnk n p).lat = s.lat := rfl
@[simp] theorem State.setLnk_lanes (s : State) (n : Nat) (p : LnkPage) : (s.setLnk n p).lanes = s.lanes := rfl
@[simp] theorem State.setLnk_tile (s : State) (n : Nat) (p : LnkPage) : (s.setLnk n p).tile = s.tile := rfl
@[simp] theorem State.setLnk_frame (s : State) (n : Nat) (p : LnkPage) : (s.setLnk n p).frame = s.frame := rfl
@[simp] theorem State.setLnk_span (s : State) (n : Nat) (p : LnkPage) : (s.setLnk n p).span = s.span := rfl
@[simp] theorem State.setLnk_host (s : State) (n : Nat) (p : LnkPage) : (s.setLnk n p).host = s.host := rfl
@[simp] theorem State.setLnk_gpio (s : State) (n : Nat) (p : LnkPage) : (s.setLnk n p).gpio = s.gpio := rfl
@[simp] theorem State.setLnk_latches (s : State) (n : Nat) (p : LnkPage) : (s.setLnk n p).latches = s.latches := rfl
@[simp] theorem State.setLnk_stale (s : State) (n : Nat) (p : LnkPage) : (s.setLnk n p).stale = s.stale := rfl
@[simp] theorem State.setLnk_draw (s : State) (n : Nat) (p : LnkPage) : (s.setLnk n p).draw = s.draw := rfl
@[simp] theorem State.setLnk_out (s : State) (n : Nat) (p : LnkPage) : (s.setLnk n p).out = s.out := rfl

@[simp] theorem State.setTile_life (s : State) (k : Nat) (t : Tile) : (s.setTile k t).life = s.life := rfl
@[simp] theorem State.setTile_dbg (s : State) (k : Nat) (t : Tile) : (s.setTile k t).dbg = s.dbg := rfl
@[simp] theorem State.setTile_tap (s : State) (k : Nat) (t : Tile) : (s.setTile k t).tap = s.tap := rfl
@[simp] theorem State.setTile_clk (s : State) (k : Nat) (t : Tile) : (s.setTile k t).clk = s.clk := rfl
@[simp] theorem State.setTile_pwr (s : State) (k : Nat) (t : Tile) : (s.setTile k t).pwr = s.pwr := rfl
@[simp] theorem State.setTile_tamp (s : State) (k : Nat) (t : Tile) : (s.setTile k t).tamp = s.tamp := rfl
@[simp] theorem State.setTile_mem (s : State) (k : Nat) (t : Tile) : (s.setTile k t).mem = s.mem := rfl
@[simp] theorem State.setTile_nvm (s : State) (k : Nat) (t : Tile) : (s.setTile k t).nvm = s.nvm := rfl
@[simp] theorem State.setTile_ctrs (s : State) (k : Nat) (t : Tile) : (s.setTile k t).ctrs = s.ctrs := rfl
@[simp] theorem State.setTile_vault (s : State) (k : Nat) (t : Tile) : (s.setTile k t).vault = s.vault := rfl
@[simp] theorem State.setTile_rng (s : State) (k : Nat) (t : Tile) : (s.setTile k t).rng = s.rng := rfl
@[simp] theorem State.setTile_ks (s : State) (k : Nat) (t : Tile) : (s.setTile k t).ks = s.ks := rfl
@[simp] theorem State.setTile_casks (s : State) (k : Nat) (t : Tile) : (s.setTile k t).casks = s.casks := rfl
@[simp] theorem State.setTile_caskBlk (s : State) (k : Nat) (t : Tile) : (s.setTile k t).caskBlk = s.caskBlk := rfl
@[simp] theorem State.setTile_sched (s : State) (k : Nat) (t : Tile) : (s.setTile k t).sched = s.sched := rfl
@[simp] theorem State.setTile_dec (s : State) (k : Nat) (t : Tile) : (s.setTile k t).dec = s.dec := rfl
@[simp] theorem State.setTile_press (s : State) (k : Nat) (t : Tile) : (s.setTile k t).press = s.press := rfl
@[simp] theorem State.setTile_lat (s : State) (k : Nat) (t : Tile) : (s.setTile k t).lat = s.lat := rfl
@[simp] theorem State.setTile_lanes (s : State) (k : Nat) (t : Tile) : (s.setTile k t).lanes = s.lanes := rfl
@[simp] theorem State.setTile_lnk (s : State) (k : Nat) (t : Tile) : (s.setTile k t).lnk = s.lnk := rfl
@[simp] theorem State.setTile_frame (s : State) (k : Nat) (t : Tile) : (s.setTile k t).frame = s.frame := rfl
@[simp] theorem State.setTile_span (s : State) (k : Nat) (t : Tile) : (s.setTile k t).span = s.span := rfl
@[simp] theorem State.setTile_host (s : State) (k : Nat) (t : Tile) : (s.setTile k t).host = s.host := rfl
@[simp] theorem State.setTile_gpio (s : State) (k : Nat) (t : Tile) : (s.setTile k t).gpio = s.gpio := rfl
@[simp] theorem State.setTile_latches (s : State) (k : Nat) (t : Tile) : (s.setTile k t).latches = s.latches := rfl
@[simp] theorem State.setTile_stale (s : State) (k : Nat) (t : Tile) : (s.setTile k t).stale = s.stale := rfl
@[simp] theorem State.setTile_draw (s : State) (k : Nat) (t : Tile) : (s.setTile k t).draw = s.draw := rfl
@[simp] theorem State.setTile_out (s : State) (k : Nat) (t : Tile) : (s.setTile k t).out = s.out := rfl

@[simp] theorem State.setChain_life (s : State) (l : Nat) (c : Chain) : (s.setChain l c).life = s.life := rfl
@[simp] theorem State.setChain_dbg (s : State) (l : Nat) (c : Chain) : (s.setChain l c).dbg = s.dbg := rfl
@[simp] theorem State.setChain_tap (s : State) (l : Nat) (c : Chain) : (s.setChain l c).tap = s.tap := rfl
@[simp] theorem State.setChain_clk (s : State) (l : Nat) (c : Chain) : (s.setChain l c).clk = s.clk := rfl
@[simp] theorem State.setChain_pwr (s : State) (l : Nat) (c : Chain) : (s.setChain l c).pwr = s.pwr := rfl
@[simp] theorem State.setChain_tamp (s : State) (l : Nat) (c : Chain) : (s.setChain l c).tamp = s.tamp := rfl
@[simp] theorem State.setChain_mem (s : State) (l : Nat) (c : Chain) : (s.setChain l c).mem = s.mem := rfl
@[simp] theorem State.setChain_nvm (s : State) (l : Nat) (c : Chain) : (s.setChain l c).nvm = s.nvm := rfl
@[simp] theorem State.setChain_ctrs (s : State) (l : Nat) (c : Chain) : (s.setChain l c).ctrs = s.ctrs := rfl
@[simp] theorem State.setChain_vault (s : State) (l : Nat) (c : Chain) : (s.setChain l c).vault = s.vault := rfl
@[simp] theorem State.setChain_rng (s : State) (l : Nat) (c : Chain) : (s.setChain l c).rng = s.rng := rfl
@[simp] theorem State.setChain_ks (s : State) (l : Nat) (c : Chain) : (s.setChain l c).ks = s.ks := rfl
@[simp] theorem State.setChain_casks (s : State) (l : Nat) (c : Chain) : (s.setChain l c).casks = s.casks := rfl
@[simp] theorem State.setChain_caskBlk (s : State) (l : Nat) (c : Chain) : (s.setChain l c).caskBlk = s.caskBlk := rfl
@[simp] theorem State.setChain_sched (s : State) (l : Nat) (c : Chain) : (s.setChain l c).sched = s.sched := rfl
@[simp] theorem State.setChain_dec (s : State) (l : Nat) (c : Chain) : (s.setChain l c).dec = s.dec := rfl
@[simp] theorem State.setChain_press (s : State) (l : Nat) (c : Chain) : (s.setChain l c).press = s.press := rfl
@[simp] theorem State.setChain_lat (s : State) (l : Nat) (c : Chain) : (s.setChain l c).lat = s.lat := rfl
@[simp] theorem State.setChain_lanes (s : State) (l : Nat) (c : Chain) : (s.setChain l c).lanes = s.lanes := rfl
@[simp] theorem State.setChain_lnk (s : State) (l : Nat) (c : Chain) : (s.setChain l c).lnk = s.lnk := rfl
@[simp] theorem State.setChain_frame (s : State) (l : Nat) (c : Chain) : (s.setChain l c).frame = s.frame := rfl
@[simp] theorem State.setChain_span (s : State) (l : Nat) (c : Chain) : (s.setChain l c).span = s.span := rfl
@[simp] theorem State.setChain_host (s : State) (l : Nat) (c : Chain) : (s.setChain l c).host = s.host := rfl
@[simp] theorem State.setChain_gpio (s : State) (l : Nat) (c : Chain) : (s.setChain l c).gpio = s.gpio := rfl
@[simp] theorem State.setChain_latches (s : State) (l : Nat) (c : Chain) : (s.setChain l c).latches = s.latches := rfl
@[simp] theorem State.setChain_stale (s : State) (l : Nat) (c : Chain) : (s.setChain l c).stale = s.stale := rfl
@[simp] theorem State.setChain_draw (s : State) (l : Nat) (c : Chain) : (s.setChain l c).draw = s.draw := rfl
@[simp] theorem State.setChain_out (s : State) (l : Nat) (c : Chain) : (s.setChain l c).out = s.out := rfl

@[simp] theorem State.setRegion_life (s : State) (r : Nat) (x : Region) : (s.setRegion r x).life = s.life := rfl
@[simp] theorem State.setRegion_dbg (s : State) (r : Nat) (x : Region) : (s.setRegion r x).dbg = s.dbg := rfl
@[simp] theorem State.setRegion_tap (s : State) (r : Nat) (x : Region) : (s.setRegion r x).tap = s.tap := rfl
@[simp] theorem State.setRegion_clk (s : State) (r : Nat) (x : Region) : (s.setRegion r x).clk = s.clk := rfl
@[simp] theorem State.setRegion_pwr (s : State) (r : Nat) (x : Region) : (s.setRegion r x).pwr = s.pwr := rfl
@[simp] theorem State.setRegion_tamp (s : State) (r : Nat) (x : Region) : (s.setRegion r x).tamp = s.tamp := rfl
@[simp] theorem State.setRegion_mem (s : State) (r : Nat) (x : Region) : (s.setRegion r x).mem = s.mem := rfl
@[simp] theorem State.setRegion_nvm (s : State) (r : Nat) (x : Region) : (s.setRegion r x).nvm = s.nvm := rfl
@[simp] theorem State.setRegion_ctrs (s : State) (r : Nat) (x : Region) : (s.setRegion r x).ctrs = s.ctrs := rfl
@[simp] theorem State.setRegion_vault (s : State) (r : Nat) (x : Region) : (s.setRegion r x).vault = s.vault := rfl
@[simp] theorem State.setRegion_rng (s : State) (r : Nat) (x : Region) : (s.setRegion r x).rng = s.rng := rfl
@[simp] theorem State.setRegion_ks (s : State) (r : Nat) (x : Region) : (s.setRegion r x).ks = s.ks := rfl
@[simp] theorem State.setRegion_casks (s : State) (r : Nat) (x : Region) : (s.setRegion r x).casks = s.casks := rfl
@[simp] theorem State.setRegion_caskBlk (s : State) (r : Nat) (x : Region) : (s.setRegion r x).caskBlk = s.caskBlk := rfl
@[simp] theorem State.setRegion_sched (s : State) (r : Nat) (x : Region) : (s.setRegion r x).sched = s.sched := rfl
@[simp] theorem State.setRegion_dec (s : State) (r : Nat) (x : Region) : (s.setRegion r x).dec = s.dec := rfl
@[simp] theorem State.setRegion_press (s : State) (r : Nat) (x : Region) : (s.setRegion r x).press = s.press := rfl
@[simp] theorem State.setRegion_lat (s : State) (r : Nat) (x : Region) : (s.setRegion r x).lat = s.lat := rfl
@[simp] theorem State.setRegion_lanes (s : State) (r : Nat) (x : Region) : (s.setRegion r x).lanes = s.lanes := rfl
@[simp] theorem State.setRegion_lnk (s : State) (r : Nat) (x : Region) : (s.setRegion r x).lnk = s.lnk := rfl
@[simp] theorem State.setRegion_tile (s : State) (r : Nat) (x : Region) : (s.setRegion r x).tile = s.tile := rfl
@[simp] theorem State.setRegion_span (s : State) (r : Nat) (x : Region) : (s.setRegion r x).span = s.span := rfl
@[simp] theorem State.setRegion_host (s : State) (r : Nat) (x : Region) : (s.setRegion r x).host = s.host := rfl
@[simp] theorem State.setRegion_gpio (s : State) (r : Nat) (x : Region) : (s.setRegion r x).gpio = s.gpio := rfl
@[simp] theorem State.setRegion_latches (s : State) (r : Nat) (x : Region) : (s.setRegion r x).latches = s.latches := rfl
@[simp] theorem State.setRegion_stale (s : State) (r : Nat) (x : Region) : (s.setRegion r x).stale = s.stale := rfl
@[simp] theorem State.setRegion_draw (s : State) (r : Nat) (x : Region) : (s.setRegion r x).draw = s.draw := rfl
@[simp] theorem State.setRegion_out (s : State) (r : Nat) (x : Region) : (s.setRegion r x).out = s.out := rfl

@[simp] theorem State.setFrm_life (s : State) (n : Nat) (p : FrmPage) : (s.setFrm n p).life = s.life := rfl
@[simp] theorem State.setFrm_dbg (s : State) (n : Nat) (p : FrmPage) : (s.setFrm n p).dbg = s.dbg := rfl
@[simp] theorem State.setFrm_tap (s : State) (n : Nat) (p : FrmPage) : (s.setFrm n p).tap = s.tap := rfl
@[simp] theorem State.setFrm_clk (s : State) (n : Nat) (p : FrmPage) : (s.setFrm n p).clk = s.clk := rfl
@[simp] theorem State.setFrm_pwr (s : State) (n : Nat) (p : FrmPage) : (s.setFrm n p).pwr = s.pwr := rfl
@[simp] theorem State.setFrm_tamp (s : State) (n : Nat) (p : FrmPage) : (s.setFrm n p).tamp = s.tamp := rfl
@[simp] theorem State.setFrm_mem (s : State) (n : Nat) (p : FrmPage) : (s.setFrm n p).mem = s.mem := rfl
@[simp] theorem State.setFrm_nvm (s : State) (n : Nat) (p : FrmPage) : (s.setFrm n p).nvm = s.nvm := rfl
@[simp] theorem State.setFrm_ctrs (s : State) (n : Nat) (p : FrmPage) : (s.setFrm n p).ctrs = s.ctrs := rfl
@[simp] theorem State.setFrm_vault (s : State) (n : Nat) (p : FrmPage) : (s.setFrm n p).vault = s.vault := rfl
@[simp] theorem State.setFrm_rng (s : State) (n : Nat) (p : FrmPage) : (s.setFrm n p).rng = s.rng := rfl
@[simp] theorem State.setFrm_ks (s : State) (n : Nat) (p : FrmPage) : (s.setFrm n p).ks = s.ks := rfl
@[simp] theorem State.setFrm_casks (s : State) (n : Nat) (p : FrmPage) : (s.setFrm n p).casks = s.casks := rfl
@[simp] theorem State.setFrm_caskBlk (s : State) (n : Nat) (p : FrmPage) : (s.setFrm n p).caskBlk = s.caskBlk := rfl
@[simp] theorem State.setFrm_sched (s : State) (n : Nat) (p : FrmPage) : (s.setFrm n p).sched = s.sched := rfl
@[simp] theorem State.setFrm_dec (s : State) (n : Nat) (p : FrmPage) : (s.setFrm n p).dec = s.dec := rfl
@[simp] theorem State.setFrm_press (s : State) (n : Nat) (p : FrmPage) : (s.setFrm n p).press = s.press := rfl
@[simp] theorem State.setFrm_lat (s : State) (n : Nat) (p : FrmPage) : (s.setFrm n p).lat = s.lat := rfl
@[simp] theorem State.setFrm_lanes (s : State) (n : Nat) (p : FrmPage) : (s.setFrm n p).lanes = s.lanes := rfl
@[simp] theorem State.setFrm_lnk (s : State) (n : Nat) (p : FrmPage) : (s.setFrm n p).lnk = s.lnk := rfl
@[simp] theorem State.setFrm_tile (s : State) (n : Nat) (p : FrmPage) : (s.setFrm n p).tile = s.tile := rfl
@[simp] theorem State.setFrm_span (s : State) (n : Nat) (p : FrmPage) : (s.setFrm n p).span = s.span := rfl
@[simp] theorem State.setFrm_host (s : State) (n : Nat) (p : FrmPage) : (s.setFrm n p).host = s.host := rfl
@[simp] theorem State.setFrm_gpio (s : State) (n : Nat) (p : FrmPage) : (s.setFrm n p).gpio = s.gpio := rfl
@[simp] theorem State.setFrm_latches (s : State) (n : Nat) (p : FrmPage) : (s.setFrm n p).latches = s.latches := rfl
@[simp] theorem State.setFrm_stale (s : State) (n : Nat) (p : FrmPage) : (s.setFrm n p).stale = s.stale := rfl
@[simp] theorem State.setFrm_draw (s : State) (n : Nat) (p : FrmPage) : (s.setFrm n p).draw = s.draw := rfl
@[simp] theorem State.setFrm_out (s : State) (n : Nat) (p : FrmPage) : (s.setFrm n p).out = s.out := rfl

@[simp] theorem State.setCry_life (s : State) (n : Nat) (p : PressPage) : (s.setCry n p).life = s.life := rfl
@[simp] theorem State.setCry_dbg (s : State) (n : Nat) (p : PressPage) : (s.setCry n p).dbg = s.dbg := rfl
@[simp] theorem State.setCry_tap (s : State) (n : Nat) (p : PressPage) : (s.setCry n p).tap = s.tap := rfl
@[simp] theorem State.setCry_clk (s : State) (n : Nat) (p : PressPage) : (s.setCry n p).clk = s.clk := rfl
@[simp] theorem State.setCry_pwr (s : State) (n : Nat) (p : PressPage) : (s.setCry n p).pwr = s.pwr := rfl
@[simp] theorem State.setCry_tamp (s : State) (n : Nat) (p : PressPage) : (s.setCry n p).tamp = s.tamp := rfl
@[simp] theorem State.setCry_mem (s : State) (n : Nat) (p : PressPage) : (s.setCry n p).mem = s.mem := rfl
@[simp] theorem State.setCry_nvm (s : State) (n : Nat) (p : PressPage) : (s.setCry n p).nvm = s.nvm := rfl
@[simp] theorem State.setCry_ctrs (s : State) (n : Nat) (p : PressPage) : (s.setCry n p).ctrs = s.ctrs := rfl
@[simp] theorem State.setCry_vault (s : State) (n : Nat) (p : PressPage) : (s.setCry n p).vault = s.vault := rfl
@[simp] theorem State.setCry_rng (s : State) (n : Nat) (p : PressPage) : (s.setCry n p).rng = s.rng := rfl
@[simp] theorem State.setCry_ks (s : State) (n : Nat) (p : PressPage) : (s.setCry n p).ks = s.ks := rfl
@[simp] theorem State.setCry_casks (s : State) (n : Nat) (p : PressPage) : (s.setCry n p).casks = s.casks := rfl
@[simp] theorem State.setCry_caskBlk (s : State) (n : Nat) (p : PressPage) : (s.setCry n p).caskBlk = s.caskBlk := rfl
@[simp] theorem State.setCry_sched (s : State) (n : Nat) (p : PressPage) : (s.setCry n p).sched = s.sched := rfl
@[simp] theorem State.setCry_dec (s : State) (n : Nat) (p : PressPage) : (s.setCry n p).dec = s.dec := rfl
@[simp] theorem State.setCry_lat (s : State) (n : Nat) (p : PressPage) : (s.setCry n p).lat = s.lat := rfl
@[simp] theorem State.setCry_lanes (s : State) (n : Nat) (p : PressPage) : (s.setCry n p).lanes = s.lanes := rfl
@[simp] theorem State.setCry_lnk (s : State) (n : Nat) (p : PressPage) : (s.setCry n p).lnk = s.lnk := rfl
@[simp] theorem State.setCry_tile (s : State) (n : Nat) (p : PressPage) : (s.setCry n p).tile = s.tile := rfl
@[simp] theorem State.setCry_frame (s : State) (n : Nat) (p : PressPage) : (s.setCry n p).frame = s.frame := rfl
@[simp] theorem State.setCry_span (s : State) (n : Nat) (p : PressPage) : (s.setCry n p).span = s.span := rfl
@[simp] theorem State.setCry_host (s : State) (n : Nat) (p : PressPage) : (s.setCry n p).host = s.host := rfl
@[simp] theorem State.setCry_gpio (s : State) (n : Nat) (p : PressPage) : (s.setCry n p).gpio = s.gpio := rfl
@[simp] theorem State.setCry_latches (s : State) (n : Nat) (p : PressPage) : (s.setCry n p).latches = s.latches := rfl
@[simp] theorem State.setCry_stale (s : State) (n : Nat) (p : PressPage) : (s.setCry n p).stale = s.stale := rfl
@[simp] theorem State.setCry_draw (s : State) (n : Nat) (p : PressPage) : (s.setCry n p).draw = s.draw := rfl
@[simp] theorem State.setCry_out (s : State) (n : Nat) (p : PressPage) : (s.setCry n p).out = s.out := rfl

@[simp] theorem State.setPipe_life (s : State) (p : Nat) (x : Pipe) : (s.setPipe p x).life = s.life := rfl
@[simp] theorem State.setPipe_dbg (s : State) (p : Nat) (x : Pipe) : (s.setPipe p x).dbg = s.dbg := rfl
@[simp] theorem State.setPipe_tap (s : State) (p : Nat) (x : Pipe) : (s.setPipe p x).tap = s.tap := rfl
@[simp] theorem State.setPipe_clk (s : State) (p : Nat) (x : Pipe) : (s.setPipe p x).clk = s.clk := rfl
@[simp] theorem State.setPipe_pwr (s : State) (p : Nat) (x : Pipe) : (s.setPipe p x).pwr = s.pwr := rfl
@[simp] theorem State.setPipe_tamp (s : State) (p : Nat) (x : Pipe) : (s.setPipe p x).tamp = s.tamp := rfl
@[simp] theorem State.setPipe_mem (s : State) (p : Nat) (x : Pipe) : (s.setPipe p x).mem = s.mem := rfl
@[simp] theorem State.setPipe_nvm (s : State) (p : Nat) (x : Pipe) : (s.setPipe p x).nvm = s.nvm := rfl
@[simp] theorem State.setPipe_ctrs (s : State) (p : Nat) (x : Pipe) : (s.setPipe p x).ctrs = s.ctrs := rfl
@[simp] theorem State.setPipe_vault (s : State) (p : Nat) (x : Pipe) : (s.setPipe p x).vault = s.vault := rfl
@[simp] theorem State.setPipe_rng (s : State) (p : Nat) (x : Pipe) : (s.setPipe p x).rng = s.rng := rfl
@[simp] theorem State.setPipe_ks (s : State) (p : Nat) (x : Pipe) : (s.setPipe p x).ks = s.ks := rfl
@[simp] theorem State.setPipe_casks (s : State) (p : Nat) (x : Pipe) : (s.setPipe p x).casks = s.casks := rfl
@[simp] theorem State.setPipe_caskBlk (s : State) (p : Nat) (x : Pipe) : (s.setPipe p x).caskBlk = s.caskBlk := rfl
@[simp] theorem State.setPipe_sched (s : State) (p : Nat) (x : Pipe) : (s.setPipe p x).sched = s.sched := rfl
@[simp] theorem State.setPipe_dec (s : State) (p : Nat) (x : Pipe) : (s.setPipe p x).dec = s.dec := rfl
@[simp] theorem State.setPipe_lat (s : State) (p : Nat) (x : Pipe) : (s.setPipe p x).lat = s.lat := rfl
@[simp] theorem State.setPipe_lanes (s : State) (p : Nat) (x : Pipe) : (s.setPipe p x).lanes = s.lanes := rfl
@[simp] theorem State.setPipe_lnk (s : State) (p : Nat) (x : Pipe) : (s.setPipe p x).lnk = s.lnk := rfl
@[simp] theorem State.setPipe_tile (s : State) (p : Nat) (x : Pipe) : (s.setPipe p x).tile = s.tile := rfl
@[simp] theorem State.setPipe_frame (s : State) (p : Nat) (x : Pipe) : (s.setPipe p x).frame = s.frame := rfl
@[simp] theorem State.setPipe_span (s : State) (p : Nat) (x : Pipe) : (s.setPipe p x).span = s.span := rfl
@[simp] theorem State.setPipe_host (s : State) (p : Nat) (x : Pipe) : (s.setPipe p x).host = s.host := rfl
@[simp] theorem State.setPipe_gpio (s : State) (p : Nat) (x : Pipe) : (s.setPipe p x).gpio = s.gpio := rfl
@[simp] theorem State.setPipe_latches (s : State) (p : Nat) (x : Pipe) : (s.setPipe p x).latches = s.latches := rfl
@[simp] theorem State.setPipe_stale (s : State) (p : Nat) (x : Pipe) : (s.setPipe p x).stale = s.stale := rfl
@[simp] theorem State.setPipe_draw (s : State) (p : Nat) (x : Pipe) : (s.setPipe p x).draw = s.draw := rfl
@[simp] theorem State.setPipe_out (s : State) (p : Nat) (x : Pipe) : (s.setPipe p x).out = s.out := rfl

@[simp] theorem State.setLat_life (s : State) (n : Nat) (p : LatPage) : (s.setLat n p).life = s.life := rfl
@[simp] theorem State.setLat_dbg (s : State) (n : Nat) (p : LatPage) : (s.setLat n p).dbg = s.dbg := rfl
@[simp] theorem State.setLat_tap (s : State) (n : Nat) (p : LatPage) : (s.setLat n p).tap = s.tap := rfl
@[simp] theorem State.setLat_clk (s : State) (n : Nat) (p : LatPage) : (s.setLat n p).clk = s.clk := rfl
@[simp] theorem State.setLat_pwr (s : State) (n : Nat) (p : LatPage) : (s.setLat n p).pwr = s.pwr := rfl
@[simp] theorem State.setLat_tamp (s : State) (n : Nat) (p : LatPage) : (s.setLat n p).tamp = s.tamp := rfl
@[simp] theorem State.setLat_mem (s : State) (n : Nat) (p : LatPage) : (s.setLat n p).mem = s.mem := rfl
@[simp] theorem State.setLat_nvm (s : State) (n : Nat) (p : LatPage) : (s.setLat n p).nvm = s.nvm := rfl
@[simp] theorem State.setLat_ctrs (s : State) (n : Nat) (p : LatPage) : (s.setLat n p).ctrs = s.ctrs := rfl
@[simp] theorem State.setLat_vault (s : State) (n : Nat) (p : LatPage) : (s.setLat n p).vault = s.vault := rfl
@[simp] theorem State.setLat_rng (s : State) (n : Nat) (p : LatPage) : (s.setLat n p).rng = s.rng := rfl
@[simp] theorem State.setLat_ks (s : State) (n : Nat) (p : LatPage) : (s.setLat n p).ks = s.ks := rfl
@[simp] theorem State.setLat_casks (s : State) (n : Nat) (p : LatPage) : (s.setLat n p).casks = s.casks := rfl
@[simp] theorem State.setLat_caskBlk (s : State) (n : Nat) (p : LatPage) : (s.setLat n p).caskBlk = s.caskBlk := rfl
@[simp] theorem State.setLat_sched (s : State) (n : Nat) (p : LatPage) : (s.setLat n p).sched = s.sched := rfl
@[simp] theorem State.setLat_dec (s : State) (n : Nat) (p : LatPage) : (s.setLat n p).dec = s.dec := rfl
@[simp] theorem State.setLat_press (s : State) (n : Nat) (p : LatPage) : (s.setLat n p).press = s.press := rfl
@[simp] theorem State.setLat_lanes (s : State) (n : Nat) (p : LatPage) : (s.setLat n p).lanes = s.lanes := rfl
@[simp] theorem State.setLat_lnk (s : State) (n : Nat) (p : LatPage) : (s.setLat n p).lnk = s.lnk := rfl
@[simp] theorem State.setLat_tile (s : State) (n : Nat) (p : LatPage) : (s.setLat n p).tile = s.tile := rfl
@[simp] theorem State.setLat_frame (s : State) (n : Nat) (p : LatPage) : (s.setLat n p).frame = s.frame := rfl
@[simp] theorem State.setLat_span (s : State) (n : Nat) (p : LatPage) : (s.setLat n p).span = s.span := rfl
@[simp] theorem State.setLat_host (s : State) (n : Nat) (p : LatPage) : (s.setLat n p).host = s.host := rfl
@[simp] theorem State.setLat_gpio (s : State) (n : Nat) (p : LatPage) : (s.setLat n p).gpio = s.gpio := rfl
@[simp] theorem State.setLat_latches (s : State) (n : Nat) (p : LatPage) : (s.setLat n p).latches = s.latches := rfl
@[simp] theorem State.setLat_stale (s : State) (n : Nat) (p : LatPage) : (s.setLat n p).stale = s.stale := rfl
@[simp] theorem State.setLat_draw (s : State) (n : Nat) (p : LatPage) : (s.setLat n p).draw = s.draw := rfl
@[simp] theorem State.setLat_out (s : State) (n : Nat) (p : LatPage) : (s.setLat n p).out = s.out := rfl

@[simp] theorem State.setPeer_life (s : State) (m : Nat) (p : Peer) : (s.setPeer m p).life = s.life := rfl
@[simp] theorem State.setPeer_dbg (s : State) (m : Nat) (p : Peer) : (s.setPeer m p).dbg = s.dbg := rfl
@[simp] theorem State.setPeer_tap (s : State) (m : Nat) (p : Peer) : (s.setPeer m p).tap = s.tap := rfl
@[simp] theorem State.setPeer_clk (s : State) (m : Nat) (p : Peer) : (s.setPeer m p).clk = s.clk := rfl
@[simp] theorem State.setPeer_pwr (s : State) (m : Nat) (p : Peer) : (s.setPeer m p).pwr = s.pwr := rfl
@[simp] theorem State.setPeer_tamp (s : State) (m : Nat) (p : Peer) : (s.setPeer m p).tamp = s.tamp := rfl
@[simp] theorem State.setPeer_mem (s : State) (m : Nat) (p : Peer) : (s.setPeer m p).mem = s.mem := rfl
@[simp] theorem State.setPeer_nvm (s : State) (m : Nat) (p : Peer) : (s.setPeer m p).nvm = s.nvm := rfl
@[simp] theorem State.setPeer_ctrs (s : State) (m : Nat) (p : Peer) : (s.setPeer m p).ctrs = s.ctrs := rfl
@[simp] theorem State.setPeer_vault (s : State) (m : Nat) (p : Peer) : (s.setPeer m p).vault = s.vault := rfl
@[simp] theorem State.setPeer_rng (s : State) (m : Nat) (p : Peer) : (s.setPeer m p).rng = s.rng := rfl
@[simp] theorem State.setPeer_ks (s : State) (m : Nat) (p : Peer) : (s.setPeer m p).ks = s.ks := rfl
@[simp] theorem State.setPeer_casks (s : State) (m : Nat) (p : Peer) : (s.setPeer m p).casks = s.casks := rfl
@[simp] theorem State.setPeer_caskBlk (s : State) (m : Nat) (p : Peer) : (s.setPeer m p).caskBlk = s.caskBlk := rfl
@[simp] theorem State.setPeer_sched (s : State) (m : Nat) (p : Peer) : (s.setPeer m p).sched = s.sched := rfl
@[simp] theorem State.setPeer_dec (s : State) (m : Nat) (p : Peer) : (s.setPeer m p).dec = s.dec := rfl
@[simp] theorem State.setPeer_press (s : State) (m : Nat) (p : Peer) : (s.setPeer m p).press = s.press := rfl
@[simp] theorem State.setPeer_lat (s : State) (m : Nat) (p : Peer) : (s.setPeer m p).lat = s.lat := rfl
@[simp] theorem State.setPeer_lanes (s : State) (m : Nat) (p : Peer) : (s.setPeer m p).lanes = s.lanes := rfl
@[simp] theorem State.setPeer_lnk (s : State) (m : Nat) (p : Peer) : (s.setPeer m p).lnk = s.lnk := rfl
@[simp] theorem State.setPeer_tile (s : State) (m : Nat) (p : Peer) : (s.setPeer m p).tile = s.tile := rfl
@[simp] theorem State.setPeer_frame (s : State) (m : Nat) (p : Peer) : (s.setPeer m p).frame = s.frame := rfl
@[simp] theorem State.setPeer_host (s : State) (m : Nat) (p : Peer) : (s.setPeer m p).host = s.host := rfl
@[simp] theorem State.setPeer_gpio (s : State) (m : Nat) (p : Peer) : (s.setPeer m p).gpio = s.gpio := rfl
@[simp] theorem State.setPeer_latches (s : State) (m : Nat) (p : Peer) : (s.setPeer m p).latches = s.latches := rfl
@[simp] theorem State.setPeer_stale (s : State) (m : Nat) (p : Peer) : (s.setPeer m p).stale = s.stale := rfl
@[simp] theorem State.setPeer_draw (s : State) (m : Nat) (p : Peer) : (s.setPeer m p).draw = s.draw := rfl
@[simp] theorem State.setPeer_out (s : State) (m : Nat) (p : Peer) : (s.setPeer m p).out = s.out := rfl

@[simp] theorem State.setPageIf_life (s : State) (n : Nat) (p : PageIf) : (s.setPageIf n p).life = s.life := by unfold State.setPageIf; split <;> rfl
@[simp] theorem State.setPageIf_dbg (s : State) (n : Nat) (p : PageIf) : (s.setPageIf n p).dbg = s.dbg := by unfold State.setPageIf; split <;> rfl
@[simp] theorem State.setPageIf_tap (s : State) (n : Nat) (p : PageIf) : (s.setPageIf n p).tap = s.tap := by unfold State.setPageIf; split <;> rfl
@[simp] theorem State.setPageIf_clk (s : State) (n : Nat) (p : PageIf) : (s.setPageIf n p).clk = s.clk := by unfold State.setPageIf; split <;> rfl
@[simp] theorem State.setPageIf_pwr (s : State) (n : Nat) (p : PageIf) : (s.setPageIf n p).pwr = s.pwr := by unfold State.setPageIf; split <;> rfl
@[simp] theorem State.setPageIf_tamp (s : State) (n : Nat) (p : PageIf) : (s.setPageIf n p).tamp = s.tamp := by unfold State.setPageIf; split <;> rfl
@[simp] theorem State.setPageIf_mem (s : State) (n : Nat) (p : PageIf) : (s.setPageIf n p).mem = s.mem := by unfold State.setPageIf; split <;> rfl
@[simp] theorem State.setPageIf_nvm (s : State) (n : Nat) (p : PageIf) : (s.setPageIf n p).nvm = s.nvm := by unfold State.setPageIf; split <;> rfl
@[simp] theorem State.setPageIf_ctrs (s : State) (n : Nat) (p : PageIf) : (s.setPageIf n p).ctrs = s.ctrs := by unfold State.setPageIf; split <;> rfl
@[simp] theorem State.setPageIf_vault (s : State) (n : Nat) (p : PageIf) : (s.setPageIf n p).vault = s.vault := by unfold State.setPageIf; split <;> rfl
@[simp] theorem State.setPageIf_rng (s : State) (n : Nat) (p : PageIf) : (s.setPageIf n p).rng = s.rng := by unfold State.setPageIf; split <;> rfl
@[simp] theorem State.setPageIf_ks (s : State) (n : Nat) (p : PageIf) : (s.setPageIf n p).ks = s.ks := by unfold State.setPageIf; split <;> rfl
@[simp] theorem State.setPageIf_casks (s : State) (n : Nat) (p : PageIf) : (s.setPageIf n p).casks = s.casks := by unfold State.setPageIf; split <;> rfl
@[simp] theorem State.setPageIf_caskBlk (s : State) (n : Nat) (p : PageIf) : (s.setPageIf n p).caskBlk = s.caskBlk := by unfold State.setPageIf; split <;> rfl
@[simp] theorem State.setPageIf_sched (s : State) (n : Nat) (p : PageIf) : (s.setPageIf n p).sched = s.sched := by unfold State.setPageIf; split <;> rfl
@[simp] theorem State.setPageIf_dec (s : State) (n : Nat) (p : PageIf) : (s.setPageIf n p).dec = s.dec := by unfold State.setPageIf; split <;> rfl
@[simp] theorem State.setPageIf_press (s : State) (n : Nat) (p : PageIf) : (s.setPageIf n p).press = s.press := by unfold State.setPageIf; split <;> rfl
@[simp] theorem State.setPageIf_lat (s : State) (n : Nat) (p : PageIf) : (s.setPageIf n p).lat = s.lat := by unfold State.setPageIf; split <;> rfl
@[simp] theorem State.setPageIf_lanes (s : State) (n : Nat) (p : PageIf) : (s.setPageIf n p).lanes = s.lanes := by unfold State.setPageIf; split <;> rfl
@[simp] theorem State.setPageIf_lnk (s : State) (n : Nat) (p : PageIf) : (s.setPageIf n p).lnk = s.lnk := by unfold State.setPageIf; split <;> rfl
@[simp] theorem State.setPageIf_tile (s : State) (n : Nat) (p : PageIf) : (s.setPageIf n p).tile = s.tile := by unfold State.setPageIf; split <;> rfl
@[simp] theorem State.setPageIf_frame (s : State) (n : Nat) (p : PageIf) : (s.setPageIf n p).frame = s.frame := by unfold State.setPageIf; split <;> rfl
@[simp] theorem State.setPageIf_span (s : State) (n : Nat) (p : PageIf) : (s.setPageIf n p).span = s.span := by unfold State.setPageIf; split <;> rfl
@[simp] theorem State.setPageIf_gpio (s : State) (n : Nat) (p : PageIf) : (s.setPageIf n p).gpio = s.gpio := by unfold State.setPageIf; split <;> rfl
@[simp] theorem State.setPageIf_latches (s : State) (n : Nat) (p : PageIf) : (s.setPageIf n p).latches = s.latches := by unfold State.setPageIf; split <;> rfl
@[simp] theorem State.setPageIf_stale (s : State) (n : Nat) (p : PageIf) : (s.setPageIf n p).stale = s.stale := by unfold State.setPageIf; split <;> rfl
@[simp] theorem State.setPageIf_draw (s : State) (n : Nat) (p : PageIf) : (s.setPageIf n p).draw = s.draw := by unfold State.setPageIf; split <;> rfl
@[simp] theorem State.setPageIf_out (s : State) (n : Nat) (p : PageIf) : (s.setPageIf n p).out = s.out := by unfold State.setPageIf; split <;> rfl

@[simp] theorem State.setSpi_life (s : State) (p : V1Port) : (s.setSpi p).life = s.life := rfl
@[simp] theorem State.setSpi_dbg (s : State) (p : V1Port) : (s.setSpi p).dbg = s.dbg := rfl
@[simp] theorem State.setSpi_tap (s : State) (p : V1Port) : (s.setSpi p).tap = s.tap := rfl
@[simp] theorem State.setSpi_clk (s : State) (p : V1Port) : (s.setSpi p).clk = s.clk := rfl
@[simp] theorem State.setSpi_pwr (s : State) (p : V1Port) : (s.setSpi p).pwr = s.pwr := rfl
@[simp] theorem State.setSpi_tamp (s : State) (p : V1Port) : (s.setSpi p).tamp = s.tamp := rfl
@[simp] theorem State.setSpi_mem (s : State) (p : V1Port) : (s.setSpi p).mem = s.mem := rfl
@[simp] theorem State.setSpi_nvm (s : State) (p : V1Port) : (s.setSpi p).nvm = s.nvm := rfl
@[simp] theorem State.setSpi_ctrs (s : State) (p : V1Port) : (s.setSpi p).ctrs = s.ctrs := rfl
@[simp] theorem State.setSpi_vault (s : State) (p : V1Port) : (s.setSpi p).vault = s.vault := rfl
@[simp] theorem State.setSpi_rng (s : State) (p : V1Port) : (s.setSpi p).rng = s.rng := rfl
@[simp] theorem State.setSpi_ks (s : State) (p : V1Port) : (s.setSpi p).ks = s.ks := rfl
@[simp] theorem State.setSpi_casks (s : State) (p : V1Port) : (s.setSpi p).casks = s.casks := rfl
@[simp] theorem State.setSpi_caskBlk (s : State) (p : V1Port) : (s.setSpi p).caskBlk = s.caskBlk := rfl
@[simp] theorem State.setSpi_sched (s : State) (p : V1Port) : (s.setSpi p).sched = s.sched := rfl
@[simp] theorem State.setSpi_dec (s : State) (p : V1Port) : (s.setSpi p).dec = s.dec := rfl
@[simp] theorem State.setSpi_press (s : State) (p : V1Port) : (s.setSpi p).press = s.press := rfl
@[simp] theorem State.setSpi_lat (s : State) (p : V1Port) : (s.setSpi p).lat = s.lat := rfl
@[simp] theorem State.setSpi_lanes (s : State) (p : V1Port) : (s.setSpi p).lanes = s.lanes := rfl
@[simp] theorem State.setSpi_lnk (s : State) (p : V1Port) : (s.setSpi p).lnk = s.lnk := rfl
@[simp] theorem State.setSpi_tile (s : State) (p : V1Port) : (s.setSpi p).tile = s.tile := rfl
@[simp] theorem State.setSpi_frame (s : State) (p : V1Port) : (s.setSpi p).frame = s.frame := rfl
@[simp] theorem State.setSpi_span (s : State) (p : V1Port) : (s.setSpi p).span = s.span := rfl
@[simp] theorem State.setSpi_gpio (s : State) (p : V1Port) : (s.setSpi p).gpio = s.gpio := rfl
@[simp] theorem State.setSpi_latches (s : State) (p : V1Port) : (s.setSpi p).latches = s.latches := rfl
@[simp] theorem State.setSpi_stale (s : State) (p : V1Port) : (s.setSpi p).stale = s.stale := rfl
@[simp] theorem State.setSpi_draw (s : State) (p : V1Port) : (s.setSpi p).draw = s.draw := rfl
@[simp] theorem State.setSpi_out (s : State) (p : V1Port) : (s.setSpi p).out = s.out := rfl

@[simp] theorem State.setI2c_life (s : State) (p : V1Port) : (s.setI2c p).life = s.life := rfl
@[simp] theorem State.setI2c_dbg (s : State) (p : V1Port) : (s.setI2c p).dbg = s.dbg := rfl
@[simp] theorem State.setI2c_tap (s : State) (p : V1Port) : (s.setI2c p).tap = s.tap := rfl
@[simp] theorem State.setI2c_clk (s : State) (p : V1Port) : (s.setI2c p).clk = s.clk := rfl
@[simp] theorem State.setI2c_pwr (s : State) (p : V1Port) : (s.setI2c p).pwr = s.pwr := rfl
@[simp] theorem State.setI2c_tamp (s : State) (p : V1Port) : (s.setI2c p).tamp = s.tamp := rfl
@[simp] theorem State.setI2c_mem (s : State) (p : V1Port) : (s.setI2c p).mem = s.mem := rfl
@[simp] theorem State.setI2c_nvm (s : State) (p : V1Port) : (s.setI2c p).nvm = s.nvm := rfl
@[simp] theorem State.setI2c_ctrs (s : State) (p : V1Port) : (s.setI2c p).ctrs = s.ctrs := rfl
@[simp] theorem State.setI2c_vault (s : State) (p : V1Port) : (s.setI2c p).vault = s.vault := rfl
@[simp] theorem State.setI2c_rng (s : State) (p : V1Port) : (s.setI2c p).rng = s.rng := rfl
@[simp] theorem State.setI2c_ks (s : State) (p : V1Port) : (s.setI2c p).ks = s.ks := rfl
@[simp] theorem State.setI2c_casks (s : State) (p : V1Port) : (s.setI2c p).casks = s.casks := rfl
@[simp] theorem State.setI2c_caskBlk (s : State) (p : V1Port) : (s.setI2c p).caskBlk = s.caskBlk := rfl
@[simp] theorem State.setI2c_sched (s : State) (p : V1Port) : (s.setI2c p).sched = s.sched := rfl
@[simp] theorem State.setI2c_dec (s : State) (p : V1Port) : (s.setI2c p).dec = s.dec := rfl
@[simp] theorem State.setI2c_press (s : State) (p : V1Port) : (s.setI2c p).press = s.press := rfl
@[simp] theorem State.setI2c_lat (s : State) (p : V1Port) : (s.setI2c p).lat = s.lat := rfl
@[simp] theorem State.setI2c_lanes (s : State) (p : V1Port) : (s.setI2c p).lanes = s.lanes := rfl
@[simp] theorem State.setI2c_lnk (s : State) (p : V1Port) : (s.setI2c p).lnk = s.lnk := rfl
@[simp] theorem State.setI2c_tile (s : State) (p : V1Port) : (s.setI2c p).tile = s.tile := rfl
@[simp] theorem State.setI2c_frame (s : State) (p : V1Port) : (s.setI2c p).frame = s.frame := rfl
@[simp] theorem State.setI2c_span (s : State) (p : V1Port) : (s.setI2c p).span = s.span := rfl
@[simp] theorem State.setI2c_gpio (s : State) (p : V1Port) : (s.setI2c p).gpio = s.gpio := rfl
@[simp] theorem State.setI2c_latches (s : State) (p : V1Port) : (s.setI2c p).latches = s.latches := rfl
@[simp] theorem State.setI2c_stale (s : State) (p : V1Port) : (s.setI2c p).stale = s.stale := rfl
@[simp] theorem State.setI2c_draw (s : State) (p : V1Port) : (s.setI2c p).draw = s.draw := rfl
@[simp] theorem State.setI2c_out (s : State) (p : V1Port) : (s.setI2c p).out = s.out := rfl

@[simp] theorem State.setLatches_life (s : State) (w : Requester) (x : Latches) : (s.setLatches w x).life = s.life := rfl
@[simp] theorem State.setLatches_dbg (s : State) (w : Requester) (x : Latches) : (s.setLatches w x).dbg = s.dbg := rfl
@[simp] theorem State.setLatches_tap (s : State) (w : Requester) (x : Latches) : (s.setLatches w x).tap = s.tap := rfl
@[simp] theorem State.setLatches_clk (s : State) (w : Requester) (x : Latches) : (s.setLatches w x).clk = s.clk := rfl
@[simp] theorem State.setLatches_pwr (s : State) (w : Requester) (x : Latches) : (s.setLatches w x).pwr = s.pwr := rfl
@[simp] theorem State.setLatches_tamp (s : State) (w : Requester) (x : Latches) : (s.setLatches w x).tamp = s.tamp := rfl
@[simp] theorem State.setLatches_mem (s : State) (w : Requester) (x : Latches) : (s.setLatches w x).mem = s.mem := rfl
@[simp] theorem State.setLatches_nvm (s : State) (w : Requester) (x : Latches) : (s.setLatches w x).nvm = s.nvm := rfl
@[simp] theorem State.setLatches_ctrs (s : State) (w : Requester) (x : Latches) : (s.setLatches w x).ctrs = s.ctrs := rfl
@[simp] theorem State.setLatches_vault (s : State) (w : Requester) (x : Latches) : (s.setLatches w x).vault = s.vault := rfl
@[simp] theorem State.setLatches_rng (s : State) (w : Requester) (x : Latches) : (s.setLatches w x).rng = s.rng := rfl
@[simp] theorem State.setLatches_ks (s : State) (w : Requester) (x : Latches) : (s.setLatches w x).ks = s.ks := rfl
@[simp] theorem State.setLatches_casks (s : State) (w : Requester) (x : Latches) : (s.setLatches w x).casks = s.casks := rfl
@[simp] theorem State.setLatches_caskBlk (s : State) (w : Requester) (x : Latches) : (s.setLatches w x).caskBlk = s.caskBlk := rfl
@[simp] theorem State.setLatches_sched (s : State) (w : Requester) (x : Latches) : (s.setLatches w x).sched = s.sched := rfl
@[simp] theorem State.setLatches_dec (s : State) (w : Requester) (x : Latches) : (s.setLatches w x).dec = s.dec := rfl
@[simp] theorem State.setLatches_press (s : State) (w : Requester) (x : Latches) : (s.setLatches w x).press = s.press := rfl
@[simp] theorem State.setLatches_lat (s : State) (w : Requester) (x : Latches) : (s.setLatches w x).lat = s.lat := rfl
@[simp] theorem State.setLatches_lanes (s : State) (w : Requester) (x : Latches) : (s.setLatches w x).lanes = s.lanes := rfl
@[simp] theorem State.setLatches_lnk (s : State) (w : Requester) (x : Latches) : (s.setLatches w x).lnk = s.lnk := rfl
@[simp] theorem State.setLatches_tile (s : State) (w : Requester) (x : Latches) : (s.setLatches w x).tile = s.tile := rfl
@[simp] theorem State.setLatches_frame (s : State) (w : Requester) (x : Latches) : (s.setLatches w x).frame = s.frame := rfl
@[simp] theorem State.setLatches_span (s : State) (w : Requester) (x : Latches) : (s.setLatches w x).span = s.span := rfl
@[simp] theorem State.setLatches_host (s : State) (w : Requester) (x : Latches) : (s.setLatches w x).host = s.host := rfl
@[simp] theorem State.setLatches_gpio (s : State) (w : Requester) (x : Latches) : (s.setLatches w x).gpio = s.gpio := rfl
@[simp] theorem State.setLatches_stale (s : State) (w : Requester) (x : Latches) : (s.setLatches w x).stale = s.stale := rfl
@[simp] theorem State.setLatches_draw (s : State) (w : Requester) (x : Latches) : (s.setLatches w x).draw = s.draw := rfl
@[simp] theorem State.setLatches_out (s : State) (w : Requester) (x : Latches) : (s.setLatches w x).out = s.out := rfl

end Sys2Proof.Machine
end

