-- ==== Sys2Proof/WellFormed.lean ====
section
/-! DEFINITION. The checks a command's operands meet when they come from outside: what a wire or a port can carry at all. `exec` has a
meaning for every command, well-formed or not; Safety and the tests use these checks. -/

namespace Sys2Proof

/-- A payload of a data packet has at most 1,024 bytes (R412, R414). -/
def Pkt.wf (p : Pkt) : Bool := decide (p.body.length ≤ 1024)
/-- A span message has a body of at most 1,004 bytes and a MAC of 8 (R514). -/
def SpanMsg.wf (m : SpanMsg) : Bool := decide (m.body.length ≤ 1004) && m.mac.length == 8
/-- The payload length of a protocol v1 frame fits its 16-bit LEN field (R552). -/
def V1Frame.wf (f : V1Frame) : Bool := decide (f.payload.length < 2 ^ 16)

/-- The TAP opcodes that are not BYPASS (R60). -/
def tapNamed : List Byte := [0x01, 0x02, 0x03, 0x10, 0x11, 0x12, 0x13, 0x14, 0x15, 0x20, 0x21, 0x22]

/-- A register is a word at an aligned address of the control space (R589-R591); BYPASS is the opcode of no other instruction (R60); the
tiles on a chain have distinct IDs (R452). -/
def Instr.wf : Instr → Bool
  | .registerWrite _ addr _ => decide (0x40000000 ≤ addr.toNat) && decide (addr.toNat < 0x40160000) && addr.toNat % 4 == 0
  | .tapBypass opcode => !tapNamed.contains opcode
  | .searchSequence _ tiles => decide tiles.Nodup
  | .rsp _ p | .req _ p | .enumRsp _ p | .pong _ p | .linkChange _ p | .authResp _ p | .authDone _ p | .senseRsp _ p
  | .limitAck _ p | .dataPacket _ p | .fack _ p => p.wf
  | .hello _ _ m | .helloAck _ _ m | .alive _ _ m | .timeRsp _ _ m | .schedule _ _ m | .reportReq _ _ m
  | .report _ _ m | .epochNew _ _ m | .incReq _ _ m | .propose _ _ m | .vote _ _ m | .commit _ _ m | .done _ _ m
  | .incRsp _ _ m | .keys _ _ m | .keyDel _ _ m => m.wf
  | .status _ f | .ident _ f | .pubkeys _ f | .mbWrite _ f | .mbRead _ f | .ring _ f | .poll _ f | .stage _ f
  | .ownClaim _ f | .imageReplace _ f => f.wf
  | .tapIdcode | .tapSamplePreload .. | .tapExtest .. | .tapLcStatus | .lcProvision .. | .lcToken .. | .lcLock
  | .lcPersonalise .. | .lcScrap | .dbgCert .. | .certVerifyDone | .debugSessionExpiry | .dbgClose
  | .dbgAccessRead .. | .dbgAccessWrite .. | .dbgAccessHalt .. | .dbgAccessResume .. | .dbgCtrlAdvance
  | .dbgCtrlClose | .dbgCtrlPresent | .lcsCmdAnalysis | .lcsCmdScrap | .wipeChunkEraseDone | .powerOnReset ..
  | .refclkArrival | .corePllLock | .clockBaselineDone | .bootSequence .. | .resetnAssert | .pwrCmdCold | .pwrCmdWarm
  | .windDownEnd | .watchdogExpiry | .pwrWdogKick .. | .pwrCmdActive | .pwrCmdIdle | .pwrCmdHold | .pwrCmdSleep
  | .pwrCmdOff | .powerChangeDone | .wakeTimeReached .. | .gpioWakeEdge .. | .spiCsWake | .i2cAddressWake
  | .pcieL1Exit | .mainPowerLoss | .clkForceOffWrite .. | .forceOffDone .. | .clockDomainIdle ..
  | .supplyWindowEvent .. | .vddioWindowEvent .. | .supplyGlitch .. | .clockMissing | .clockFrequencyEvent
  | .pllGlitch .. | .lightEvent .. | .tempLimitEvent .. | .tempWarning .. | .meshEvent .. | .l3VaultEraseDone
  | .coldHoldQuietTimer | .tampCtrlThaw | .tampCtrlMapLock | .tampCtrlRaise .. | .tampMapWrite .. | .alarmClear
  | .vbatLatchSet .. | .tamperLogWrite | .moveIssue .. | .macroMove .. | .loadDataArrival .. | .aluAdd ..
  | .aluSub .. | .aluAddc .. | .aluSubb .. | .aluAnd .. | .aluOr .. | .aluXor .. | .aluAndn .. | .aluShl ..
  | .aluShr .. | .aluSar .. | .aluRor .. | .aluClz .. | .aluPopc .. | .aluMin .. | .aluMax .. | .aluEq .. | .aluNe ..
  | .aluLt .. | .aluLtu .. | .aluGe .. | .aluGeu .. | .aluBit .. | .mulS .. | .mulU .. | .mulMacs .. | .lsuLd ..
  | .lsuSt .. | .lsuLdx .. | .lsuStx .. | .lsuSwp .. | .lsuCas .. | .brJ .. | .brCall .. | .brEret .. | .brRel ..
  | .brCallr .. | .evtWait .. | .evtWaitc .. | .evtClr .. | .evtSend .. | .evtWaitEnd .. | .tmrUntil ..
  | .tmrAfter .. | .tmrUntil64 .. | .tmrAlrm .. | .timedWaitEnd .. | .tmrAlarmFire .. | .rptGo .. | .rptCntWrite ..
  | .strCopy .. | .strCopyd .. | .strFill .. | .strCmp .. | .strCmpct .. | .strScan .. | .stringStep .. | .sysSync ..
  | .sysTrap .. | .sysYield .. | .sysConsentWrite .. | .ctrRead .. | .ctrInc .. | .ctrOpDone .. | .rngWRead ..
  | .decMacWrite .. | .decUcodeWrite .. | .caskEnable | .caskDisable | .caskResume | .caskReset | .caskWipe
  | .caskDrainDone .. | .caskWipeEraseDone .. | .backgroundEraseDone | .caskWinWrite .. | .caskCtlWrite ..
  | .contextSwapOutDone .. | .contextSwapInDone .. | .schedWindowStart .. | .sliceEnd .. | .vaultGenerate ..
  | .vaultImport .. | .vaultExport .. | .vaultDerive .. | .vaultDestroy .. | .vaultInfo .. | .vaultRequestDone
  | .pageWrite .. | .pageWriteDone .. | .nvmAllocSect .. | .nvmAllocCtr .. | .nvmComplete | .nvmRawRead ..
  | .nvmCtrGen .. | .nvmCmdDone | .vaultRetest | .rngHealthFail | .rngRetestTimer .. | .drbgReseed
  | .cryCtrEncrypt .. | .cryCtrDecrypt .. | .cryGcmEncrypt .. | .cryGcmDecrypt .. | .cryXtsEncrypt ..
  | .cryXtsDecrypt .. | .cryCmacGenerate .. | .cryCmacVerify .. | .cryKwWrap .. | .cryKwUnwrap .. | .cryKwpWrap ..
  | .cryKwpUnwrap .. | .cryCancel .. | .pressNonceReserved .. | .pressStagingSlotFree | .pressBurstLimit ..
  | .pressJobDone .. | .pressParityError .. | .pressPipeTestDone .. | .latImport .. | .latExport .. | .latFree ..
  | .latCopy .. | .latKeygen .. | .latEncrypt .. | .latDecrypt .. | .latAdd .. | .latSub .. | .latNeg ..
  | .latPadd .. | .latPsub .. | .latPmul .. | .latCmul .. | .latMul .. | .latRotate .. | .latDrop .. | .latRefresh ..
  | .latCancel .. | .latFusedStepEnd .. | .latJobDone .. | .vatEccError .. | .laneFault .. | .laneTestDone ..
  | .kemKeygen .. | .kemEncaps .. | .kemDecaps .. | .dsaKeygen .. | .dsaSign .. | .dsaVerify .. | .ecKeygen ..
  | .ecSign .. | .ecVerify .. | .ecAgree .. | .pkeRequestDone | .linkCfgWrite .. | .linkCtrlTrain ..
  | .linkCtrlDown .. | .linkCtrlRetrain .. | .laneCalDone .. | .laneLock .. | .trainingSet .. | .laneTrainTimeout ..
  | .retrainAttemptTimeout .. | .ack .. | .nak .. | .stamp .. | .retrain .. | .ackTimer .. | .replayTimer ..
  | .creditTimeout .. | .lnkGo .. | .lnkCancel .. | .lnkRequestTimeout .. | .presencePulse .. | .passRestartTimer ..
  | .discoveryStart .. | .confirmSequence .. | .unstableRetryTimer .. | .stuckLowDetect .. | .stuckLowCheck ..
  | .authVerifyDone .. | .mgmtTimeout .. | .authRetryTimer .. | .tileCmdDiscover .. | .tileCmdForget ..
  | .tileCmdReauth .. | .tileMakerWrite .. | .loopStart .. | .loopStop .. | .limit .. | .loopTick ..
  | .frameCfgWrite .. | .framePeriodWrite .. | .frameBoundary .. | .frameInEdge .. | .frameInTimeout ..
  | .frameDeadline | .regionWrite .. | .segmentDecryptDone | .playCounterCommit .. | .playTallyAdd .. | .frmApply ..
  | .frmFlush .. | .frmRead .. | .spanEnable | .spanDisable | .helloTimeout .. | .helloRetryTimer .. | .aliveTimer
  | .peerLostTimeout .. | .stampMeasureTimer .. | .timeRspTimeout | .holdoverExpiry | .spanIncTimeout ..
  | .spanCmdPush | .pcieBar0Access .. | .h2cWrite .. | .c2hWrite .. | .msixOwedSend .. | .pcieLinkUp ..
  | .pcieLinkDown | .pcieFlr | .perstnAssert | .spiWriteFrame .. | .spiReadStatus | .spiReadResponse | .spiCsRise
  | .i2cWriteTransaction .. | .i2cReadTransaction | .i2cStuckTimeout | .claimResetTimer | .resetnRelease
  | .sensorEpisodeEnd .. | .frameOutPulseEnd | .tileReencryptDone .. | .authEphemeralKeygenDone .. | .spanPushDone
  | .devicePageResponseRead | .discardedPacket .. => true

end Sys2Proof
end

