-- ==== Sys2Proof/Tests/Slice0.lean ====
section
/-! SUPPORT. Tests: the checks on operands refuse what they should, every statement's hypotheses are met somewhere, and single steps
give what the spec's tables and worked examples say. -/

namespace Sys2Proof.Tests

open Sys2Proof Sys2Proof.Machine

/- Each proof waits for the kernel's word on everything before it, so they run one after another: side by side, each would hold a
thread while it waits. -/
set_option Elab.async false

/-! ## Small states -/

/-- Running in OWNED: booted, clocked, keystone code issuing, casks scheduled. -/
def owned : State := { State.reset with
  life := { State.reset.life with state := .owned }
  dbg := { State.reset.dbg with level := .closed }
  clk := { State.reset.clk with refclk := true, pllLock := true, onRefclk := false, baseline := true, timeOn := true, time := 1000 }
  pwr := { State.reset.pwr with bootStep := 9, booting := false }
  ks := { State.reset.ks with running := true } }
/-- The same with a debugger at FULL, in ANALYSIS. -/
def lab : State := { owned with life := { owned.life with state := .analysis }, dbg := { owned.dbg with level := .full } }
/-- In life-cycle state `l` after boot step 7. -/
def inLife (l : Lcs) : State := { owned with
  life := { owned.life with state := l }, dbg := { owned.dbg with level := defaultLevel l }
  pwr := { owned.pwr with bootStep := 7 }, ks := { owned.ks with running := false } }
/-- Cask 5 enabled, with SRAM data and stack segments, resident and RUNNING, in class 0 with every grant. -/
def cask5 : Cask := { state := .running, slot := some 1, budget := 1000, quota := 100
                      code := { base := 0x10000000, size := 0x1000, r := true, x := true }
                      data := { base := 0x10010000, size := 0x1000, r := true, w := true }
                      stack := { base := 0x10020000, size := 0x1000, r := true, w := true } }
def withCask (k : Cask) : State := { owned with casks := [(5, k)], caskBlk := { owned.caskBlk with classes := [(0, 0xFFFFFFFF)] } }
def run5 : State := withCask cask5
def c5 : Ctx := .cask 5
/-- Lane `l` is UP in a role with one virtual channel. -/
def laneUp (role : BitVec 2) : LaneSt := { state := .up, role := role, v := 1 }

/-- The keys of a table rise, as a check. -/
def rises : List Nat → Bool
  | a :: b :: t => decide (a < b) && rises (b :: t)
  | _ => true
theorem rises_pairwise {t : List Nat} (h : rises t = true) : t.Pairwise (· < ·) := by
  induction t with
  | nil => exact List.Pairwise.nil
  | cons a t ih =>
    cases t with
    | nil => exact List.pairwise_singleton ..
    | cons b t =>
      simp only [rises, Bool.and_eq_true, decide_eq_true_eq] at h
      refine List.pairwise_cons.mpr ⟨fun x hx => ?_, ih h.2⟩
      rcases List.mem_cons.mp hx with rfl | hx
      · exact h.1
      · exact Nat.lt_trans h.1 (List.rel_of_pairwise_cons (ih h.2) hx)
theorem keysRise_of {α : Type} {t : Tab α} (h : rises (t.map (·.1)) = true) : keysRise t :=
  List.Pairwise.of_map (·.1) (fun _ _ h => h) (rises_pairwise h)
def tabsB (s : State) : Bool :=
  rises (s.casks.map (·.1)) && rises (s.press.pages.map (·.1)) && rises (s.frame.regions.map (·.1)) &&
  rises (s.lat.pages.map (·.1)) && rises (s.lnk.map (·.1)) && rises (s.tile.tiles.map (·.1))
theorem tabsOk_of {s : State} (h : tabsB s = true) : s.tabsOk := by
  simp only [tabsB, Bool.and_eq_true] at h
  exact ⟨keysRise_of h.1.1.1.1.1, keysRise_of h.1.1.1.1.2, keysRise_of h.1.1.1.2, keysRise_of h.1.1.2, keysRise_of h.1.2, keysRise_of h.2⟩
/-! ## Witnesses: life cycle and debug -/

/-- TOKCNT at `n` in a device whose counters LC_PROVISION has set. -/
def tokens (n : Nat) (t : BitVec 4096) : State := { inLife .testLocked with
  life := { (inLife .testLocked).life with tokenTable := some t }
  ctrs := [(0, { ctrFresh with cells := List.replicate n .programmed })] }
/-- A debug session at FULL over every cask. -/
def session : Session := { level := .full, keystone := true, extest := true, last := 0x3FF }
def debugged : State := { lab with dbg := { lab.dbg with session := some session } }

/-- TapOpcodes: the TAP serves; EXTEST allowed; an opcode at each end of the gaps. -/
theorem witness_TapOpcodes : lab.tapServes = true ∧ lab.dbg.level ≠ .closed ∧ lab.extestOk = true ∧ lab.tapUp = true ∧
    (0x00 : Byte) ∉ tapNamed ∧ (0x04 : Byte) ∉ tapNamed ∧ (0x16 : Byte) ∉ tapNamed ∧ (0xFF : Byte) ∉ tapNamed := by decide
theorem witness_TokensExhausted : (tokens 16 0).tapUp = true ∧ (tokens 16 0).tamp.l3 = .none ∧ (tokens 16 0).lcBusy = false ∧
    (tokens 16 0).life.state = .testLocked ∧ (tokens 16 0).ctrNat ctrTokcnt = 16 := by decide
/-- LifeCycleRequests: the three hypotheses of every clause, then each clause's own. -/
theorem witness_LifeCycleRequests :
    (∀ l ∈ [Lcs.blank, .testLocked, .testOpen, .analysis],
      (inLife l).tapUp = true ∧ (inLife l).tamp.l3 = .none ∧ (inLife l).lcBusy = false ∧ (inLife l).life.state = l) ∧
    (inLife .blank).life.tokenTable = none ∧ (inLife .analysis).anyEgressUp = false ∧
    ({ inLife .analysis with lanes := [(0, laneUp 2)] } : State).anyEgressUp = true := by decide
/-- A wrong token, one too many mismatches, and the counts at their bounds. -/
theorem witness_LifeCycleRequests_token :
    (tokens 15 0).tapUp = true ∧ (tokens 15 0).lcBusy = false ∧ ctrVal ((tokens 15 0).ctr ctrTokcnt) = some 15 ∧
    (tokens 15 0).life.mismatches < 3 ∧ (inLife .testLocked).ctrNat ctrTokcnt < 16 ∧
    (inLife .testLocked).tokenMatches 0 0 = false ∧
    3 ≤ ({ inLife .testLocked with life := { (inLife .testLocked).life with mismatches := 3 } } : State).life.mismatches := by decide
/-- Entry 0 of a token table that holds the digest `d`. -/
theorem entry0 (d : Bytes) (h : d.length = 32) : leBytes 32 (fld (BitVec.ofNat 4096 (leNat d)) 0 256) = d := by
  have hl := leNat_lt d
  rw [h] at hl
  have e : fld (BitVec.ofNat 4096 (leNat d)) 0 256 = leNat d := by
    have h1 : leNat d < 2 ^ 4096 := Nat.lt_of_lt_of_le hl (by decide +kernel)
    have h2 : leNat d < 2 ^ 256 := Nat.lt_of_lt_of_le hl (by decide +kernel)
    rw [fld, BitVec.toNat_ofNat, Nat.mod_eq_of_lt h1, Nat.shiftRight_zero, Nat.mod_eq_of_lt h2]
  rw [e, ← h]
  exact leBytes_leNat d
/-- A token that matches: token 0 under index 0, on any device, with a table that holds its digest. -/
theorem witness_LifeCycleRequests_match : fld (0 : BitVec 264) 256 8 = 0 ∧ fld (0 : BitVec 264) 0 256 = 0 ∧
    leBytes 32 (fld (BitVec.ofNat 4096 (leNat (tokenDigest 0 0))) 0 256) = tokenDigest 0 0 :=
  ⟨by decide, by decide, entry0 _ (sha256_length _)⟩
theorem witness_LifeCycleRefusals :
    (∀ l ∈ [Lcs.personal, .owned, .scrap, .analysisPending],
      (inLife l).tapUp = true ∧ (inLife l).tamp.l3 = .none ∧ (inLife l).lcBusy = false ∧ (inLife l).life.state = l) ∧
    ({ inLife .blank with life := { (inLife .blank).life with wiping := true } } : State).lcBusy = true ∧
    owned.ksWriter = true ∧ owned.lcBusy = false ∧ owned.life.state = .owned ∧ owned.dbg.authAnalysis = false ∧
    lab.ksWriter = true ∧ lab.lcBusy = false ∧ lab.life.state = .analysis := by decide
/-- WipeRuns: a request with its authorisation, and the wipe at its first, middle and last chunk, both ways. -/
theorem witness_WipeRuns :
    (let s : State := { owned with dbg := { owned.dbg with authAnalysis := true } }
     s.ksWriter = true ∧ s.lcBusy = false ∧ s.life.state = .owned ∧ s.dbg.authAnalysis = true ∧ s.anyEgressUp = false) ∧
    (∀ (k : Fin 16) (scrap direct : Bool),
      let s : State := { inLife .analysisPending with
        life := { (inLife .analysisPending).life with wiping := true, chunk := k.val, target := scrap, directScrap := direct } }
      s.life.wiping = true ∧ s.pwr.mainPower = true ∧ s.life.chunk = k.val ∧ s.life.target = scrap ∧ s.life.directScrap = direct) := by
  decide
/-- DebugCertificates: presented while busy, barred after 8 failures, and taken. -/
theorem witness_DebugCertificates :
    (inLife .owned).tapServes = true ∧ (inLife .owned).pwr.state ≠ .sleep ∧ (inLife .owned).lcBusy = false ∧
    (inLife .owned).dbg.verifying = none ∧ (inLife .owned).dbg.fails.toNat < 8 ∧
    8 ≤ ({ owned with dbg := { owned.dbg with fails := 8 } } : State).dbg.fails.toNat ∧
    ({ owned with dbg := { owned.dbg with verifying := some ([], true) } } : State).dbg.verifying.isSome = true ∧
    owned.ksWriter = true ∧ ({ owned with dbg := { owned.dbg with verifying := some ([], true) } } : State).certCheck [] ≠ 0 ∧
    debugged.tapServes = true ∧ debugged.ksWriter = true ∧ debugged.dbg.session = some session := by decide
/-- DebugAccessRefused: a closed level permits nothing. -/
theorem witness_DebugAccessRefused :
    (inLife .owned).tapServes = true ∧ (inLife .owned).dbgPermits (dbgTarget 0) 0x40 .observe = false ∧
    (inLife .owned).dbgPermits (dbgTarget 0x7FF) 0x40000000 .control = false := by decide
/-- DebugAccessPermitted: a cask in the session's range, at the first and last word of the block. -/
theorem witness_DebugAccessPermitted :
    debugged.tapServes = true ∧ dbgTarget 5 = .cask 5 ∧ debugged.caskInRange 5 = true ∧ levelGe debugged.dbg.level .observe = true ∧
    levelGe debugged.dbg.level .control = true ∧ (0x40 : Word).toNat % 4 = 0 ∧ 0x40 ≤ (0x1FC : Word).toNat ∧ (0x1FC : Word).toNat < 0x200 ∧
    (({ debugged with casks := [(5, { cask5 with state := .halted })] } : State).cask 5).state = .halted := by decide
/-- RegisterWrites: a host at a KS register, a debugger at FULL and keystone code. -/
theorem witness_RegisterWrites :
    owned.requesterOn .host = true ∧ owned.reachesKs .host = false ∧ inCtrl (0x40000100 : Word).toNat = true ∧
    (0x40000100 : Word).toNat % 4 = 0 ∧ regKs (0x40000100 : Word).toNat = true ∧
    lab.requesterOn .debugger = true ∧ lab.reachesKs .debugger = true ∧
    owned.requesterOn .keystone = true ∧ owned.reachesKs .keystone = true := by decide
/-! ## Witnesses: power and clocks -/

/-- Just powered: boot waits at step 0 for REFCLK. -/
def powered : State := State.reset
/-- Boot at step 2 with the clock baseline complete, in life-cycle state `l`. -/
def booting (l : Lcs) : State := { inLife l with pwr := { (inLife l).pwr with booting := true, bootStep := 2 } }
/-- In SLEEP with every wake source enabled. -/
def asleep : State := { owned with
  pwr := { owned.pwr with state := .sleep, wakeEn := 0xFFFFF, wakePol := 0xFFFF }, clk := { owned.clk with pllLock := false } }
/-- A wind-down that waits for a reset of kind `k`. -/
def winding (k : RKind) : State := { owned with tamp := { owned.tamp with wind := some { resets := [k] } } }
/-- One egress lane UP. -/
def lit : State := { owned with lanes := [(0, laneUp 2)] }

theorem witness_BootCompletes :
    (powered.pwr.mainPower = true ∧ powered.pwr.booting = true ∧ powered.clk.timeOn = false ∧ powered.pwr.resetnLow = false) ∧
    (let s : State := { powered with clk := { powered.clk with refclk := true }, pwr := { powered.pwr with bootStep := 1 } }
     s.pwr.mainPower = true ∧ s.clk.refclk = true ∧ s.clk.pllLock = false ∧ s.pwr.resetnLow = false ∧ s.pwr.state ≠ .sleep ∧
     s.pwr.state ≠ .off ∧ s.pwr.booting = true ∧ s.pwr.bootStep = 1) ∧
    (∀ l ∈ [Lcs.blank, .testLocked, .personal, .owned, .scrap], (booting l).alive = true ∧ (booting l).pwr.booting = true ∧
      (booting l).clk.pllLock = true ∧ (booting l).clk.baseline = true ∧ (booting l).pwr.resetnLow = false ∧
      (booting l).tamp.vbat = [] ∧ (booting l).ks.running = false ∧ (booting l).life.state = l) := by decide
theorem witness_ResetsHappen :
    (owned.ksWriter = true ∧ owned.wdogCounts = false ∧
      (let s : State := { owned with pwr := { owned.pwr with wdogRunning := true }, clk := { owned.clk with time := 100000000 } }
       s.ksWriter = true ∧ s.wdogCounts = true ∧ s.wdogDue.toNat ≤ s.clk.time.toNat) ∧ owned.pwr.mainPower = true ∧
      owned.clk.refclk = true ∧ owned.pwr.resetnLow = false ∧ owned.tamp.l3 = .none ∧ owned.tamp.wind = none ∧
      owned.life.toPending = none ∧ owned.anyEgressUp = false) ∧
    (∀ k ∈ [RKind.pin, .cold, .warm, .tamper, .wdog], (winding k).ksWriter = true ∧ k ≠ .por ∧ (winding k).life.toPending = none ∧
      (winding k).tamp.wind = some { resets := [k] }) ∧
    (let s : State := { powered with clk := { powered.clk with refclk := true } }
     s.pwr.booting = true ∧ s.clk.timeOn = false ∧ s.clk.refclk = true ∧ s.pwr.mainPower = true) := by decide
/-- PowerRequests: each refusal, each kind of acceptance, and a change that ends. -/
theorem witness_PowerRequests :
    owned.ksWriter = true ∧ ({ owned with pwr := { owned.pwr with change := some .idle } } : State).pwr.change.isSome = true ∧
    (winding .warm).tamp.wind.isSome = true ∧ (winding .warm).ksWriter = true ∧
    (let s : State := { inLife .personal with dbg := { (inLife .personal).dbg with level := .full } }
     s.ksWriter = true ∧ s.pwr.change = none ∧ s.tamp.wind = none ∧ s.lcBusy = false ∧ s.life.state = .personal) ∧
    (lab.ksWriter = true ∧ lab.life.state = .analysis ∧ lab.dbg.level = .full ∧ lab.pwr.change = none) ∧
    (owned.pwr.change = none ∧ owned.dbg.level ≠ .control ∧ owned.dbg.level ≠ .full ∧ owned.pwr.state = .active) ∧
    (lit.ksWriter = true ∧ lit.pwr.change = none ∧ lit.tamp.wind = none ∧ lit.lcBusy = false ∧ lit.life.state = .owned ∧
      lit.anyEgressUp = true) ∧
    (∀ p ∈ [PState.active, .idle, .hold, .sleep, .off], ∀ w : Bool,
      let s : State := { owned with pwr := { owned.pwr with change := some p, wakePending := w } }
      s.pwr.change = some p ∧ s.tamp.wind = none ∧ s.nvm.active = none ∧ s.nvm.queue = [] ∧ s.pwr.state ≠ .sleep ∧
      s.dbg.wakeCert = none) := by decide
theorem witness_WakesAndPowerLoss :
    (∀ b : Fin 20, asleep.alive = true ∧ bit asleep.pwr.wakeEn b.val = true ∧ asleep.pwr.state = .sleep ∧ asleep.pwr.change = none) ∧
    (bit owned.pwr.wakeEn 16 = false) ∧
    (let s : State := { asleep with pwr := { asleep.pwr with state := .active, change := some .sleep } }
     s.alive = true ∧ bit s.pwr.wakeEn 18 = true ∧ s.pwr.change = some .sleep) ∧
    asleep.timeCounts = true ∧ asleep.clk.time.toNat < (1001 : Time).toNat ∧ asleep.pwr.wakeAt.toNat ≤ (1001 : Time).toNat ∧
    (∀ pin : Fin 16, bit asleep.pwr.wakePol pin.val = true) ∧ asleep.tapServes = true ∧ asleep.pwr.mainPower = true := by decide
/-- ForceOffWrites: no pipeline forced off, and all but the last. -/
theorem witness_ForceOffWrites : owned.ksWriter = true ∧ allForcible owned.clk.forceOff ∧
    allForcible [16, 17, 18, 19, 20, 21, 22, 23, 24, 25, 26, 27, 28, 29, 30] := by
  refine ⟨by decide, by simp [owned, State.reset, allForcible], ?_⟩; unfold allForcible; decide
theorem witness_ClockDomains :
    (let s : State := { owned with clk := { owned.clk with forceOff := [16] } }
     16 ∈ s.clk.forceOff ∧ 16 ∉ s.clk.off) ∧ 16 ∉ owned.clk.forceOff ∧ autoGated 40 = true ∧ autoGated 251 = true ∧
    40 ∉ owned.clk.gated := by decide
/-- ClockDomains: a presence domain, whichever lane 11 belongs to. -/
theorem witness_ClockDomains_presence :
    let s : State := { owned with clk := { owned.clk with forceOff := [196, 197] } }
    ∃ d : Fin 264, d.val ∈ s.clk.forceOff ∧ d.val ∉ s.clk.off ∧ d.val = (if Config.presenceB 11 then 197 else 196) := by
  cases h : Config.presenceB 11
  · exact ⟨196, by decide, by decide, by decide⟩
  · exact ⟨197, by decide, by decide, by decide⟩

/-! ## Witnesses: tamper -/

theorem witness_SensorEvents :
    owned.pwr.mainPower = true ∧ 5 ≤ owned.pwr.bootStep ∧ owned.clk.pllLock = true ∧ owned.clk.refclk = true ∧
    (∀ (c s : Byte), (c, s) ∉ owned.tamp.episodes) ∧
    ((0x01, 2) : Byte × Byte) ∈ ({ owned with tamp := { owned.tamp with episodes := [(0x01, 2)] } } : State).tamp.episodes ∧
    ({ owned with clk := { owned.clk with freqArmed := true } } : State).clk.freqArmed = true ∧
    (2161 : BitVec 16).toInt > 135 * 16 ∧ (-801 : BitVec 16).toInt < -50 * 16 ∧
    (1840 : BitVec 16).toInt ≥ (min 125 owned.tamp.tempWarn.toInt) * 16 := by
  refine ⟨by decide, by decide, by decide, by decide, ?_, by decide, by decide, by decide, by decide, by decide⟩
  intro c s; exact List.not_mem_nil
/-- TamperResponses: the common hypotheses, frozen or not, lit or dark. -/
theorem witness_TamperResponses : ∀ f lanes : Bool,
    let s : State := { (if lanes then lit else owned) with tamp := { owned.tamp with frozen := f } }
    s.ksWriter = true ∧ s.tamp.l3 = .none ∧ s.tamp.wind = none ∧ s.tamp.queue.length < 16 ∧ s.life.state ≠ .analysisPending ∧
    s.pwr.state ≠ .sleep ∧ s.pwr.change = none ∧ s.tamp.frozen = f ∧ s.pwr.booting = false ∧ s.anyEgressUp = lanes ∧
    s.life.toPending = none := by decide
theorem witness_AlarmRules : (∀ l : Fin 4, owned.clamps l.val = false) ∧ owned.ksWriter = true ∧
    (winding .warm).tamp.wind.isSome = true := by decide
theorem witness_ColdHoldEnds : ∀ q : Bool,
    let s : State := { owned with tamp := { owned.tamp with l3 := .coldHold, quiet := q }, pwr := { owned.pwr with booting := false } }
    s.tamp.l3 = .coldHold ∧ s.tamp.episodes = [] ∧ s.pwr.mainPower = true ∧ s.pwr.resetnLow = false ∧ s.tamp.quiet = q ∧
    s.pwr.booting = false ∧
    ({ s with tamp := { s.tamp with episodes := [(7, 0)] } } : State).tamp.episodes ≠ [] := by decide
theorem witness_TamperControl : owned.ksWriter = true ∧ owned.tamp.mapLock = false ∧
    ({ owned with tamp := { owned.tamp with mapLock := true } } : State).ksWriter = true ∧ lab.life.state ≠ .owned := by decide
theorem witness_TamperLogAndLatches :
    (let s : State := { owned with tamp := { owned.tamp with l3 := .erasing } }
     s.tamp.l3 = .erasing ∧ s.pwr.mainPower = true) ∧
    (∀ l ∈ [VbatLatch.mesh, .light, .temp, .vbatLost],
      let s : State := { owned with pwr := { owned.pwr with mainPower := false } }
      s.pwr.mainPower = false ∧ l ∉ s.tamp.vbat) ∧
    (let s : State := { owned with tamp := { owned.tamp with queue := [{ cls := 0x0E }] } }
     s.pwr.mainPower = true ∧ 4 ≤ s.pwr.bootStep ∧ s.tamp.queue = [{ cls := 0x0E }]) ∧
    (let s : State := { owned with tamp := { owned.tamp with lost := 1 } }
     s.pwr.mainPower = true ∧ 4 ≤ s.pwr.bootStep ∧ s.tamp.queue = [] ∧ 0 < s.tamp.lost) := by decide
/-! ## Witnesses: contexts -/

/-- Cask 5 with other registers. -/
def runWith (r : Regs) : State := withCask { cask5 with regs := r }
/-- Its registers in the witnesses: PC in the code segment, stack pointer in the stack segment. -/
def regs5 : Regs := { pc := 0x10000000, g := [(1, 7), (30, 0x10020800)] }
theorem issues_keystone : owned.issues .keystone := ⟨by decide, by decide, by decide, by decide⟩
theorem issues_cask : run5.issues c5 := ⟨by decide, by decide, by decide, by decide⟩
theorem issues_regs5 : (runWith regs5).issues c5 := ⟨by decide, by decide, by decide, by decide⟩

/-- AluResults and AluCompare ask for a context that issues; so does every list in them (their members are written out there). -/
theorem witness_AluResults : owned.issues .keystone ∧ run5.issues c5 := ⟨issues_keystone, issues_cask⟩
theorem witness_AluCompare : owned.issues .keystone ∧ run5.issues c5 := ⟨issues_keystone, issues_cask⟩
/-- MultiplyDelay: products already on their way, at the greatest age. -/
theorem witness_MultiplyDelay : run5.issues c5 ∧ (∀ x ∈ ({ pend := [{ value := 9, delay := 3 }] } : Mul).pend, x.delay ≤ 3) :=
  ⟨issues_cask, by decide⟩
/-- LoadsAndStores: at both ends of the data segment, a refused load, and a CAS whose word is equal. -/
theorem witness_LoadsAndStores : (runWith regs5).issues c5 ∧
    inSram 0x10010000 4 ∧ (runWith regs5).dataFault c5 0x10010000 4 .load = none ∧ (runWith regs5).dataFault c5 0x10010000 4 .store = none ∧
    inSram 0x10010FFF 1 ∧ (runWith regs5).dataFault c5 0x10010FFF 1 .store = none ∧
    inSram 0x10010FFC 4 ∧ (runWith regs5).dataFault c5 0x10010FFC 4 .atomic = none ∧
    (runWith regs5).dataFault c5 0x10011000 1 .load = some excDataSeg ∧ (runWith regs5).dataFault c5 0x10010002 4 .load = some excDataAlign :=
  ⟨issues_regs5, by decide⟩
/-- The word `w` stored at `a`. -/
def put (s : State) (a : Nat) (w : Nat) : State := s.wrBytes a (leBytes 4 w)
/-- Cask 5 in a handler, a frame with IN_DELAY at its stack pointer. -/
def handling : State := put (put (runWith { regs5 with sys := { regs5.sys with handler := true, epend := 0x10000040 } })
  0x10020800 0x10000010) 0x10020804 0x10C
/-- Branches: outside a delay slot in and out of a repeat body, a handler with its frame, and no handler. -/
theorem witness_Branches : (runWith regs5).issues c5 ∧ ((runWith regs5).regs c5).delay = none ∧ ((runWith regs5).regs c5).sys.handler = false ∧
    (let r := (runWith { regs5 with rpt := { beg := 0x10000000, fin := 0x10000008, cnt := 3 } }).regs c5
     r.delay = none ∧ r.rpt.beg.toNat ≤ r.pc.toNat ∧ r.pc.toNat < r.rpt.fin.toNat) ∧
    handling.canIssue c5 = true ∧ (handling.regs c5).sys.handler = true ∧ (handling.regs c5).delay = none ∧
    handling.stackHolds c5 (0x10020800 : Word).toNat false = true ∧ bit (handling.memWord (0x10020800 + 4)) 8 = true :=
  ⟨issues_regs5, by decide⟩
/-- ExceptionEntry: in a delay slot, with no vector, with a vector and a misaligned or an unfit stack, and with room for the frame. -/
def vectored (sp : Word) : Regs := { regs5 with g := [(30, sp)], delay := some 0x10000100, sys := { regs5.sys with evec := 0x10000200 } }
theorem witness_ExceptionEntry : (runWith regs5).issues c5 ∧
    ((runWith regs5).regs c5).sys.evec = 0 ∧ ((runWith regs5).regs c5).sys.handler = false ∧
    ((runWith (vectored 0x10020802)).regs c5).sys.evec ≠ 0 ∧ ((runWith (vectored 0x10020802)).regs c5).delay = some 0x10000100 ∧
    (0x10020802 : Word).toNat % 4 ≠ 0 ∧ (runWith (vectored 0x1002000C)).stackHolds c5 ((0x1002000C : Word) - 16).toNat true = false ∧
    (runWith (vectored 0x10020010)).stackHolds c5 ((0x10020010 : Word) - 16).toNat true = true ∧
    (runWith (vectored 0x10021000)).stackHolds c5 ((0x10021000 : Word) - 16).toNat true = true :=
  ⟨issues_regs5, by decide⟩
/-- Cask 5 with the word `w` at its PC. -/
def fetches (w : Nat) : State := put (runWith regs5) 0x10000000 w
theorem issues_fetches : (fetches 0x90001002).issues c5 := ⟨by decide, by decide, by decide, by decide⟩
/-- GuardedOff: guard 1001 (g1 = 0) fails on 7, with `g1 → g2`; guard 1000 is illegal; port 0x0FF is unassigned. -/
theorem witness_GuardedOff : (fetches 0x90001002).issues c5 ∧ (fetches 0x90001002).fetchOk c5 regs5.pc = true ∧
    ((fetches 0x90001002).freshFetch c5).heldWord c5 (windowOf regs5) regs5.pc = 0x90001002 ∧
    moveOf 0x90001002 0 = .ok { guard := 9, src := .port 1, width := 0, dst := 2 } ∧
    guardOk (getG ((fetches 0x90001002).regs c5)) 9 = false ∧
    (fetches 0x90001002).encFault c5 { guard := 9, src := .port 1, width := 0, dst := 2 } = none ∧
    mvForm 0x80001002 ≠ 2 ∧ ((fetches 0x80001002).freshFetch c5).heldWord c5 (windowOf regs5) regs5.pc = 0x80001002 ∧
    moveOf 0x80001002 0 = .error excIllegalGuard ∧
    moveOf 0x000FF002 0 = .ok { guard := 0, src := .port 0xFF, width := 0, dst := 2 } ∧
    (fetches 0x000FF002).encFault c5 { guard := 0, src := .port 0xFF, width := 0, dst := 2 } = some (excBadPort, some 0xFF) :=
  ⟨issues_fetches, by decide, by decide, rfl, by decide, by decide, by decide, by decide, rfl, rfl, by decide⟩
/-- MovesAndReads: an immediate, a register, a macro in the cask's class, a full buffer, and a load on its way. -/
def macroed : State := { run5 with
  dec := { run5.dec with macs := [(63, { valid := true, classes := 1 })], ucode := [(0, 0x00000021)] }
  rng := { run5.rng with buffers := [(run5.coreOf c5, [0xA5])] } }
theorem witness_MovesAndReads :
    (fetches 0x04FFF002).fetchOk c5 regs5.pc = true ∧ mvGuard 0x04FFF002 = 0 ∧ mvDst 0x04FFF002 < 32 ∧ mvForm 0x04FFF002 = 1 ∧
    (fetches 0x01001000).fetchOk c5 regs5.pc = true ∧ mvGuard 0x01001000 = 0 ∧ mvDst 0x01001000 = 0 ∧ mvForm 0x01001000 = 0 ∧
    mvSrc 0x01001000 < 32 ∧
    (macroed.mac (63 : BitVec 6).toNat).valid = true ∧ macroSeen macroed c5 (63 : BitVec 6).toNat = true ∧
    macroed.granted c5 5 = true ∧ macroed.vault.rngFail = false ∧ tget macroed.rng.buffers (macroed.coreOf c5) [] = [0xA5] ∧
    (let s := runWith { regs5 with lsu := { pend := [{ delay := 0, arrived := false }] } }
     s.alive = true ∧ (s.regs c5).aside = none ∧ (s.regs c5).lsu.pend = [{ delay := 0, arrived := false }]) := by decide
/-- EventWaits: a mask that meets a pending line and one that does not; sends refused and to the cask itself; a wait whose line came. -/
def pending3 : State := withCask { cask5 with pend := 8 }
theorem witness_EventWaits : pending3.issues c5 ∧ pending3.pendOf c5 &&& 8 ≠ 0 ∧ pending3.pendOf c5 &&& 4 = 0 ∧ (4 : Word) ≠ 0 ∧
    pending3.sendGranted c5 (bit (0x400 : Word) 10) (fld (0x400 : Word) 0 10) (fld (0x400 : Word) 16 5) = false ∧
    bit (0x00030005 : Word) 10 = false ∧ fld (0x00030005 : Word) 0 10 = (5 : BitVec 10).toNat ∧
    (let s : State := { owned with ks := { owned.ks with pend := 3, regs := { owned.ks.regs with wait := { kind := .wait, mask := 2 } } } }
     s.alive = true ∧ (s.regs .keystone).wait = { kind := .wait, mask := 2 } ∧ s.pendOf .keystone &&& 2 ≠ 0) :=
  ⟨⟨by decide, by decide, by decide, by decide⟩, by decide⟩
/-- TimersAndRepeat: TIME is 1000 in these states. -/
def alarmed : State := runWith { regs5 with tmr := { armed := true, target := 1001, aline := 0x103 } }
def timed : State := { owned with ks := { owned.ks with regs := { owned.ks.regs with wait := { kind := .time64, target := 1001 } } } }
theorem witness_TimersAndRepeat : run5.issues c5 ∧
    alarmed.alive = true ∧ alarmed.timeCounts = true ∧ alarmed.clk.time.toNat ≤ (1001 : Time).toNat ∧ (alarmed.regs c5).tmr.armed = true ∧
    (loW (1001 : Time) - (alarmed.regs c5).tmr.target).toNat < 2 ^ 31 ∧ bit (alarmed.regs c5).tmr.aline 8 = true ∧ alarmed.ctxLive c5 = true ∧
    timed.alive = true ∧ timed.timeCounts = true ∧ timed.clk.time.toNat ≤ (1001 : Time).toNat ∧
    (timed.regs .keystone).wait = { kind := .time64, target := 1001 } ∧
    ((runWith regs5).regs c5).delay = none ∧ ((runWith (vectored 0)).regs c5).delay.isSome = true ∧ (runWith (vectored 0)).canIssue c5 = true ∧
    ((runWith regs5).regs c5).rpt.fin - 4 ≠ ((runWith regs5).regs c5).pc :=
  ⟨issues_cask, by decide⟩
/-- StringOperations: LEN 0 and not 0; a FILL of 8 and of 1 bytes at the end of the data segment; and one beyond it. -/
def filling (dst : Word) (len : Word) : State := runWith { regs5 with str := { dst := dst, len := len, op := 3, busy := true, val := 0xEE } }
theorem witness_StringOperations : (runWith regs5).issues c5 ∧ (runWith { regs5 with str := { len := 5 } }).issues c5 ∧
    ((runWith regs5).regs c5).str.len = 0 ∧
    (filling 0x10010FFF 1).canIssue c5 = true ∧ inSram 0x10010FFF 1 ∧ (filling 0x10010FFF 1).dataFault c5 0x10010FFF 1 .store = none ∧
    (filling 0x10010FF8 8).canIssue c5 = true ∧ inSram 0x10010FF8 8 ∧
    (∀ j ∈ [0, 1, 2, 3, 4, 5, 6, 7], (filling 0x10010FF8 8).dataFault c5 (0x10010FF8 + BitVec.ofNat 32 j) 1 .store = none) ∧
    (filling 0x10011000 1).dataFault c5 0x10011000 1 .store = some excDataSeg :=
  ⟨issues_regs5, ⟨by decide, by decide, by decide, by decide⟩, by decide⟩
/-- SystemAndCounters: a counter the cask owns, one it does not, amounts at both ends, and records with and without a value. -/
def counted (sel : BitVec 16) (op : Option CtrOp) : State := runWith { regs5 with ctr := { sel := sel, op := op } }
def ksCounting : State := { owned with ks := { owned.ks with regs := { owned.ks.regs with ctr := { sel := 255 } } } }
theorem witness_SystemAndCounters : run5.issues c5 ∧ owned.issues .keystone ∧ ksCounting.issues .keystone ∧
    run5.granted c5 4 = true ∧ (run5.regs c5).ctr.op = none ∧ owned.ctrSelected .keystone false = some 0 ∧
    ksCounting.ctrSelected .keystone true = some 255 ∧ run5.ctrSelected c5 true = none ∧
    (let s : State := { counted 0 (some { counter := 128, inc := some 64 }) with ctrs := [(128, ctrFresh)] }
     s.alive = true ∧ ctrVal (s.ctr 128) = some 0 ∧ (s.regs c5).ctr.op = some { counter := 128, inc := some 64 }) ∧
    (counted 0 (some { counter := 2, inc := none })).alive = true ∧ ctrVal ((counted 0 none).ctr 2) = none :=
  ⟨issues_cask, issues_keystone, ⟨by decide, by decide, by decide, by decide⟩, by decide⟩
/-- AT_MAX: a counter at its greatest value. -/
theorem witness_SystemAndCounters_max :
    ctrVal { ctrFresh with base0 := none, base1 := some { gen := 1, value := 0xFFFFFFFFFFFFFFFF } } = some (2 ^ 64 - 1) := by decide
/-- MacroStore: a valid macro of one micro-op, one beyond the store, and entries in and out of a valid macro. -/
theorem witness_MacroStore : macroed.ksWriter = true ∧ (macOf 0).valid = false ∧
    (∀ j ∈ macEntries (macOf 0x8000), j < 1024 ∧ uopOk (macroed.uop j) = true) ∧ (macOf 0x8000).valid = true ∧
    1024 ∈ macEntries (macOf 0x87FF) ∧ (macOf 0x87FF).valid = true ∧ (macroed.mac 63).valid = true ∧
    macroed.macHolding 0 = some 63 ∧ macroed.macHolding 1023 = none := by decide
/-! ## Witnesses: casks, vault and flash -/

/-- Cask 5 selected, in state `st`, with segments that pass ENABLE's checks. -/
def selected (k : Cask) : State := { withCask k with caskBlk := { run5.caskBlk with sel := 5 } }
def disabled5 : Cask := { cask5 with state := .disabled, slot := none }
/-- EnableChecks: states that may write and enable, and one cask for each answer: no code, a writable flash segment, inside
KSLO-KSHI, flash of another owner, and over another cask. -/
theorem witness_EnableChecks :
    (selected disabled5).ksWriter = true ∧ ((selected disabled5).cask 5).wipeErase = false ∧ ((selected disabled5).cask 5).state = .disabled ∧
    ((selected cask5).cask 5).state ≠ .disabled ∧ disabled5.code.size ≠ 0 ∧ disabled5.code.base.toNat % 64 = 0 ∧
    sramBase ≤ disabled5.code.base.toNat ∧ disabled5.stack.base.toNat + disabled5.stack.size.toNat ≤ sramBase + sramSize ∧
    ({ disabled5 with code := { disabled5.code with x := false } } : Cask).code.x = false ∧
    (let g : Seg := { base := 0x00100000, size := 64, r := true, w := true }
     g.base.toNat = flashBase ∧ g.w = true) ∧
    (let s : State := { selected disabled5 with caskBlk := { (selected disabled5).caskBlk with kslo := 0x10000FFF, kshi := 0x10000FFF } }
     s.caskBlk.kslo.toNat ≤ s.caskBlk.kshi.toNat ∧ s.caskBlk.kslo.toNat < disabled5.code.base.toNat + disabled5.code.size.toNat) ∧
    (selected disabled5).sectOwner 0 ≠ 5 ∧
    (∃ e ∈ ({ selected disabled5 with casks := [(5, disabled5), (6, cask5)] } : State).casks, e.1 ≠ 5 ∧ e.2.state ≠ .disabled ∧
      e.2.code.base.toNat < disabled5.code.base.toNat + disabled5.code.size.toNat) ∧
    (0x040 : BitVec 9).toNat % 4 = 0 ∧ (0x03C : BitVec 9).toNat < 0x040 ∧
    (∀ g ∈ [cask5.code, cask5.data, cask5.stack, cask5.shared], g.size ≠ 0 → g.sealed = false) := by
  refine ⟨by decide, by decide, by decide, by decide, by decide, by decide, by decide, by decide, by decide, by decide, by decide, by decide,
    ⟨(6, cask5), by decide, by decide⟩, by decide⟩
/-- CaskCommands: each state a command can find, and drains of each kind with a sealed segment. -/
def draining (d : DrainCmd) : Cask := { disabled5 with state := .disabling, drain := some d, stack := { disabled5.stack with sealed := true } }
theorem witness_CaskCommands :
    (∀ st ∈ [CState.ready, .running, .waiting, .halted, .faulted], (selected { cask5 with state := st }).ksWriter = true ∧
      ((selected { cask5 with state := st }).cask 5).state = st ∧ st ≠ .disabled ∧ st ≠ .disabling) ∧
    ((selected disabled5).cask 5).state = .disabled ∧ ((selected disabled5).cask 5).wipeErase = false ∧
    (∀ d ∈ [DrainCmd.disable, .reset, .wipe], (withCask (draining d)).alive = true ∧ ((withCask (draining d)).cask 5).state = .disabling ∧
      ((withCask (draining d)).cask 5).wipeErase = false ∧ (withCask (draining d)).drainReady 5 = true ∧
      ((withCask (draining d)).cask 5).drain = some d) ∧
    (withCask { draining .disable with slot := some 1 }).drainReady 5 = false ∧
    (let s : State := { withCask { draining .wipe with wipeErase := true } with nvm := { run5.nvm with sectOwn := [(959, 5)] } }
     s.alive = true ∧ (s.cask 5).wipeErase = true ∧ (∃ e ∈ s.nvm.sectOwn, e.2.toNat = 5 ∧ e.1 < 960)) ∧
    (∃ g ∈ [(draining .disable).code, (draining .disable).data, (draining .disable).stack, (draining .disable).shared], g.sealed = true ∧
      sramBase ≤ g.base.toNat ∧ g.base.toNat + g.size.toNat ≤ sramBase + sramSize) := by
  refine ⟨by decide, by decide, by decide, by decide, by decide, ⟨by decide, by decide, ⟨(959, 5), by decide, by decide⟩⟩,
    ⟨(draining .disable).stack, by decide, by decide⟩⟩
theorem witness_CaskCommands_tabs : (selected cask5).tabsOk := tabsOk_of (by decide)
/-- Scheduling: an empty slot with and without a candidate; a holder that stays and one that leaves; a window start. -/
def ready6 : Cask := { disabled5 with state := .ready, budget := 1000 }
def sched2 : State := { run5 with casks := [(5, cask5), (6, ready6)] }
theorem witness_Scheduling : sched2.frozen = false ∧ sched2.schedules = true ∧ sched2.coreOn (16 % 16) = true ∧
    (∀ e ∈ sched2.casks, e.2.slot ≠ some 16) ∧ (∃ e ∈ sched2.casks, e.2.state = .ready ∧ e.2.slot = none ∧ e.2.used < e.2.budget) ∧
    (∃ e ∈ sched2.casks, e.2.slot = some 1 ∧ e.2.leaving = false) ∧
    (∃ e ∈ (withCask { cask5 with leaving := true }).casks, e.2.slot = some 1 ∧ e.2.leaving = true ∧ ∀ l ∈ e.2.regs.lsu.pend, l.arrived = true) ∧
    (∀ e ∈ run5.casks, ¬ (e.2.state = .ready ∧ e.2.slot = none)) ∧ (100000 : Time).toNat % 100000 = 0 ∧ sched2.timeCounts = true := by
  refine ⟨by decide, by decide, by decide, by decide, ⟨(6, ready6), by decide, by decide⟩, ⟨(5, cask5), by decide, by decide⟩,
    ⟨(5, { cask5 with leaving := true }), by decide, by decide⟩, by decide, by decide, by decide⟩
theorem witness_Scheduling_tabs : sched2.tabsOk := tabsOk_of (by decide)

/-- A request of cask 5 waiting in every service, and a page write being served. -/
def q5 (svc : Svc) (op : Byte) (r : Req) : Request := { svc := svc, ctx := c5, op := op, req := r }
def rooted : State := { run5 with vault := { run5.vault with rootOk := true, slots := [
  (64, { owner := 5, typ := 2, policy := 0xFF, incarn := 9, key := List.replicate 32 7 }),
  (65, { owner := 5, typ := 1, policy := 0x21, incarn := 1, key := List.replicate 16 3 }),
  (8191, { owner := 5, typ := 1, policy := 0x40, incarn := 2, key := List.replicate 16 1 })] } }
def vaulted (op : Byte) (r : Req) : State := { rooted with vault := { rooted.vault with queue := [q5 .vault op r] } }
def pked (op : Byte) (r : Req) : State := { rooted with vault := { rooted.vault with pkeQueue := [q5 .pke op r] } }
/-- ServiceRequests: no request pending, one pending, the page service idle, busy with this and with another context, and no issue. -/
theorem witness_ServiceRequests : run5.canTrigger c5 = true ∧ (∀ q ∈ run5.vault.queue, q.ctx ≠ c5) ∧ (∀ q ∈ run5.vault.pkeQueue, q.ctx ≠ c5) ∧
    (∃ q ∈ (vaulted 1 {}).vault.queue, q.ctx = c5) ∧ (∃ q ∈ (pked 1 {}).vault.pkeQueue, q.ctx = c5) ∧
    run5.nvm.active = none ∧ run5.nvm.queue = [] ∧ run5.granted c5 12 = true ∧ (withCask { cask5 with cls := 1 }).granted c5 12 = false ∧
    caskRange cask5 5 0x10010000 2048 false = true ∧
    (({ run5 with nvm := { run5.nvm with sectOwn := [(0, 5)] } } : State).sectOwner ((flashBase - flashBase) / 0x4000) = ctxNum c5) ∧
    (∀ c ∈ [c5, Ctx.keystone], ∃ j, ({ run5 with nvm := { run5.nvm with active := some { req := q5 .nvm 1 {} } } } : State).nvm.active = some j ∧
      (j.req.ctx = c ↔ c = c5)) ∧
    (inLife .owned).canTrigger c5 = false := by
  refine ⟨by decide, by decide, by decide, ⟨_, List.mem_cons_self .., rfl⟩, ⟨_, List.mem_cons_self .., rfl⟩, by decide, by decide, by decide, by decide,
    by decide, by decide, ?_, by decide⟩
  intro c hc
  exact ⟨_, rfl, by revert c; decide⟩
/-- ServicesComplete: handles of cask 5, each operation's premises. -/
theorem witness_ServicesComplete : (vaulted 6 { arg0 := 0x00090040 }).alive = true ∧
    (vaulted 6 { arg0 := 0x00090040 }).vault.queue = [q5 .vault 6 { arg0 := 0x00090040 }] ∧ (vaulted 6 {}).ctxLive c5 = true ∧
    (vaulted 6 {}).vault.rootOk = true ∧ ({ vaulted 6 {} with vault := {} } : State).vault.rootOk = false ∧
    ((vaulted 6 {}).slotOf c5 0x00090040).map (·.1) = some 64 ∧ (vaulted 6 {}).slotOf c5 0x00080040 = none ∧
    ((vaulted 5 {}).slotOf c5 0x00021FFF).map (·.1) = some 8191 ∧
    materialLen 0x03 = none ∧ materialLen 0x01 = some 16 ∧ rooted.typeGranted c5 0x10 = true ∧
    (withCask { cask5 with cls := 1 }).typeGranted c5 0x30 = false ∧ rooted.slotRefusal c5 false = none ∧
    (withCask { cask5 with quota := 0 }).slotRefusal c5 false = some 5 ∧ rooted.vault.rngFail = false ∧
    ((rooted.keyOf c5 0x00090040).map fun p => (p.typ, p.policy)) = some (2, 0xFF) ∧
    ((rooted.keyOf c5 0x00010041).map fun k => (isAes k.typ.toNat, bit k.policy 5)) = some (true, true) ∧
    ((rooted.keyOf c5 0x00021FFF).map fun x => (rooted.typeGranted c5 x.typ.toNat, bit x.policy 6)) = some (true, true) ∧
    (pked 6 {}).pkeNext = some (q5 .pke 6 {}) ∧ (pked 6 {}).vault.rootOk = true ∧ (pked 6 {}).granted c5 9 = true ∧
    (pked 6 {}).engineRange c5 (0x10010FE0 : Word).toNat 32 false = true ∧ run5.vault.queue = [] ∧ run5.vault.pkeQueue = [] := by decide
/-- The lanes' arithmetic in and out for VERIFY. -/
theorem witness_ServicesComplete_lanes :
    rooted.lanesOut = false ∧
    ({ rooted with lat := { rooted.lat with lanes := (List.range 8).map fun l => (l, { faults := 3 }) } } : State).lanesOut = true := by decide
/-- NvmAndRandom: a page in service on the first user page, an armed abort in TEST_OPEN, each NVM command in service. -/
def served (l : Lcs) : State := { inLife l with casks := run5.casks, nvm := { run5.nvm with
  active := some { req := q5 .nvm 1 {}, page := flashBase, data := List.replicate 2048 0xFF } } }
theorem witness_NvmAndRandom : (served .owned).alive = true ∧ (served .owned).nvm.queue = [] ∧ (served .owned).ctxLive c5 = true ∧
    pagesBase > flashBase + 2048 ∧ (served .owned).nvm.abortArm = false ∧
    (let s : State := { served .testOpen with nvm := { (served .testOpen).nvm with abortArm := true } }
     s.alive = true ∧ s.nvm.abortArm = true ∧ s.life.state = .testOpen) ∧
    owned.pwr.booting = false ∧ ({ owned with nvm := { owned.nvm with eraseQueue := [959] } } : State).nvm.eraseQueue ≠ [] ∧
    (∀ cmd ∈ [(1 : BitVec 4), 2, 3, 4, 5], ({ owned with nvm := { owned.nvm with running := some (cmd, 0, 0) } } : State).nvm.running =
      some (cmd, 0, 0)) ∧
    (ctrBase (({ owned with ctrs := [(4607, ctrFresh)] } : State).ctr 4607)).isSome = true ∧
    owned.vault.rngFail = false ∧ owned.rng.stopped = false ∧
    ({ owned with vault := { owned.vault with rngFail := true } } : State).vault.rngFail = true ∧
    ({ owned with rng := { owned.rng with stopped := true, instantiated := true } } : State).rng.stopped = true ∧
    owned.ksWriter = true ∧ owned.nvm.busy = false ∧ ({ owned with nvm := { owned.nvm with busy := true } } : State).nvm.busy = true := by decide
theorem witness_NvmAndRandom_page : ∃ j : NvmJob, (served .owned).nvm.active = some j ∧ j.data.length = 2048 :=
  ⟨_, rfl, List.length_replicate ..⟩
/-! ## Witnesses: press, lattice and link -/

/-- Cask 5's press page set to `p`, under a sound root. -/
def pressing (p : PressPage) : State := { rooted with press := { rooted.press with pages := [(5, p)] } }
def ctrPage : PressPage := { key := 0x00010041, len := 16, src := 0x10010000, dst := 0x10010100, iv := 0x10010200 }
def ctrJob : PressJob := { mode := 0x210001, src := 0x10010000, dst := 0x10010100, len := 16, ivIn := List.replicate 12 0, input := List.replicate 16 0
                           begun := true, phase := .running 15 }
def pressJob (j : PressJob) : State := pressing { ctrPage with job := some j }
theorem witness_PressSubmit_tabs : (pressing ctrPage).tabsOk := tabsOk_of (by decide)
/-- PressSubmit: a CTR decryption that passes every check, one of no length, one of a tag it may not have, one with a key of the wrong
type or policy or none, a page that holds a job, and no pipeline in service. -/
theorem witness_PressSubmit : (pressing ctrPage).canTrigger c5 = true ∧ (pressing ctrPage).granted c5 0 = true ∧
    (tget (pressing ctrPage).press.pages 5 {}).job = none ∧ (tget (pressJob ctrJob).press.pages 5 {}).job ≠ none ∧
    ((pressing ctrPage).pipeAt 15).test = false ∧ ((pressing ctrPage).pipeAt 15).faults < 3 ∧
    (∀ x ∈ List.range 16, let q := ({ rooted with press := { rooted.press with pipes := (List.range 16).map fun i => (i, { faults := if i = 15 then 2 else 3, test := i == 15 }) } } : State).pipeAt x
      q.test = true ∨ 3 ≤ q.faults) ∧
    (pressing ctrPage).cryAddrOk c5 { mode := 9, key := 0x00010041, src := 0x10010000, dst := 0x10010100, len := 16, iv := 0x10010200 } = true ∧
    (pressing ctrPage).cryAddrOk c5 { mode := 9, src := 0x10010FF1, dst := 0x10010100, len := 16, iv := 0x10010200 } = false ∧
    (pressing ctrPage).vault.rootOk = true ∧ ((pressing ctrPage).keyOf c5 0x00010041).map (fun v => (v.typ, v.policy)) = some (1, 0x21) ∧
    ((pressing ctrPage).keyOf c5 0x00021FFF).map (fun v => (v.typ, v.policy)) = some (1, 0x40) ∧ bit (0x21 : Byte) 0 = true ∧
    bit (0x21 : Byte) 1 = false ∧ bit (0x40 : Byte) 0 = false ∧
    (pressing ctrPage).keyOf c5 0 = none ∧ (0x100 : Word).toNat / 256 % 32 ≠ 0 ∧ (0 : Nat) < 1 := by decide
/-- PressEvents: waiting for a nonce with a counter to take and one at its end, failed, running, waiting for a slot, and idle. -/
def noncing (v : Dword) : State := { pressJob { ctrJob with phase := .waitNonce, nctr := 0 } with
  nvm := { rooted.nvm with ctrMap := [(5, BitVec.ofNat 24 (256 + 1 * 4096))] }
  ctrs := [(256, { ctrFresh with base0 := none, base1 := some { gen := 1, value := v } })] }
theorem witness_PressEvents : (pressJob ctrJob).alive = true ∧
    (noncing 0).nctrOf 5 0 = some 256 ∧ (noncing 0).ctrNat 256 = 0 ∧ ctrVal ((noncing 0).ctr 256) = some 0 ∧
    ctrVal ((noncing (2 ^ 48 - 2)).ctr 256) = some (2 ^ 48 - 2) ∧ 2 ^ 48 - 1 ≤ (noncing (2 ^ 48 - 1)).ctrNat 256 ∧
    ((noncing 0).pipeAt 0).faults < 3 ∧ (pressJob ctrJob).pressWaiting = [] ∧ (pressJob ctrJob).frame.segs = [] ∧
    bit ctrJob.mode 21 = true ∧ (pressJob ctrJob).ctxLive c5 = true ∧ ctrJob.dst.toNat + 16 ≤ pagesBase ∧
    mStaged ctrJob.mode = false ∧
    (let j : PressJob := { ctrJob with mode := 0x10C0A, phase := .waitSlot }
     mStaged j.mode = true ∧ (pressJob j).slotWaiter = some (5, j) ∧ (∀ e ∈ (pressJob j).press.staging, e.1 ≠ 31)) ∧
    run5.slotWaiter = none ∧ (tget run5.press.pipes 15 {}).use = .idle ∧
    (let s : State := { pressJob ctrJob with press := { (pressJob ctrJob).press with pipes := [(15, { use := .page 5, faults := 2 }), (3, { test := true })] } }
     (tget s.press.pipes 15 {}).use = .page 5 ∧ (tget s.press.pages 5 {}).job = some ctrJob ∧ (tget s.press.pipes 3 {}).test = true) ∧
    (tget run5.press.pipes 0 {}).test = false := by decide
theorem witness_PressEvents_output : ∃ o tag, cryOutput ctrJob = .ok (o, tag) := ⟨_, _, rfl⟩
theorem witness_PressEvents_tabs : (pressJob ctrJob).tabsOk ∧ (noncing 0).tabsOk := ⟨tabsOk_of (by decide), tabsOk_of (by decide)⟩
/-- A running job at its 4,096 blocks with every pipeline taken and a job of another page waiting. -/
def burst : State := { rooted with press := { rooted.press with
  pages := [(5, { ctrPage with job := some ctrJob }), (6, { job := some { ctrJob with phase := .waitPipe } })]
  pipes := (List.range 16).map fun i => (i, { use := .page 5 }) } }
theorem witness_PressEvents_burst : burst.freePipe = none ∧ burst.pressWaiting ≠ [] ∧ (tget burst.press.pages 5 {}).job = some ctrJob := by decide
/-- A frame job on a pipeline. -/
theorem witness_PressEvents_frame :
    let s : State := { rooted with press := { rooted.press with pipes := [(2, { use := .frame })] }, frame := { rooted.frame with segs := [{ pipe := some 2 }] } }
    (tget s.press.pipes 2 {}).use = .frame ∧ ∃ g ∈ s.frame.segs, g.pipe = some 2 := ⟨by decide, _, List.mem_cons_self .., rfl⟩

/-- Cask 5's lattice page, with an object of its own at entry 4095 and one granule. -/
def obj9 : LObj := { owner := 5, incarn := 9, kind := 2, level := 1, grans := [2047] }
def lattice (p : LatPage) : State := { rooted with lat := { rooted.lat with pages := [(5, p)], objs := [(4095, obj9)], quota := [(5, 100)] } }
def latJob (op : Word) : LatJob := { op := op, a := 0x00090FFF, lane := some 7 }
def latRunning (j : LatJob) : State := lattice { job := some j }
theorem witness_LatSubmit_tabs : (lattice {}).tabsOk := tabsOk_of (by decide)
/-- LatSubmit: FREE of an object, which passes every check; reserved bits; arguments at their bounds; no such object; ranges; keys. -/
theorem witness_LatSubmit : (lattice {}).canTrigger c5 = true ∧ (lattice {}).granted c5 1 = true ∧ (tget (lattice {}).lat.pages 5 {}).job = none ∧
    (tget (latRunning (latJob 3)).lat.pages 5 {}).job ≠ none ∧ (lattice {}).lanesOut = false ∧ (0x400000 : Word).toNat / 2 ^ 22 ≠ 0 ∧
    (3 : Word).toNat % 256 < 4 ∧ 7 < (8 : Word).toNat % 256 ∧
    (lattice {}).latCheck1 5 { op := 3, a := 0x00090FFF } = true ∧ (lattice {}).latCheck2 5 { op := 3, a := 0x00090FFF } = true ∧
    (lattice {}).latCheck3 5 { op := 3, a := 0x00090FFF } = true ∧ (lattice {}).objOf 5 0x00080FFF = none ∧
    ((lattice {}).objOf 5 0x00090FFF).isSome = true ∧ (lattice {}).latRange c5 0x10010FC1 64 false = false ∧
    (lattice {}).latRange c5 0x10010FC0 64 true = true ∧
    ((lattice {}).latWaiting = [] ∧ (lattice {}).freeLane ≠ none) ∧
    (tget (latRunning { latJob 3 with lane := none }).lat.pages 5 {}).job = some { latJob 3 with lane := none } ∧
    (lattice {}).keyOf c5 0 = none ∧ ((lattice {}).keyOf c5 0x00090040).map (·.typ) ≠ some 0x30 := by decide
theorem witness_LatSubmit_passes : ((lattice {}).latCheck 5 { op := 3, a := 0x00090FFF }).toOption = some 0 := by decide +kernel
/-- LatEvents: failed, waiting, cancelled, drained and running jobs (FREE of an object and of none, COPY, EXPORT), lanes and granules. -/
theorem witness_LatEvents : (latRunning (latJob 3)).alive = true ∧ (tget (latRunning (latJob 3)).lat.pages 5 {}).job = some (latJob 3) ∧
    (latJob 3).code = none ∧ (latJob 3).lane ≠ none ∧ (latRunning (latJob 3)).wantsRefresh 5 (latJob 3) = false ∧
    (latRunning (latJob 4)).wantsRefresh 5 (latJob 4) = false ∧ (latRunning (latJob 2)).wantsRefresh 5 (latJob 2) = false ∧
    ((latRunning (latJob 3)).objOf 5 0x00090FFF).map (·.1) = some 4095 ∧ (latRunning (latJob 3)).objOf 5 0 = none ∧
    (tget (latRunning { latJob 3 with code := some 5 }).lat.pages 5 {}).job = some { latJob 3 with code := some 5 } ∧
    (latRunning (latJob 3)).laneJob 7 = some (5, latJob 3) ∧ (lattice {}).laneJob 7 = none ∧ (lattice {}).pkeNext = none ∧
    (pked 6 {}).laneJob 7 = none ∧ (pked 6 {}).pkeNext = some (q5 .pke 6 {}) ∧ (pked 6 {}).laneServes 7 = true ∧
    (({ rooted with lat := { rooted.lat with lanes := [(7, { faults := 2, test := true })] } } : State).laneRec 7).test = true ∧
    (lattice {}).lat.objs.find? (fun y => y.2.grans.contains 2047) = some (4095, obj9) ∧ (∀ e ∈ (lattice {}).lat.objs, 0 ∉ e.2.grans) ∧
    jobNames (latJob 3) 4095 = true ∧ jobNames (latJob 3) 0 = false ∧ (latRunning (latJob 3)).latWaiting = [] := by decide
theorem witness_LatEvents_copy : ((latRunning (latJob 4)).latRun 5 (latJob 4)).code = 0 ∧
    ((latRunning (latJob 4)).latRun 5 (latJob 4)).obj.isSome = true ∧ (latRunning (latJob 4)).freeEntry ≠ none := by decide +kernel
theorem witness_LatEvents_tabs : (latRunning (latJob 3)).tabsOk := tabsOk_of (by decide)

/-- Lane 11 in state `x`. -/
def lane11 (x : LaneSt) : State := { run5 with lanes := [(11, x)] }
/-- A TS2 of a span partner of generation 2 with 4 VCs, its CRC right. -/
def ts2Set : BitVec 128 := BitVec.ofNat 128 (2 + 2 * 2 ^ 8 + 4 * 2 ^ 16 + 3 * 2 ^ 24 + 0xA040 * 2 ^ 112)
def spanLane (st : LState) : LaneSt := { role := 3, gen := 2, vcs := 4, state := st, locked := true }
/-- LaneTraining: every state of a lane, a valid set that both ends can follow, one with other generation, and one with a bad CRC. -/
theorem witness_LaneTraining_states (st : LState) : (lane11 (spanLane st)).ksWriter = true ∧
    (tget (lane11 (spanLane st)).lanes 11 {}).state = st := by cases st <;> decide
theorem witness_LaneTraining :
    (spanLane .down).gen ≠ 0 ∧ (spanLane .down).role ≠ 0 ∧ (lane11 {}).laneClocked 11 = true ∧ tsValid 0 = false ∧
    ts2Set.toNat % 256 = 2 ∧ ts2Set.toNat / 2 ^ 8 % 2 ^ 8 = (spanLane .train).gen.toNat ∧ ts2Set.toNat / 2 ^ 24 % 2 ^ 8 = 3 ∧
    (4 ≤ (spanLane .train).vcs.toNat ∧ 4 ≤ ts2Set.toNat / 2 ^ 16 % 2 ^ 8) ∧
    ts2Set.toNat / 2 ^ 8 % 2 ^ 8 ≠ ({ spanLane .train with gen := 3 } : LaneSt).gen.toNat ∧
    (∀ a ∈ [(0 : BitVec 2), 1, 2], a.toNat < 3) := by decide
/-- The set's CRC is right. -/
theorem witness_LaneTraining_set : tsValid ts2Set = true := by decide +kernel
/-- LinkSequence: an UP lane with one VC; sequence numbers at each end of the three ranges; bodies at and past 1,024 bytes; replays. -/
def upLane (c : VcState) : LaneSt := { role := 2, gen := 1, vcs := 1, state := .up, v := 1, vc := [(0, c)] }
theorem witness_LinkSequence : (tget (lane11 (upLane {})).lanes 11 {}).state = .up ∧ (0 : Vc).val < (upLane {}).v ∧ (upLane {}).v ≤ (1 : Vc).val ∧
    ((0 : BitVec 12) - ((upLane {}).vcAt 0).exp).toNat = 0 ∧
    (let e := ((upLane { exp := 5 }).vcAt 0).exp
     ((6 : BitVec 12) - e).toNat = 1 ∧ ((2052 : BitVec 12) - e).toNat = 2047 ∧ ((2053 : BitVec 12) - e).toNat = 2048) ∧
    ((upLane { nakOut := true }).vcAt 0).nakOut = true ∧ ((upLane { sinceAck := 1 }).vcAt 0).sinceAck = 1 ∧
    ((upLane { replay := [{ sent := 5 }] }).vcAt 0).replay ≠ [] ∧ (∃ q ∈ ((upLane { replay := [{ sent := 5 }] }).vcAt 0).replay, 5 ≤ q.sent) ∧
    (∀ q ∈ ((upLane { replay := [{ sent := 4 }] }).vcAt 0).replay, q.sent < 5) ∧ (tget (lane11 {}).lanes 11 {}).state ≠ .up := by
  refine ⟨by decide, by decide, by decide, by decide, by decide, by decide, by decide, by decide, ⟨_, List.mem_cons_self .., by decide⟩, by decide, by decide⟩
theorem witness_LinkSequence_long : (List.replicate 1024 (0 : Byte)).length ≤ 1024 ∧ 1024 < (List.replicate 1025 (0 : Byte)).length := by
  rw [List.length_replicate, List.length_replicate]; decide
/-- LnkRequests: a request that passes, each refusal, a full queue, and a request that a response answers. -/
def req5 : LnkReq := { lane := 11, tmo := 1, rbuf := 0x10010000, rcap := 8 }
def lnked (p : LnkPage) (c : VcState) : State := { lane11 (upLane c) with lnk := [(5, p)] }
theorem witness_LnkRequests : (lnked {} {}).canTrigger c5 = true ∧ (lnked {} {}).granted c5 2 = true ∧ (tget (lnked {} {}).lnk 5 {}).job = none ∧
    (tget (lnked { job := some req5 } {}).lnk 5 {}).job = some req5 ∧ ((upLane { owner := 5 }).vcAt 0).owner.toNat = 5 ∧
    ((upLane {}).vcAt 0).owner = 0x7FF ∧ (lnked {} {}).engineRange c5 0x10010C00 1024 false = true ∧
    (lnked {} {}).engineRange c5 0x10010C01 1024 true = false ∧ (1024 : BitVec 11).toNat ≤ 1024 ∧ ¬ (1025 : BitVec 11).toNat ≤ 1024 ∧
    16 ≤ ((upLane { queue := List.replicate 16 {} }).vcAt 0).queue.length ∧ req5.tmo ≠ 0 ∧ req5.posted = false ∧
    (tget (lnked { job := some req5 } {}).lanes req5.lane.val {}).state = .up := by decide
theorem witness_LnkRequests_tabs : (lnked {} {}).tabsOk := tabsOk_of (by decide)
/-! ## Witnesses: tiles -/

/-- Egress lane 11 UP in generation `g`, its chain `c`, and its tile at address 63. -/
def chained (g : BitVec 2) (c : Chain) (y : Tile) : State := { run5 with
  lanes := [(11, { laneUp 2 with gen := g, vcs := 1 })]
  tile := { run5.tile with chains := [(11, c)], tiles := [(64 * 11 + 63, y)], makers := [(7, { valid := true, owner := 5 })]
                           loops := [(5, { running := true, period := 1, buffer := 0x10010000, waiting := [64 * 11 + 63] })] } }
def searching (z : Search) : Chain := { pstate := .searching, search := some z }
/-- TileDiscovery: every PSTATE, both restart counts, branches of no bit and of one, and sequences that find one, several and none. -/
theorem witness_TileDiscovery_states (p : PresState) : (chained 1 { pstate := p } {}).alive = true ∧
    (tget (chained 1 { pstate := p } {}).lanes 11 {}).role = 2 ∧ (tget (chained 1 { pstate := p } {}).tile.chains 11 {}).pstate = p := by
  cases p <;> decide
theorem witness_TileDiscovery : ({ restarts := 6 } : Chain).restarts < 7 ∧ 7 ≤ ({ restarts := 7 } : Chain).restarts ∧
    (tget (chained 1 { scheduled := true } {}).tile.chains 11 {}).scheduled = true ∧
    (tget (chained 1 (searching {}) {}).tile.chains 11 {}).search = some {} ∧ ({} : Search).confirm = none ∧ ({} : Search).todo = [[]] ∧
    ([] : List Bool).length ≤ 64 ∧
    (∀ d ∈ [(0x8000000000000000 : Dword), 1], ∀ k b, ([] : List Bool)[k]? = some b → bit d (63 - k) = b) ∧
    (1 : Dword).toNat ≤ (0x8000000000000000 : Dword).toNat ∧
    (tget (chained 1 {} {}).tile.tiles (64 * 11 + 0) {}).state = .absent ∧
    (tget (chained 1 {} { state := .gone }).tile.tiles (64 * 11 + 63) {}).state = .gone ∧
    (tget (chained 1 {} { id := 7, state := .found }).tile.tiles (64 * 11 + 63) {}).id = 7 := by
  refine ⟨by decide, by decide, by decide, by decide, by decide, by decide, by decide, ?_, by decide, by decide, by decide, by decide⟩
  intro d _ k b h
  simp at h
/-- The confirmation, the packets of an enumeration, and the commands. -/
def enumRsp63 : Pkt := { addr := 63, body := zeros 16 }
theorem witness_TileDiscovery_packets :
    (tget (chained 1 (searching { confirm := some [3] }) {}).tile.chains 11 {}).search = some { confirm := some [3] } ∧
    (tget (chained 2 { enum := some 63 } {}).tile.chains 11 {}).enum = some 63 ∧ enumRsp63.addr.toNat = (63 : BitVec 6).toNat ∧
    enumRsp63.body.length = 16 ∧ enumRsp63.vc.val < (tget (chained 2 {} {}).lanes 11 {}).v ∧
    enumRsp63.seq = ((tget (chained 2 {} {}).lanes 11 {}).vcAt enumRsp63.vc.val).exp ∧
    ({ enumRsp63 with body := leBytes 8 7 } : Pkt).body = leBytes 8 (7 : Dword).toNat ∧ ([1] : Bytes).head? = some 1 ∧
    ([0] : Bytes).head? = some 0 ∧ ([] : Bytes).head? ≠ some 0 ∧ (chained 2 {} {}).ksWriter = true ∧ (inLife .owned).ksWriter = false ∧
    (tget (chained 2 {} {}).lanes 11 {}).state = .up ∧ (tget (lane11 {}).lanes 11 {}).role ≠ 2 := by decide

/-- Lane 11's tile at address 63 under authentication, its exchanges in `ms`. -/
def authing (ms : List Mgmt) (y : Tile) : State := chained 2 {} { y with state := .auth, exch := ms }
/-- A certificate of alg 2 whose fields are in form, for ID 0. -/
def cert0 : Bytes := leBytes 4 0x54434C54 ++ [1, 2] ++ zeros 266
theorem witness_TileSessions_cert : cert0.length = 272 ∧ certOk cert0 0 = true ∧ certOk (zeros 272) 0 = false := by decide +kernel
/-- TileSessions: each exchange of the authentication, with a maker that fits and with none, a twin, the retries and time-outs. -/
theorem witness_TileSessions : (authing [.keygen] {}).alive = true ∧ (authing [.keygen] {}).vault.rngFail = false ∧
    (let y := tget (authing [.keygen] {}).tile.tiles 767 {}
     y.state = .auth ∧ .keygen ∈ y.exch) ∧ (.verify ∈ (tget (authing [.verify] {}).tile.tiles 767 {}).exch) ∧
    (tget (authing [] {}).tile.makers 7 {}).valid = true ∧ (tget (authing [] {}).tile.makers 6 {}).valid = false ∧
    (tget (chained 2 {} { state := .failed, fail := 4, tries := 2 }).tile.tiles 767 {}).tries < 3 ∧
    timedOut { exch := [.hello] } = some .hello ∧ timedOut { exch := [.hello, .fin] } = some .fin ∧
    timedOut { exch := [.ping] } = some .ping ∧ timedOut { exch := [.sense 5] } = some (.sense 5) ∧
    timedOut { exch := [.limit 5] } = some (.limit 5) ∧ timedOut { exch := [.keygen, .verify] } = none ∧
    (tget (chained 2 {} {}).tile.chains 11 {}).enum ≠ some 63 ∧ (chained 2 {} {}).caskLive 5 = true := by decide
theorem witness_TileSessions_tabs : (authing [.keygen] {}).tabsOk := tabsOk_of (by decide)
/-- Answers whose MAC passes: AUTH_DONE, SENSE_RSP and LIMIT_ACK. -/
def answer (mcode : Byte) (d : Bytes) : Bytes := leBytes 4 5 ++ d ++ (cmac [] ([63, mcode] ++ leBytes 4 5 ++ d)).take 8
theorem witness_TileSessions_answers :
    (let p : Pkt := { addr := 63, body := cmac [] (ascii "DONE" ++ []) }
     p.body = cmac ({} : Tile).kctl (ascii "DONE" ++ ({} : Tile).h) ∧ p.addr.toNat < 64) ∧
    (answer 0x21 (zeros 16)).length = 28 ∧ wordAt (answer 0x21 (zeros 16)) 0 = 5 ∧
    slice (answer 0x21 (zeros 16)) 20 8 = (cmac [] ([63, 0x21] ++ leBytes 4 5 ++ zeros 16)).take 8 ∧
    (answer 0x23 (zeros 2)).length = 14 ∧ slice (answer 0x23 (zeros 2)) 6 8 = (cmac [] ([63, 0x23] ++ leBytes 4 5 ++ zeros 2)).take 8 := by
  decide +kernel
/-- The owner of a tile, the loop's place in memory, requests at both ends of PERIOD, and ticks before and at the time due. -/
def mine : State := chained 2 {} { state := .active, maker := some 7, exch := [.sense 5, .limit 5], limitOf := some (5, 0, 0) }
theorem witness_TileSessions_loops : (tget mine.tile.tiles 767 {}).maker = some 7 ∧ (tget mine.tile.makers 7 {}).owner.toNat = 5 ∧
    (tget mine.tile.loops 5 {}).running = true ∧ 0x10010000 + 32 * 767 + 32 ≤ pagesBase ∧ 767 ∈ (tget mine.tile.loops 5 {}).waiting ∧
    (∀ j ∈ (tget mine.tile.loops 5 {}).waiting, j = 767) ∧ mine.canTrigger c5 = true ∧ mine.granted c5 10 = true ∧
    (withCask { cask5 with cls := 1 }).granted c5 10 = false ∧ (∀ e ∈ run5.tile.tiles, e.2.limitOf = none) ∧
    run5.engineRange c5 (0x10010000 : Word).toNat 24576 true = false ∧
    (withCask { cask5 with data := { cask5.data with base := 0x10030000, size := 24576 } }).engineRange c5 (0x10030000 : Word).toNat 24576 true = true ∧
    (0 + 1 * 100000 ≤ (mine.atTime 100000).clk.time.toNat) ∧ ¬ (0 + 1 * 100000 ≤ (mine.atTime 99999).clk.time.toNat) ∧
    (0x3FB : Word).toNat < 1024 ∧ (0x3FB : Word).toNat % 16 < 12 ∧ ¬ (0x3FC : Word).toNat % 16 < 12 ∧ (4 : BitVec 7).toNat % 4 = 0 := by decide
/-! ## Witnesses: frame path -/

/-- The path running with PERIOD 1,000,000 since TIME 1000; region 255 of cask 5 over the tile at lane 11, address 63. -/
def region5 : Region := { owner := 5, valid := true, tileBytes := 16, extents := [(3, { lane := 11, first := 63, last := 63, used := true })]
                          cur := { key0 := 0x00090040, batch := 1 } }
def framed (f : FrameSt) (y : Tile) : State := { rooted with
  lanes := [(11, { laneUp 2 with gen := 2, frameOk := true }), (0, { laneUp 1 with gen := 2 })]
  tile := { rooted.tile with tiles := [(767, y)] }
  frame := f }
def going : FrameSt := { run := true, running := true, period := 1000000, last := 1000, first := false, regions := [(255, region5)] }
theorem witness_FrameBoundaries_tabs : (framed going {}).tabsOk := tabsOk_of (by decide)
/-- FrameBoundaries: PERIOD at both bounds and past them, region writes in each state, boundaries due and not, edges that fit and do not. -/
theorem witness_FrameBoundaries : (framed going {}).ksWriter = true ∧ (inLife .owned).ksWriter = false ∧ (416666 : Word).toNat % 2 ^ 23 = 416666 ∧
    (416665 : Word).toNat % 2 ^ 23 < 416666 ∧ 4166667 < (4166668 : Word).toNat % 2 ^ 23 ∧ (framed going {}).frame.running = true ∧
    (framed { going with running := false } {}).frame.running = false ∧ (framed going {}).alive = true ∧
    ((framed going {}).atTime 1001000).frame.run = true ∧ ((framed going {}).atTime 1001000).span.en = false ∧
    ((framed going {}).atTime 1001000).nextBoundary ≤ ((framed going {}).atTime 1001000).clk.time.toNat ∧
    ((framed going {}).atTime 1000999).clk.time.toNat < ((framed going {}).atTime 1000999).nextBoundary ∧
    (let u := (framed { going with src := true } {}).atTime 1006000
     u.frame.src = true ∧ (u.clk.time.toNat - 1001000) * 200 ≤ 1000000 ∧ 1001000 + 1000000 / 200 ≤ u.clk.time.toNat) ∧
    ¬ (((framed { going with src := true } {}).atTime 1006001).clk.time.toNat - 1001000) * 200 ≤ 1000000 ∧
    (let x := tget (framed going {}).frame.regions 255 {}
     x.validNext.getD x.valid = true) ∧
    (let x := tget (framed going {}).frame.regions 0 {}
     x.validNext.getD x.valid = false) ∧ (0x1C : BitVec 6).toNat % 4 = 0 ∧ 0x1C ≤ (0x1C : BitVec 6).toNat ∧
    (framed going {}).frame.regions.any (fun e => e.1 == 255) = true := by decide
/-- RANGE and OVERLAP, which pass for an extent of one tile on an egress lane and fail for one on an ingress lane or over region 255. -/
theorem witness_FrameBoundaries_range : (tget (framed going {}).lanes 11 {}).role = 2 ∧ (tget (framed going {}).lanes 0 {}).role ≠ 2 ∧
    regionTiles region5 = [767] ∧ (regionTiles region5).Nodup ∧ region5.tileBytes.toNat % 16 = 0 ∧ 16 ≤ region5.tileBytes.toNat ∧
    region5.owner.toNat ≤ 0x400 ∧ ¬ ({ region5 with owner := 0x401 } : Region).owner.toNat ≤ 0x400 := by decide
/-- A span's leader with edges (R533): SRC set, its schedule due, and an edge within 0.5% of the boundary. -/
def leading : State := { framed { going with src := true } {} with span := { run5.span with en := true, locked := true, state := .active, schedDue := true } }
theorem witness_FrameBoundaries_span : leading.span.en = true ∧ (leading.atTime 1000).span.schedDue = true ∧ (leading.atTime 1000).leads = true ∧ (leading.atTime 1000).frame.running = true ∧
    (leading.atTime 1000).clk.time.toNat - (leading.atTime 1000).frame.last.toNat = 0 := by decide

/-- The header of a segment of 16 bytes for frame 1 at offset 0 of region 255, and the segment with its tag under `key`. -/
def segHead : Bytes := leBytes 4 0x53474553 ++ [1, 255, 0, 0] ++ leBytes 8 1 ++ leBytes 4 0 ++ leBytes 4 16 ++ zeros 24
def segTag : Bytes := gcmTag [] (slice segHead 0x18 12) segHead (zeros 16)
def segPkt (flags : Byte) (frag : Nat) (b : Bytes) : Pkt := { body := [flags, 0] ++ leBytes 2 frag ++ b }
/-- FrameData, segments: the header passes R489 in region 255; FIRST and LAST, a continuation in and out of sequence, and no region. -/
theorem witness_FrameData_segment : (tget (framed going {}).lanes 0 {}).role = 1 ∧ segHead.length = 48 ∧
    (segPkt 3 0 (segHead ++ zeros 32)).body.length = 4 + 48 + 16 + 16 ∧ bit ((segPkt 3 0 segHead).body.getD 0 0) 0 = true ∧
    bit ((segPkt 3 0 segHead).body.getD 0 0) 1 = true ∧ bit ((segPkt 1 0 segHead).body.getD 0 0) 1 = false ∧
    leNat (slice (segPkt 0 7 []).body 2 2) = 7 ∧ (framed going {}).frame.asm.find? (fun e => e.1 == 0) = none ∧
    hdrRegion segHead = 255 ∧ leNat (slice segHead 0 4) = 0x53474553 ∧ segHead.getD 4 0 = 1 ∧ slice segHead 0x24 12 = zeros 12 ∧
    hdrSegLen segHead = 16 ∧ (framed going {}).frame.frameNo.toNat + 1 ≤ hdrFrame segHead ∧ hdrOffset segHead + 16 ≤ 1 * 16 ∧
    (framed going {}).caskLive 5 = true ∧ ((framed going {}).keyOf (ctxOf 5) region5.cur.key0).isSome = true ∧
    1 ≤ (framed going {}).ssbFree.length ∧ (framed going {}).tamp.wind = none := by
  decide +kernel
/-- A segment whose decryption ends, with its key and without, and whose tag passes. -/
def decrypting (h : Word) : Segm := { region := 255, frame := 1, len := 16, header := segHead, tag := segTag, handle := h, grans := [some 127], pipe := some 15 }
theorem witness_FrameData_decrypt : (framed { going with segs := [decrypting 0x00090040] } {}).frame.segs[0]? = some (decrypting 0x00090040) ∧
    (framed going {}).keyOf (ctxOf 5) 0 = none ∧ (framed going {}).keyOf (ctxOf 5) 0x00090040 ≠ none ∧
    gcmDecrypt [] (slice segHead 0x18 12) segHead (zeros 16) segTag ≠ none ∧ gcmDecrypt [] (slice segHead 0x18 12) segHead (zeros 16) (zeros 16) = none := by
  decide +kernel
/-- The tile that is served, data released for it, the verdicts and the wind-down. -/
def served5 : Tile := { state := .active, lit := true }
def released5 : Segm := { region := 255, frame := 1, len := 16, header := segHead, tag := segTag, grans := [some 127], phase := .releasable }
theorem witness_FrameData_release : (let s := framed { going with segs := [released5] } served5
     s.alive = true ∧ s.frame.running = true ∧ s.frame.deadline = false ∧ s.tamp.wind = none ∧ (tget s.tile.tiles 767 {}).lit = true ∧
      (tget s.lanes (767 / 64) {}).frameOk = true ∧ 224 + 11 ∉ s.clk.off ∧ (s.released 255 1 0 16).isSome = true ∧
      s.regionComplete region5 = false) ∧
    (framed { going with deadline := true } {}).frame.deadline = true ∧ (framed going {}).regionComplete region5 = true ∧
    ({ region5 with mode := .fallback } : Region).mode = .fallback ∧ ({ region5 with holds := 2 } : Region).holds < 3 ∧
    (framed going {}).frame.frameNo + 1 ≠ ({ frame := 0 } : WindDown).frame := by
  decide +kernel
/-- A FACK whose MAC passes for frame 0, and commits in each step. -/
def fackBody : Bytes := zeros 16 ++ (cmac [] (63 :: zeros 16)).take 8
def committing (k : RCommit) : State := { framed { going with regions := [(255, { region5 with pendPlays := 3, commit := some k })] } served5 with
  ctrs := [(256, ctrFresh)], lat := (lattice {}).lat }
theorem witness_FrameData_commit : fackBody.length = 24 ∧ fackBody.drop 16 = (cmac [] ((63 : Byte) :: fackBody.take 16)).take 8 ∧
    leNat (fackBody.take 8) = (framed going served5).frame.frameNo.toNat ∧ slice fackBody 9 7 = zeros 7 ∧
    ctrVal ((committing { ctr := 256, amount := 3 }).ctr 256) = some 0 ∧ ctrVal ((committing {}).ctr 257) = none ∧
    (committing { counted := true, tally := 0x00090FFF }).tallyBusy 5 0x00090FFF = false ∧
    (committing { counted := true }).objOf 5 0 = none ∧
    (tget (committing { ctr := 256, amount := 3 }).frame.regions 255 {}).commit = some { ctr := 256, amount := 3 } := by decide +kernel
/-- A tally object with N = 4,096: kind 2, sound, and a slot below N. -/
theorem witness_FrameData_tally : (obj9.kind = 2 ∧ obj9.damaged = false) ∧ ({ obj9 with kind := 1 } : LObj).kind ≠ 2 := by decide
/-- FRM: a page that names its own region and one that does not, BATCH at and past its bounds, and settings already staged. -/
theorem witness_FrameData_page : (framed going {}).canTrigger c5 = true ∧ (framed going {}).granted c5 3 = true ∧
    (let s := framed { going with pages := [(5, { reg := 255, set := { batch := 64 } })] } {}
     (tget s.frame.pages 5 {}).set.batch.toNat = 64 ∧ (tget s.frame.regions (tget s.frame.pages 5 {}).reg.toNat {}).owner.toNat = 5) ∧
    (tget (framed going {}).frame.regions 0 {}).valid = false ∧ 64 < (65 : BitVec 7).toNat ∧ (region5.staged = none) := by decide
/-! ## Witnesses: span -/

/-- Member 0 of two, ACTIVE in EPOCH 0, joined to member 1 by lane 3; the root key in the keystone's slot 64; slot 8191 is listed. -/
def spanned (st : MState) : State := { rooted with
  vault := { rooted.vault with slots := [(64, { owner := 1024, typ := 2, policy := 0x10, incarn := 9, key := [1] }),
                                         (8191, { owner := 1024, typ := 2, incarn := 2, key := [5] })] }
  ctrs := [(4096, ctrFresh), (4097, ctrFresh)]
  lanes := [(3, { laneUp 3 with gen := 2 }), (4, { laneUp 3 with gen := 2, partner := 9 })]
  span := { rooted.span with en := true, state := st, member := 0, root := 0x00090040, config := [(8, 2), (0x220, 0xFF), (0x221, 0x1F)]
                             peers := [(1, { state := .active })], links := [(3, { nonce := [7], hello := true, ack := true, peer := 1 })] } }
/-- A message of member 1, without and with its MAC. -/
def plainMsg (body : Bytes) : SpanMsg := { src := 1, dst := 0, ttl := 63, mseq := 1, body := body }
def withMac (key : Bytes) (mtype : Byte) (m : SpanMsg) : SpanMsg := { m with mac := (cmac key (spanHead mtype m)).take 8 }
def msg (mtype : Byte) (body : Bytes) : SpanMsg := withMac ((spanned .active).spanMsgKey.getD []) mtype (plainMsg body)
theorem spanned_root (st : MState) : (spanned st).spanRootKey = some [1] := by cases st <;> decide
theorem spanned_key (st : MState) : (spanned st).spanMsgKey = some ((spanned .active).spanMsgKey.getD []) := by
  rw [State.spanMsgKey, State.spanMsgKey, spanned_root, spanned_root]
  rfl
theorem withMac_mac (key : Bytes) (mtype : Byte) (m : SpanMsg) :
    (withMac key mtype m).mac = (cmac key (spanHead mtype (withMac key mtype m))).take 8 := rfl
theorem withMac_fits (key : Bytes) (mtype : Byte) (m : SpanMsg) (h : m.body.length ≤ 512) :
    12 + (withMac key mtype m).body.length + (withMac key mtype m).mac.length ≤ 1024 := by
  have h8 : (withMac key mtype m).mac.length ≤ 8 := List.length_take_le ..
  have hb : (withMac key mtype m).body.length ≤ 512 := h
  omega
theorem arrives (st : MState) (h : st ≠ .off) (mtype : Byte) (body : Bytes) (hb : body.length ≤ 512) :
    (spanned st).spanArrives 3 0 mtype (msg mtype body) where
  up := by cases st <;> decide
  vcs := by cases st <;> decide
  fits := withMac_fits _ _ (plainMsg body) hb
  seq := by cases st <;> decide
  role := by cases st <;> decide
  on := h
  mac := ⟨_, spanned_key st, withMac_mac _ _ _⟩
theorem fresh (st : MState) (h : st ≠ .excluded) (mtype : Byte) (body : Bytes) : (spanned st).spanNew 3 (msg mtype body) where
  admitted := h
  link := List.mem_cons_self ..
  ttl := by show (63 : Byte) ≠ 0; decide
  other := by show (1 : Byte).toNat ≠ 0; decide
  src := by show (1 : Byte).toNat < 64; decide
  fresh := List.not_mem_nil
/-- SpanMembers: every message arrives, taken or not, at a member in each state; bodies of each length; the timers' and commands' premises. -/
theorem witness_SpanMembers (mtype : Byte) : (spanned .active).spanArrives 3 0 mtype (msg mtype (zeros 20)) ∧
    (spanned .active).spanNew 3 (msg mtype (zeros 20)) ∧ (spanned .syncing).spanArrives 3 0 mtype (msg mtype (zeros 76)) ∧
    ¬ (spanned .active).spanNew 3 { msg mtype [] with ttl := 0 } ∧ (spanned .active).spanMine (msg mtype []) ∧
    ¬ (spanned .active).spanMine { msg mtype [] with dst := 2 } :=
  ⟨arrives _ (by decide) _ _ (by decide), fresh _ (by decide) _ _, arrives _ (by decide) _ _ (by decide), fun h => h.ttl rfl, .inr rfl,
   fun h => by
    rcases h with h | h
    · exact absurd (show (2 : Byte) = 0xFF from h) (by decide)
    · exact absurd (show (2 : Byte).toNat = 0 from h) (by decide)⟩
theorem witness_SpanMembers_timers : (spanned .active).ksWriter = true ∧ run5.span.en = false ∧ (spanned .active).span.en = true ∧
    (inLife .owned).ksWriter = false ∧ (spanned .active).alive = true ∧ (spanned .active).span.state = .active ∧
    ((spanned .active).peer 1).state = .active ∧ 4 ∉ (spanned .active).spanLanes ∧ (tget (spanned .active).lanes 4 {}).role = 3 ∧
    (spanned .active).farMember 3 = some 1 ∧ (spanned .active).farMember 4 = none ∧
    ({ spanned .syncing with span := { (spanned .syncing).span with locked := true, holdover := true } } : State).leads = false ∧
    (spanned .syncing).parentLane = some 3 ∧ (spanned .active).leads = true ∧ (spanned .active).span.holdover = false ∧
    (spanned .active).span.gotSchedule = false ∧ (-100 : Int) ≤ (-200) / 2 ∧ ((201 : Int) / 2 ≤ 100) ∧ ¬ ((202 : Int) / 2 ≤ 100) := by decide
/-- EN = 1 is refused where the record lists no member. -/
theorem witness_SpanMembers_refused : leNat (run5.spanCfg 8 1) = 0 := by decide
/-- A measurement that answers STAMP 0: the first and second times it sent and took, the body of 20 bytes. -/
theorem witness_SpanMembers_measure : (let s : State := { spanned .syncing with span := { (spanned .syncing).span with t4 := some 0 } }
    s.span.t4 = some 0 ∧ (zeros 20).length = 20 ∧ leNat ((zeros 20).take 2) = s.span.stampK.toNat) := by decide
/-- SpanQuorum: each message is taken in EPOCH 0 by an ACTIVE member that leads; each body's premises at its bounds. -/
theorem witness_SpanQuorum (mtype : Byte) (body : Bytes) (hb : body.length ≤ 512) : (spanned .active).spanArrives 3 0 mtype (msg mtype body) ∧
    (spanned .active).spanNew 3 (msg mtype body) ∧ (spanned .active).spanMine (msg mtype body) ∧
    (msg mtype body).epoch = (spanned .active).epochNow :=
  ⟨arrives _ (by decide) _ _ hb, fresh _ (by decide) _ _, .inr rfl,
   show (0 : Word) = (spanned .active).epochNow by decide⟩
/-- The unit with a proposal, an epoch being formed, or an increment waiting. -/
def prop1 : Proposal := { counter := 511, old := 0, new := 64, votes := [0] }
def proposing (p : Proposal) : State := { spanned .active with span := { (spanned .active).span with proposal := some p } }
theorem witness_SpanQuorum_bodies :
    (let b : Bytes := leBytes 2 511 ++ leBytes 2 64 ++ leBytes 4 9
     b.length = 8 ∧ leNat (slice b 0 2) < 512 ∧ leNat (slice b 2 2) ≤ 64) ∧
    (let b : Bytes := leBytes 2 1 ++ zeros 2 ++ leBytes 8 0 ++ leBytes 8 1
     b.length = 20 ∧ (spanned .active).ctrNat (4096 + leNat (slice b 0 2)) = leNat (slice b 4 8) ∧ (1, (0 : Dword)) ∉ (spanned .active).span.votes) ∧
    (let b : Bytes := leBytes 2 511 ++ zeros 2 ++ leBytes 8 0
     b.length = 12 ∧ leNat (slice b 0 2) = prop1.counter ∧ leNat (slice b 4 8) = prop1.old.toNat ∧ prop1.committed = false ∧
      1 ∈ (spanned .active).spanActive ∧ 1 ∉ prop1.votes ∧ (spanned .active).spanQ = 2 ∧ (prop1.votes ++ [1]).length = 2) ∧
    (let b : Bytes := leBytes 4 0 ++ leBytes 2 511 ++ zeros 2 ++ leBytes 8 1 ++ leBytes 8 3
     b.length = 24 ∧ leNat (slice b 0 4) = (spanned .active).epochNow.toNat ∧ ofBitmap (leNat (slice b 16 8)) = [0, 1]) ∧
    8191 ∈ (spanned .active).keyset ∧ (leBytes 2 8191 ++ zeros 62).length = 64 ∧ materialLen 2 = some 32 ∧
    (∃ e ∈ (spanned .active).vault.slots, e.1 = 8191) ∧ (spanned .active).spanQuorum = true ∧ (spanned .active).span.push = none := by
  refine ⟨by decide +kernel, by decide +kernel, by decide +kernel, by decide +kernel, by decide +kernel, by decide, by decide,
    ⟨_, List.mem_cons_of_mem _ (List.mem_cons_self ..), rfl⟩, by decide +kernel, by decide⟩
theorem witness_SpanQuorum_states : (proposing prop1).span.proposal = some prop1 ∧
    (let s : State := { spanned .active with span := { (spanned .active).span with forming := some { members := [0, 1], counts := [(1, 4)] }, waiting := [(9, 5)] } }
     s.span.forming = some { members := [0, 1], counts := [(1, 4)] } ∧ s.span.waiting.find? (fun w => w.2 == ctxNum c5) = some (9, 5)) ∧
    ((spanned .active).vault.slots.find? fun e => e.1 == 8191 && e.2.incarn == 2).isSome = true ∧
    ({ spanned .active with span := { (spanned .active).span with push := some 8191 } } : State).span.push ≠ none := by decide
/-! ## Witnesses: hosts -/

/-- In life-cycle state `l` with the PCI Express link up, vector 1024 owed, the keystone's page on PCI Express, cask 5's on SPI or I2C. -/
def hosted (l : Lcs) : State := { inLife l with
  casks := [(5, { cask5 with hostPath := 2, hostCfg := 0x2020 }), (6, { disabled5 with hostPath := 1, hostCfg := 0x3FFF })]
  host := { owned.host with up := true, ksPath := 1, owed := [1024], grants := [(7, 0x3FFFFF)] }
  pwr := { (inLife l).pwr with bootResult := 1, bootStep := 9 } }
/-- PcieHost: link up and not; both ends of the grants; doorbells that are bound and not; an owed vector. -/
theorem witness_PcieHost : (hosted .owned).pcieOn = true ∧ (hosted .owned).host.up = true ∧ run5.host.up = false ∧ (hosted .owned).barOn = true ∧
    run5.barOn = false ∧ fld (tget (hosted .owned).host.grants 7 0) 0 10 = 1023 ∧ bit (tget (hosted .owned).host.grants 7 0) 21 = true ∧
    (0xFFC0 : BitVec 16).toNat / 64 = 1023 ∧ (0xFFBF : BitVec 16).toNat / 64 = 1022 ∧
    (hosted .owned).pagePath (ctxNum .keystone) = 1 ∧ (hosted .owned).pagePath (ctxNum c5) ≠ 1 ∧ (hosted .owned).life.state ≠ .analysisPending ∧
    (hosted .owned).ctxLive .keystone = true ∧ run5.canTrigger c5 = true ∧ (inLife .owned).canTrigger c5 = false ∧
    (1024 : Nat) ∈ (hosted .owned).host.owed ∧ (0 : Nat) ∉ (hosted .owned).host.owed := by decide
/-- HostFrames: frames held by each port, complete and not, a bad CRC, responses held and not, and a claim whose reset can begin. -/
def status0 : V1Frame := { seq := 1 }
theorem witness_HostFrames : status0.payload.length ≤ 1024 ∧ (∀ v ∈ [HostVia.pcie, .spi, .i2c], (hosted .owned).viaOn v = true) ∧
    (hosted .owned).host.i2cAddr ≠ 0 ∧
    (let s : State := { hosted .owned with host := { (hosted .owned).host with spi := { rx := commandFrame 1 status0, open' := true, resp := some [0x5A] } } }
     s.host.spi.open' = true ∧ s.host.spi.rx = commandFrame 1 status0 ∧ s.host.spi.resp = some [0x5A] ∧ s.host.claim ≠ some .spi) ∧
    (∀ k ∈ List.range 10, tget ((commandFrame 1 status0).zipIdx.map fun e => (e.2, e.1)) k 0 = (commandFrame 1 status0).getD k 0) ∧
    (commandFrame 1 status0).length = 10 ∧ (0 : BitVec 16) ≠ crc16 ((commandFrame 1 status0).take 8) ∧ (hosted .owned).host.spi.resp = none ∧
    (hosted .owned).viaOn .spi = true ∧ run5.viaOn .pcie = false := by decide +kernel
theorem witness_HostFrames_claim (v : HostVia) :
    let s : State := { hosted .owned with host := { (hosted .owned).host with claim := some v, spi := { resp := some [] }, i2c := { resp := some [] } } }
    s.viaOn v = true ∧ s.host.claim = some v ∧ s.resetFree ∧ s.host.spi.resp.isSome = true ∧ s.host.i2c.resp.isSome = true ∧ s.alive = true := by
  cases v <;> exact ⟨by decide, by decide, ⟨by decide, by decide, by decide, by decide, by decide⟩, by decide, by decide, by decide⟩
/-- HostCommands: device and page commands in states that allow them and that do not; payloads at their bounds; offsets at the mailbox's
and the staging buffer's ends. What a claim or an image must verify rests on Config's signature functions, for which no value is given. -/
theorem witness_HostCommands : (hosted .owned).memOk ∧ (hosted .personal).memOk ∧ (∀ v ∈ [HostVia.pcie, .spi, .i2c], (hosted .personal).viaOn v = true) ∧
    (status0.target.toNat = 0x7FF ∧ status0.payload = []) ∧ ((5 : BitVec 16).toNat ≤ 0x400 ∧ (hosted .owned).pagePath 5 = 2) ∧
    (hosted .owned).pagePath 6 ≠ 2 ∧ (hosted .owned).caskLive 5 = true ∧ (hosted .owned).caskLive 6 = false ∧ (hosted .owned).host.claim = none ∧
    (hosted .analysisPending).viaOn .i2c = true ∧ (hosted .analysisPending).life.state = .analysisPending ∧
    (hosted .personal).life.state = .personal ∧ (hosted .owned).pwr.bootResult ≠ 0 ∧
    leNat (slice (leBytes 2 0xEDE ++ [1, 2]) 0 2) + 2 ≤ 0xEE0 ∧ 0xEE0 < leNat (slice (leBytes 2 0xEDF ++ [1, 2]) 0 2) + 2 ∧
    leNat (slice (leBytes 4 0x10FFFF ++ [1]) 0 4) + 1 ≤ 0x110000 ∧ 0x110000 < leNat (slice (leBytes 4 0x110000 ++ [1]) 0 4) + 1 := by
  decide +kernel
theorem witness_HostCommands_form : ((hosted .personal).rdBytes sramBase 0x1020).take 6 ≠ [0x4B, 0x5A, 0x43, 0x4C, 0x01, 0x00] := by
  intro h
  have := congrArg (·.headD 1) h
  revert this
  decide +kernel

/-! ## Witnesses: the whole block -/

theorem witness_StepRunsFront : State.reset.pending = [] ∧ State.reset.timeCounts = false ∧ owned.pending = [] ∧ owned.timeCounts = true := by decide
theorem witness_InvariantKept : State.reset.Inv ∧ run5.Inv :=
  ⟨⟨by decide, tabsOk_of (by decide), fun _ h => absurd h List.not_mem_nil⟩, ⟨by decide, tabsOk_of (by decide), fun _ h => absurd h List.not_mem_nil⟩⟩
/-- CounterAtomic: a fresh record, and one with all 64 cells programmed, increments of 1 and 64. -/
def full64 : CtrRec := { ctrFresh with cells := List.replicate 64 .programmed }
theorem witness_CounterAtomic : ctrFresh.clean 1 0 0 ∧ full64.clean 1 64 64 ∧ (1 : Word).toNat + 2 < 2 ^ 32 :=
  ⟨⟨by decide +kernel, ⟨_, rfl, by decide⟩, by decide, by decide⟩, ⟨by decide +kernel, ⟨_, rfl, by decide⟩, by decide, by decide⟩, by decide⟩
/-! ## The checks on operands -/

/-- Each check refuses an operand that no wire or port can carry, and takes the nearest one that it can (R60, R412, R452, R514, R552, R589). -/
theorem test_wellFormed : (Instr.registerWrite .keystone 0x3FFFFFFC 0).wf = false ∧ (Instr.registerWrite .keystone 0x40000000 0).wf = true ∧
    (Instr.registerWrite .keystone 0x4015FFFC 0).wf = true ∧ (Instr.registerWrite .keystone 0x40160000 0).wf = false ∧
    (Instr.registerWrite .keystone 0x40000002 0).wf = false ∧ (∀ b ∈ tapNamed, (Instr.tapBypass b).wf = false) ∧ (Instr.tapBypass 0xFF).wf = true ∧
    (Instr.searchSequence 0 [1, 1]).wf = false ∧ (Instr.searchSequence 0 [1, 2]).wf = true := by decide
theorem test_wellFormed_lengths : ({ body := List.replicate 1025 0 } : Pkt).wf = false ∧ ({ body := List.replicate 1024 0 } : Pkt).wf = true ∧
    ({ body := List.replicate 1005 0, mac := List.replicate 8 0 } : SpanMsg).wf = false ∧
    ({ body := List.replicate 1004 0, mac := List.replicate 8 0 } : SpanMsg).wf = true ∧
    ({ mac := List.replicate 7 0 } : SpanMsg).wf = false ∧ ({ payload := List.replicate 65536 0 } : V1Frame).wf = false ∧
    ({ payload := List.replicate 65535 0 } : V1Frame).wf = true := by
  simp only [Pkt.wf, SpanMsg.wf, V1Frame.wf, List.length_replicate, List.length_nil]
  decide

/-! ## Single steps, with the values of the spec's worked examples -/

/-- The state after the step of the command `i` alone. -/
def after (i : Instr) (s : State) : State := match step { s with pending := [i] } with
  | .next t => t
  | .fault _ => s
  | .refused _ => s
def write (a v : Word) (s : State) : State := after (.registerWrite .keystone a v) s
def reads (s : State) (a : Word) : Word := (s.regRead .keystone a).1

/-- The certificate header of ch. 02. -/
def certHead : Bytes := [0x44, 0x4B, 0x43, 0x47, 0x01, 0x00, 0x03, 0x00, 0x12, 0x4B, 0xD0, 0x99, 0x7E, 0x0C, 0x31, 0x5A,
  0x29, 0x00, 0x00, 0x00, 0x24, 0x01, 0x27, 0x01, 0x20, 0x1C, 0x00, 0x00, 0x01, 0x00, 0x00, 0x00]
theorem test_certificate_fields : certLevel certHead = 3 ∧ certFlags certHead = 0 ∧ certEpoch certHead = 41 ∧ certFirst certHead = 0x124 ∧
    certLast certHead = 0x127 ∧ certExpiry certHead = 7200 ∧ certSigner certHead = 1 := by decide
/-- Ch. 03: the wake time of eight hours of darkness. -/
theorem test_wake_time :
    (write 0x40020014 0x0000039E (write 0x40020010 0x8D608000 owned)).pwr.wakeAt = 0x0000039E8D608000 ∧
    (0x0000010000000000 : Dword) + 2880000000000 = 0x0000039E8D608000 := by decide +kernel
/-- Ch. 04: the floors of OWNED raise a mapping of light and temperature limit at L1. -/
theorem test_tamper_map_floor : reads (after (.tampMapWrite 0xD6A6) owned) 0x40040008 = 0xDAA6 := by decide +kernel
/-- Ch. 05: the four encodings. -/
theorem test_move_words : moveOf 0x08000008 0x10004000 = .ok { guard := 0, src := .value 0x10004000, width := 0, dst := 8, len := 2 } ∧
    moveOf 0xF0002005 0 = .ok { guard := 0xF, src := .port 2, width := 0, dst := 5 } ∧
    moveOf 0x03002005 0 = .ok { guard := 0, src := .port 2, width := 3, dst := 5 } ∧
    mvForm 0x0C0021C5 = 3 ∧ mvSrc 0x0C0021C5 = 2 ∧ mvMacro 0x0C0021C5 = 7 ∧ mvReg 0x0C0021C5 = 5 :=
  ⟨rfl, rfl, rfl, by decide, by decide, by decide, by decide⟩
/-- R155: the keystone's store into a cask's code leaves the old word to fetch until the cask's SYS.SYNC. -/
def patched : State := after (.lsuSt .keystone .word 0x10000040)
  { put (runWith regs5) 0x10000040 0x01001000 with ks := { owned.ks with regs := { owned.ks.regs with pc := 0x10100000, lsu := { sd := 9 } } } }
theorem test_stale_code : patched.memWord 0x10000040 = 9 ∧ tget patched.stale 5 [] = [(0x10000040, 0x01001000)] ∧
    tget patched.stale 1024 [] = [] ∧ tget (after (.sysSync c5) patched).stale 5 [] = [] := by decide +kernel
/-- Ch. 05: a misaligned load in a delay slot leaves this frame. -/
def walking : State := runWith { pc := 0x1000081C, delay := some 0x10000900, g := [(13, 0x10004002), (30, 0x10020F00)]
                                 sys := { regs5.sys with evec := 0x10000200 } }
theorem test_delay_slot_frame : (let t := after (.lsuLd c5 .word 0x10004002) walking
    (t.memWord 0x10020EF0, t.memWord 0x10020EF4, t.memWord 0x10020EF8, t.memWord 0x10020EFC, getG (t.regs c5) 30, (t.regs c5).sys.epend)) =
    (0x1000081C, 0x00000107, 0x10004002, 0, 0x10020EF0, 0x10000900) := by decide +kernel
/-- Ch. 06: macro 7 clamps a signed brightness offset into 0-255. -/
def clamps : State := after (.decMacWrite 7 0x00039010) { owned with
  dec := { owned.dec with ucode := [(0x10, 0x00024100), (0x11, 0x040FF11E), (0x12, 0x00101100), (0x13, 0x0400011F), (0x14, 0x00101025)] } }
theorem test_macro_clamps : (clamps.mac 7).valid = true ∧ clamps.dec.err = false ∧ macroOut (clamps.macUops 7) (fun _ => 0) 0x130 = 0xFF ∧
    macroOut (clamps.macUops 7) (fun _ => 0) 0xFFFFFFF9 = 0 := by decide +kernel
/-- Ch. 07: cask 0x125 is READY, then RUNNING in core 3, slot 2. -/
def cask125 : Cask := { cls := 1, hostPath := 1
                        code := { base := 0x10100000, size := 0x4000, r := true, x := true }
                        data := { base := 0x10104000, size := 0x8000, r := true, w := true, sealed := true }
                        stack := { base := 0x1010C000, size := 0x1000, r := true, w := true }
                        shared := { base := 0x10200000, size := 0x1000, r := true, w := true, group := 7 } }
def enabled : State := after .caskEnable { owned with casks := [(0x125, cask125)], caskBlk := { owned.caskBlk with sel := 0x125, kslo := 1 } }
theorem test_cask_enabled : enabled.caskBlk.result = 0 ∧ reads enabled 0x40076494 = 0x21 := by decide +kernel
theorem test_cask_running :
    reads { enabled with casks := [(0x125, { enabled.cask 0x125 with state := .running, slot := some (3 + 16 * 2) })] } 0x40076494 = 0x8EA := by
  decide +kernel
theorem test_cask_descriptor_words :
    (winWrite (winWrite (winWrite {} 0x00 0x10104000) 0x04 0x8000) 0x08 0x0B).code = cask125.data := by decide
/-- Ch. 08: the budgets of casks of weight 40 and 100 among weights that sum to 4,000 on 63 slots. -/
def sharing : State := { owned with casks := [(1, { cask5 with slot := none, weight := 40 }), (2, { cask5 with slot := none, weight := 100 }),
  (3, { cask5 with slot := none, weight := 35 })] ++ (List.range 15).map fun i => (4 + i, { cask5 with slot := none, weight := 255 }) }
theorem test_window_budgets : (let t := after (.schedWindowStart 100000) sharing
    ((t.cask 1).budget, (t.cask 2).budget, t.sched.w.toNat)) = (63000, 100000, 4000) := by decide +kernel
/-- Ch. 09: the value before the increment, after it, and after the fold that power failed in. -/
def cells61 : CtrRec := { base0 := some { gen := 6, value := 0 }, base1 := some { gen := 7, value := 448 }, tag := some 7, cells := List.replicate 61 .programmed }
theorem test_counter_example : ctrVal cells61 = some 509 ∧ ctrVal (ctrInc cells61 5) = some 514 ∧
    ctrVal (ctrRepair { cells61 with base0 := some { gen := 8, value := 509 }, tag := none }) = some 509 := by decide +kernel
/-- Ch. 09 and 20: ALLOC_CTR with FIRST 0x300 and COUNT 16 makes index 4 of cask 0x125 counter 0x304. -/
theorem test_counter_range : (after .nvmCmdDone (after (.nvmAllocCtr 0x125 0x00010300) owned)).caskCtr 0x125 4 = some 0x304 := by decide +kernel
/-- Ch. 10: the nonce at counter 17 with NFIX 0x12A. -/
def sealing : State := { noncing 17 with press := { (noncing 17).press with
  pages := [(5, { nfix := 0x12A, job := some { ctrJob with mode := 0x241002, nfix := 0x12A, nctr := 0, phase := .waitNonce } })] } }
theorem test_nonce : ((tget (after (.pressNonceReserved c5) sealing).press.pages 5 {}).job.map (·.nonce)) =
    some [0x00, 0x00, 0x01, 0x2A, 0x00, 0x00, 0x00, 0x00, 0x00, 0x12, 0x00, 0x00] := by decide +kernel
/-- Ch. 11: the sizes of the parameter set with N = 4,096, L = 3, K = 1, DNUM = 3, T = 65,537. -/
def tallies : LatParams := { logN := 12, l := 3, k := 1, dnum := 3, t := 65537 }
theorem test_object_sizes : ctLen tallies 2 false = 196608 ∧ granules (ctLen tallies 2 false) = 48 ∧ granules (ctLen tallies 1 false) = 32 ∧
    granules (ctLen tallies 0 false) = 16 ∧ 64 + kindLen tallies 5 0 false = 393312 ∧ tallies.alpha = 1 := by decide +kernel
/-- Ch. 13: the request of cask 5 (0x125 there) for tile 0x11 on lane 4, VC 2. -/
def asking : State := { run5 with
  lanes := [(4, { laneUp 2 with gen := 3, vcs := 4, v := 4, vc := [(2, { owner := 5 })] })]
  lnk := [(5, { dest := 0x0A311124, src := 0x10010000, len := 16, rbuf := 0x10010100, rcap := 64, cfg := 0x2400C8 })] }
theorem test_link_request : ((tget (after (.lnkGo c5) asking).lnk 5 {}).job.map fun j => (j.lane.val, j.vc.val, j.addr, j.tag)) =
    some (4, 2, 0x11, 0x0A31) ∧ ((tget (after (.lnkGo c5) asking).lnk 5 {}).job.map fun j => (j.tmo, j.line, j.event)) = some (200, 4, true) := by decide +kernel
/-- Ch. 20: LINK_CFG of an ingress lane at G3 with 2 VCs, and of a span lane; ch. 19: its address for lane 4. -/
theorem test_link_cfg : (let x := tget (after (.linkCfgWrite 0 0x2D) owned).lanes 0 {}
    (x.role, x.gen, x.vcs)) = (1, 3, 2) ∧
    (let x := tget (write 0x400F4000 0x4E owned).lanes 4 {}
    (x.role, x.gen, x.vcs)) = (2, 3, 4) ∧ (tget (after (.linkCfgWrite 11 0x2F) owned).lanes 11 {}).role = 3 := by decide +kernel
/-- Ch. 20: TILE_MAKER1 with ALG 3, VALID and OWNER 0x131. -/
theorem test_tile_maker : (let m := tget (write 0x40100184 0x01310013 owned).tile.makers 1 {}
    (m.alg, m.valid, m.owner)) = (3, true, 0x131) := by decide +kernel
/-- Ch. 20: the words of region 5, VALID from the next boundary; refused for RANGE while lane 4 is not egress (R600). -/
def regionWords (s : State) : State := write 0x40111140 0x00003125 (write 0x4011114C 0x00013C04 (write 0x40111148 0x00030000
  (write 0x40111144 0x00202040 s)))
theorem test_region : (let x := tget (regionWords { owned with lanes := [(4, { role := 2 })] }).frame.regions 5 {}
    (x.owner, x.validNext, x.slate, x.tileBytes.toNat, regionTiles x)) = (0x125, some true, 0x202040, 196608, (List.range 16).map (64 * 4 + ·)) := by
  decide +kernel
theorem test_region_refused : (let t := regionWords owned
    (t.frame.cfgErr, t.frame.errCode, (tget t.frame.regions 5 {}).validNext)) = (true, 1, none) := by decide +kernel
/-- Ch. 16: a measurement with offset 170 steps TIME forward. -/
def measured : State := { spanned .syncing with span := { (spanned .syncing).span with t1 := 5000000, t4 := some 5000050 } }
theorem test_time_step : (after (.timeRsp 3 0 (msg 0x12 (zeros 4 ++ leBytes 8 5000190 ++ leBytes 8 5000200))) measured).clk.time =
    measured.clk.time + 170 := by decide +kernel
/-- Ch. 17: HOST_CASKCFG 0x2523 gives doorbell line 3 and loss line 5. -/
def belled : State := { hosted .owned with casks := [(0x125, { cask5 with slot := none, hostPath := 1, hostCfg := 0x2523 })] }
theorem test_doorbell : (let t := after (.h2cWrite (.ctx (.cask 0x125)) 1) belled
    ((t.pageIf 0x125).h2c, (t.pageIf 0x125).h2cCnt, t.pendOf (.cask 0x125))) = (1, 1, 8) := by decide +kernel
theorem test_link_loss : (let t := after .pcieLinkDown belled
    ((t.pageIf 0x125).losses, t.pendOf (.cask 0x125))) = (1, 32) := by decide +kernel
/-- Ch. 19: SCHED_CASK and CASK_CTL of cask 0x125, and the identification register. -/
theorem test_register_addresses : ((write 0x40081494 40 owned).cask 0x125).weight = 40 ∧
    (let k := (write 0x40074928 0x11 owned).cask 0x125
     (k.cls, k.hostPath)) = (1, 1) ∧ reads owned 0x40000000 = 0x4E310A01 := by decide +kernel
/-- A register no block holds reads 0 and ignores writes (R590); a command that finds the block not ready changes nothing but the queue. -/
theorem test_unmapped : reads owned 0x400D0000 = 0 ∧ write 0x400D0000 5 owned = owned ∧ after .caskEnable State.reset = State.reset := by decide +kernel

/-! ## The algorithms the spec names by standard, on those standards' examples (R402, R415, R427) -/

theorem test_crc16 : crc16 (ascii "123456789") = 0x29B1 := by decide +kernel
theorem test_sha256 : leNat ((sha256 (ascii "abc")).take 4) = 0xBF1678BA := by decide +kernel
theorem test_aes128 : (aesEncrypt [0x2B, 0x7E, 0x15, 0x16, 0x28, 0xAE, 0xD2, 0xA6, 0xAB, 0xF7, 0x15, 0x88, 0x09, 0xCF, 0x4F, 0x3C]
    [0x32, 0x43, 0xF6, 0xA8, 0x88, 0x5A, 0x30, 0x8D, 0x31, 0x31, 0x98, 0xA2, 0xE0, 0x37, 0x07, 0x34]) =
    [0x39, 0x25, 0x84, 0x1D, 0x02, 0xDC, 0x09, 0xFB, 0xDC, 0x11, 0x85, 0x97, 0x19, 0x6A, 0x0B, 0x32] := by decide +kernel

end Sys2Proof.Tests
end

section
/-! The TAP's rows (spec ch. 02): what a load of its instruction register shows, when a request through it is served, and the three
statements O5, O6 and O11 settled from those rules. -/

namespace Sys2Proof.Machine

open Sys2Proof

/-! ## When the TAP serves, and what it shows -/

theorem State.tapServes_iff (s : State) :
    s.tapServes = true ↔ s.tapUp = true ∧ s.tamp.l3 = .none ∧ s.life.state ≠ .analysisPending := by
  simp [State.tapServes, and_assoc]

/-- The wake from SLEEP that DBG_CERT asks for (R59) leaves the TAP as it was loaded. -/
@[simp] theorem State.wake_tap (s : State) : s.wake.tap = s.tap := by
  unfold State.wake
  split
  · rfl
  · split <;> rfl

/-- Presenting a certificate leaves the TAP as it was loaded, also where the answer is BUSY or LOCKED_OUT (R46, R48). -/
@[simp] theorem State.presentCert_tap (s : State) (c : Bytes) (viaTap : Bool) : (s.presentCert c viaTap).tap = s.tap := by
  unfold State.presentCert
  split
  · rfl
  · split <;> rfl

/-- The command completes with the opcode `ir` in the instruction register and a data register of `w` bits (R60). -/
def TapShows (o : Host.Outcome State Fault Refusal) (ir : Byte) (w : Nat) : Prop :=
  ∃ t, o = .next t ∧ t.tap.ir = ir ∧ t.tap.drWidth = w

theorem tapShows_next {t : State} {ir : Byte} {dr w : Nat} (u : State) (h : t.tap = (u.tapLoad ir dr w).tap) :
    TapShows (.next t) ir w :=
  ⟨t, rfl, congrArg TapPort.ir h, congrArg TapPort.drWidth h⟩

/-- A command that ends by loading the TAP shows what it loaded. -/
theorem tapShows_tapLoad (u : State) (ir : Byte) (dr w : Nat) : TapShows (.next (u.tapLoad ir dr w)) ir w :=
  tapShows_next u rfl

/-! ## Life-cycle requests -/

theorem State.lcTap_taken {s : State} (hup : s.tapUp = true) (hl3 : s.tamp.l3 = .none) (ir : Byte) (w : Nat) (path : Bool)
    (act : State → State) : s.lcTap ir w path act = (s.lcRequest path act).tapLoad ir 0 w :=
  if_pos ⟨hup, hl3⟩

/-- A life-cycle request that the TAP takes shows its instruction, whatever the request's answer. -/
theorem State.tapShows_lcTap {s : State} (hserves : s.tapServes = true) (ir : Byte) (w : Nat) (path : Bool)
    (act : State → State) : TapShows (.next (s.lcTap ir w path act)) ir w := by
  obtain ⟨hup, hl3, -⟩ := s.tapServes_iff.mp hserves
  rw [State.lcTap_taken hup hl3]
  exact tapShows_tapLoad ..

/-- A request on a path of R34, with no transition running, has its effect. -/
theorem State.lcRequest_on_path {s : State} (hpending : s.life.state ≠ .analysisPending) (hbusy : s.lcBusy = false)
    (act : State → State) : s.lcRequest true act = act (s.lcStatusIs .ok) := by
  simp [State.lcRequest, hpending, hbusy]

/-- LC_TOKEN in TEST_LOCKED with TOKCNT at 16 or beyond changes the request's status and the TAP alone (R38); the count of
mismatches is not looked at. -/
theorem exec_lcToken_exhausted {s : State} (dr : BitVec 264) (hup : s.tapUp = true) (hl3 : s.tamp.l3 = .none)
    (hbusy : s.lcBusy = false) (hstate : s.life.state = .testLocked) (hused : 16 ≤ s.ctrNat ctrTokcnt) :
    exec (.lcToken dr) s = .next ((s.lcStatusIs .tokensExhausted).tapLoad 0x12 0 264) := by
  have hpending : s.life.state ≠ .analysisPending := by simp [hstate]
  have hpath : decide (s.life.state = .testLocked) = true := decide_eq_true hstate
  change Host.Outcome.next (s.lcTap 0x12 264 _ _) = _
  rw [State.lcTap_taken hup hl3, hpath, State.lcRequest_on_path hpending hbusy]
  exact congrArg (fun u : State => Host.Outcome.next (u.tapLoad 0x12 0 264)) (if_pos hused)

/-! ## Debug certificates -/

/-- DBG_CERT shows its instruction both in SLEEP, where it asks for the wake, and elsewhere, where it is presented (R59). -/
theorem tapShows_dbgCert {s : State} (hserves : s.tapServes = true) (cert : List Byte) :
    TapShows (exec (.dbgCert cert) s) 0x20 (8 * cert.length) := by
  obtain ⟨-, -, hpending⟩ := s.tapServes_iff.mp hserves
  change TapShows (execDbgCert cert s) _ _
  rw [execDbgCert, if_neg fun h => hpending h.1, if_pos hserves]
  dsimp only
  split
  · exact tapShows_next s (State.wake_tap _)
  · exact tapShows_next s (State.presentCert_tap _ _ _)

theorem tapShows_dbgClose {s : State} (hserves : s.tapServes = true) : TapShows (exec .dbgClose s) 0x21 1 := by
  change TapShows (execDbgClose s) _ _
  rw [execDbgClose, if_pos hserves]
  exact tapShows_tapLoad ..

/-! ## DBG_ACCESS -/

theorem dbgDr_data_zero (op : Nat) (g : BitVec 11) (a : Word) :
    dbgDr op g a 0 = op * 2 ^ 78 + g.toNat * 2 ^ 67 + a.toNat * 2 ^ 32 := by
  rw [dbgDr]
  exact Nat.add_zero _

/-- A refused operation, for any number captured: `dr` stays a variable here, so that no power of two is evaluated. -/
theorem State.violation_tapLoad (s : State) (write : Bool) (a : Word) (dr : Nat) :
    (s.violation 4 write a).tapLoad 0x22 dr 80 = { s with
      tap := { s.tap with ir := 0x22, dr := dr, drWidth := 80, extest := false }
      caskBlk := { s.caskBlk with violSource := 4, violWrite := write, violNew := true, violAddr := a
                                  violCount := satAdd1 s.caskBlk.violCount }
      ks := { s.ks with pend := s.ks.pend ||| oneHot 2 } } := rfl

/-- The whole effect of a refused DBG_ACCESS operation (R44). -/
theorem State.dbgRefused_eq (s : State) (op : Nat) (g : BitVec 11) (a : Word) :
    s.dbgRefused op g a = { s with
      tap := { s.tap with ir := 0x22, drWidth := 80, extest := false
                          dr := op * 2 ^ 78 + g.toNat * 2 ^ 67 + a.toNat * 2 ^ 32 }
      caskBlk := { s.caskBlk with violSource := 4, violWrite := op == 1, violNew := true, violAddr := a
                                  violCount := satAdd1 s.caskBlk.violCount }
      ks := { s.ks with pend := s.ks.pend ||| oneHot 2 } } := by
  rw [State.dbgRefused, State.dbgCapture, dbgDr_data_zero, State.violation_tapLoad]

theorem State.dbgAccess_refused {s : State} {ok : Bool} (hserves : s.tapServes = true) (hok : ok = false) (op : Nat)
    (g : BitVec 11) (a : Word) (f : State → State) : s.dbgAccess op g a ok f = .next (s.dbgRefused op g a) := by
  simp [State.dbgAccess, hserves, hok]

/-- A served DBG_ACCESS operation shows its instruction when refused, and when carried out if what it does ends so. -/
theorem State.tapShows_dbgAccess {s : State} (hserves : s.tapServes = true) (op : Nat) (g : BitVec 11) (a : Word) (ok : Bool)
    {f : State → State} (hf : TapShows (.next (f s)) 0x22 80) : TapShows (s.dbgAccess op g a ok f) 0x22 80 := by
  cases ok with
  | false =>
    rw [State.dbgAccess_refused hserves rfl]
    exact tapShows_tapLoad ..
  | true => simpa [State.dbgAccess, hserves] using hf

/-- The four operations of DBG_ACCESS with their OP field and the level each needs (R40, R44). -/
def dbgRows (g : BitVec 11) (a d : Word) : List (Instr × Nat × DbgLevel) :=
  [(.dbgAccessRead g a, 0, .observe), (.dbgAccessWrite g a d, 1, .control), (.dbgAccessHalt g a, 2, .control),
    (.dbgAccessResume g a d, 3, .control)]

/-- What the four operations share: each goes through `dbgAccess`, is refused where the level or range does not permit it, and ends
by loading the TAP when it is carried out. -/
theorem exec_dbgRow (s : State) {g : BitVec 11} {a d : Word} {i : Instr} {op : Nat} {need : DbgLevel}
    (hi : (i, op, need) ∈ dbgRows g a d) :
    ∃ ok f, exec i s = s.dbgAccess op g a ok f ∧ (s.dbgPermits (dbgTarget g) a need = false → ok = false) ∧
      TapShows (.next (f s)) 0x22 80 := by
  simp only [dbgRows, List.mem_cons, Prod.mk.injEq, List.not_mem_nil, or_false] at hi
  rcases hi with ⟨rfl, rfl, rfl⟩ | ⟨rfl, rfl, rfl⟩ | ⟨rfl, rfl, rfl⟩ | ⟨rfl, rfl, rfl⟩
  case inl =>
    change ∃ ok f, execDbgAccessRead g a s = _ ∧ _
    unfold execDbgAccessRead
    refine ⟨_, _, rfl, fun h => by simp [h], ?_⟩
    dsimp only
    split
    · exact tapShows_tapLoad ..
    · exact tapShows_tapLoad ..
  case inr.inl =>
    change ∃ ok f, execDbgAccessWrite g a d s = _ ∧ _
    unfold execDbgAccessWrite
    exact ⟨_, _, rfl, fun h => by simp [h], tapShows_tapLoad ..⟩
  case inr.inr.inl =>
    change ∃ ok f, execDbgAccessHalt g a s = _ ∧ _
    unfold execDbgAccessHalt
    exact ⟨_, _, rfl, fun h => by simp [h], tapShows_tapLoad ..⟩
  case inr.inr.inr =>
    change ∃ ok f, execDbgAccessResume g a d s = _ ∧ _
    unfold execDbgAccessResume
    exact ⟨_, _, rfl, fun h => by simp [h], tapShows_tapLoad ..⟩

theorem tapShows_dbgRow {s : State} (hserves : s.tapServes = true) {g : BitVec 11} {a d : Word} {i : Instr} {op : Nat}
    {need : DbgLevel} (hi : (i, op, need) ∈ dbgRows g a d) : TapShows (exec i s) 0x22 80 := by
  obtain ⟨ok, f, hexec, -, hf⟩ := exec_dbgRow s hi
  rw [hexec]
  exact State.tapShows_dbgAccess hserves op g a ok hf

end Sys2Proof.Machine

namespace Sys2Proof.Proofs

open Sys2Proof Sys2Proof.Machine

/-! ## The statements -/

/-- Settles O5: the first five rows by the condition each is served under, the others by what they load last. -/
theorem tapOpcodes : Obligations.TapOpcodes := by
  intro s
  refine ⟨fun hup => ?idcode, fun hup => ?lcStatus, fun op hup hop => ?bypass, fun bits hserves hlevel => ?sample,
    fun bits hserves hlevel hallowed => ?extest, fun digests token digest cert g a d hserves => ?loads⟩
  case idcode => exact congrArg Host.Outcome.next (if_pos hup)
  case lcStatus => exact congrArg Host.Outcome.next (if_pos hup)
  case bypass => exact congrArg Host.Outcome.next (if_pos ⟨hup, hop⟩)
  case sample => exact congrArg Host.Outcome.next (if_pos ⟨hserves, hlevel⟩)
  case extest => exact congrArg Host.Outcome.next (if_pos ⟨hserves, hlevel, hallowed⟩)
  case loads =>
    have hrow (k : Nat) (hk : k < 4) : (dbgRows g a d)[k]'hk ∈ dbgRows g a d := List.getElem_mem hk
    exact ⟨State.tapShows_lcTap hserves .., State.tapShows_lcTap hserves .., State.tapShows_lcTap hserves ..,
      State.tapShows_lcTap hserves .., State.tapShows_lcTap hserves .., tapShows_dbgCert hserves cert,
      tapShows_dbgClose hserves, tapShows_dbgRow hserves (hrow 0 (by decide)),
      tapShows_dbgRow hserves (hrow 1 (by decide)), tapShows_dbgRow hserves (hrow 2 (by decide)),
      tapShows_dbgRow hserves (hrow 3 (by decide))⟩

/-- Settles O6: the count of used tokens is the first check of LC_TOKEN. -/
theorem tokensExhausted : Obligations.TokensExhausted := by
  intro s dr hup hl3 hbusy hstate hcount
  exact exec_lcToken_exhausted dr hup hl3 hbusy hstate (Nat.le_of_eq hcount.symm)

/-- Settles O11: each operation asks `dbgPermits` before anything else, and a refusal has one effect for all four. -/
theorem debugAccessRefused : Obligations.DebugAccessRefused := by
  intro s g a d i op need hi hserves hpermits
  obtain ⟨ok, f, hexec, hrefused, -⟩ := exec_dbgRow s hi
  rw [hexec, State.dbgAccess_refused hserves (hrefused hpermits), State.dbgRefused_eq]

end Sys2Proof.Proofs
end

section
/-! Forced clock domains (spec ch. 03, R74-R77): which domains a write of CLK_FORCE_OFF asks for, which press pipeline it may leave
clocked, and the statement O18 settled from these. -/

namespace Sys2Proof.Machine

open Sys2Proof

/-! ## What a write asks for -/

/-- The domains that a write of `v` to register `reg` would leave forced off, but for the press pipeline that must stay clocked:
the forcible bits of the register as written, every other register as it is (R77). -/
def State.ForceOffAsked (s : State) (reg : Nat) (v : Word) (d : Nat) : Prop :=
  if d / 32 = reg then bit v (d % 32) = true ∧ forcible d = true else d ∈ s.clk.forceOff

/-- The domains that the bits of `v` name in register `reg`. -/
theorem mem_forceOff_written {reg : Nat} {v : Word} {d : Nat} :
    (d ∈ (List.range 32).filterMap fun j => if bit v j && forcible (32 * reg + j) then some (32 * reg + j) else none) ↔
      d / 32 = reg ∧ bit v (d % 32) = true ∧ forcible d = true := by
  simp only [List.mem_filterMap, List.mem_range, Option.ite_none_right_eq_some, Option.some.injEq, Bool.and_eq_true]
  constructor
  · rintro ⟨j, hj, hbit, rfl⟩
    have hreg : (32 * reg + j) / 32 = reg := by omega
    have hmod : (32 * reg + j) % 32 = j := by omega
    rw [hmod]
    exact ⟨hreg, hbit⟩
  · rintro ⟨rfl, hbit⟩
    have hd : 32 * (d / 32) + d % 32 = d := Nat.div_add_mod d 32
    exact ⟨d % 32, Nat.mod_lt d (by decide), by rwa [hd], hd⟩

/-- The other registers' domains and the written ones are together those asked for. -/
theorem State.mem_forceOff_asked {s : State} {reg : Nat} {v : Word} {d : Nat} :
    (d ∈ (s.clk.forceOff.filter fun e => e / 32 != reg) ++
      (List.range 32).filterMap fun j => if bit v j && forcible (32 * reg + j) then some (32 * reg + j) else none) ↔
      s.ForceOffAsked reg v d := by
  rw [List.mem_append, mem_forceOff_written, List.mem_filter, State.ForceOffAsked]
  by_cases hreg : d / 32 = reg
  · simp [hreg]
  · simp [hreg]

/-! ## The press pipelines (domains 16-31) -/

/-- Every press pipeline meets `P`. -/
def AllPressPipes (P : Nat → Prop) : Prop := ∀ e, 16 ≤ e → e < 32 → P e

/-- The lowest press pipeline whose force-off bit is still 0 in the list `l`. -/
def LowestClockedPipe (l : List Nat) (d : Nat) : Prop :=
  16 ≤ d ∧ d < 32 ∧ d ∉ l ∧ ∀ e, 16 ≤ e → e < d → e ∈ l

/-- The domains of the 16 press pipelines, as an interval. -/
theorem pressPipes_eq : (List.range 16).map (· + 16) = List.range' 16 16 := by decide

/-- The test of the model's write, for a list whose members are what `P` says. -/
theorem pressPipes_all_contains_iff {l : List Nat} {P : Nat → Prop} (hl : ∀ {e}, e ∈ l ↔ P e) :
    ((List.range 16).map (· + 16)).all l.contains = true ↔ AllPressPipes P := by
  rw [pressPipes_eq]
  simp only [List.all_eq_true, List.mem_range'_1, List.contains_iff_mem, and_imp, AllPressPipes, hl]

theorem pressPipes_find_eq_some_iff {l : List Nat} {d : Nat} :
    (((List.range 16).map (· + 16)).find? fun e => !l.contains e) = some d ↔ LowestClockedPipe l d := by
  rw [pressPipes_eq, List.find?_range'_eq_some]
  simp only [List.mem_range'_1, Bool.not_eq_true', Bool.not_not, ← Bool.not_eq_true, List.contains_iff_mem, LowestClockedPipe]
  constructor
  · rintro ⟨hclocked, ⟨hlow, hhigh⟩, hbelow⟩
    exact ⟨hlow, hhigh, hclocked, hbelow⟩
  · rintro ⟨hlow, hhigh, hclocked, hbelow⟩
    exact ⟨hclocked, ⟨hlow, hhigh⟩, hbelow⟩

/-! ## What a write leaves forced off -/

/-- A write leaves what it asks for, less the lowest pipeline still clocked when it asks for all of them (R77). -/
theorem State.mem_forceOffWrite {s : State} {reg : Nat} {v : Word} {d : Nat} :
    d ∈ (s.forceOffWrite reg v).clk.forceOff ↔
      s.ForceOffAsked reg v d ∧ ¬ (AllPressPipes (s.ForceOffAsked reg v) ∧ LowestClockedPipe s.clk.forceOff d) := by
  unfold State.forceOffWrite
  dsimp only
  split
  next hall =>
    rw [pressPipes_all_contains_iff State.mem_forceOff_asked] at hall
    split
    next p hp =>
      have hlowest : LowestClockedPipe s.clk.forceOff d ↔ d = p := by
        rw [← pressPipes_find_eq_some_iff, hp, Option.some.injEq, eq_comm]
      simp only [List.mem_filter, decide_eq_true_eq, State.mem_forceOff_asked, hall, hlowest, true_and, ne_eq]
    next hnone =>
      have hlowest : ¬ LowestClockedPipe s.clk.forceOff d := by
        rw [← pressPipes_find_eq_some_iff, hnone]
        exact nofun
      simp only [State.mem_forceOff_asked, hlowest, and_false, not_false_eq_true, and_true]
  next hall =>
    rw [pressPipes_all_contains_iff State.mem_forceOff_asked] at hall
    simp only [State.mem_forceOff_asked, hall, false_and, not_false_eq_true, and_true]

end Sys2Proof.Machine

namespace Sys2Proof.Proofs

open Sys2Proof Sys2Proof.Machine

/-- Settles O18: keystone code's write is `forceOffWrite`, which sets the list alone. That the old list names only forcible domains
is not needed. -/
theorem forceOffWrites : Obligations.ForceOffWrites := by
  intro s r v hwriter _
  exact ⟨s.forceOffWrite r.val v, congrArg Host.Outcome.next (if_pos hwriter), rfl, fun d => State.mem_forceOffWrite⟩

end Sys2Proof.Proofs
end

section
/-! Tamper responses and the cold hold (spec ch. 04, R117-R119, R123): what a reset leaves of the tamper system, how an event is noted and
answered, what ends a cold hold, and the statements O22 and O23 settled from these. -/

namespace Sys2Proof.Machine

open Sys2Proof

/-! ## Flash work in flight at a reset -/

/-- Between `s` and `t` only what flash work in flight can change has changed: memory, the NVM unit, the counters, and how many free
values have been drawn. -/
def State.FlashOnly (s t : State) : Prop := t = { s with mem := t.mem, nvm := t.nvm, ctrs := t.ctrs, draw := t.draw }

theorem State.FlashOnly.refl (s : State) : s.FlashOnly s := rfl

theorem State.FlashOnly.trans {s t u : State} (hst : s.FlashOnly t) (htu : t.FlashOnly u) : s.FlashOnly u := by
  unfold State.FlashOnly at hst htu ⊢
  rw [hst] at htu
  exact htu

theorem State.FlashOnly.foldl {α : Type} {f : State → α → State} (hf : ∀ (t : State) x, t.FlashOnly (f t x)) (l : List α)
    (s : State) : s.FlashOnly (l.foldl f s) := by
  induction l generalizing s with
  | nil => exact .refl s
  | cons x l ih => exact (hf s x).trans (ih (f s x))

theorem State.flashOnly_clear (s : State) (a n : Nat) : s.FlashOnly (s.clear a n) := rfl

theorem State.flashOnly_ctrInterrupt (s : State) (c b : Nat) : s.FlashOnly (s.ctrInterrupt c b) := rfl

theorem State.flashOnly_nvmInterrupt (s : State) : s.FlashOnly s.nvmInterrupt := by
  unfold State.nvmInterrupt
  split
  · rfl
  · dsimp only
    split <;> rfl

theorem State.flashOnly_wipeInterrupt (s : State) (n : Nat) : s.FlashOnly (s.wipeInterrupt n) := by
  unfold State.wipeInterrupt
  split
  · have hdrawn : s.FlashOnly s.drawNat.2 := rfl
    exact (hdrawn.trans (.foldl (fun t (j : Nat) => t.flashOnly_clear (sectorAddr j) 0x4000) _ _)).trans rfl
  · rfl

theorem State.flashOnly_interruptFlash (s : State) : s.FlashOnly s.interruptFlash := by
  have hcounters : s.FlashOnly (s.ctrFlights.foldl (fun t f => t.ctrInterrupt f.1 f.2) s) :=
    .foldl (fun t (f : Nat × Nat) => t.flashOnly_ctrInterrupt f.1 f.2) _ s
  exact (hcounters.trans (State.flashOnly_nvmInterrupt _)).trans (.foldl State.flashOnly_wipeInterrupt _ _)

theorem State.interruptFlash_eq (s : State) :
    s.interruptFlash = { s with mem := s.interruptFlash.mem, nvm := s.interruptFlash.nvm, ctrs := s.interruptFlash.ctrs
                                draw := s.interruptFlash.draw } :=
  s.flashOnly_interruptFlash

@[simp] theorem State.interruptFlash_tamp (s : State) : s.interruptFlash.tamp = s.tamp := by
  rw [s.interruptFlash_eq]

@[simp] theorem State.interruptFlash_pwr (s : State) : s.interruptFlash.pwr = s.pwr := by
  rw [s.interruptFlash_eq]

@[simp] theorem State.interruptFlash_clk (s : State) : s.interruptFlash.clk = s.clk := by
  rw [s.interruptFlash_eq]

/-! ## Resets -/

@[simp] theorem State.bootStep1_tamp (s : State) : s.bootStep1.tamp = s.tamp := by
  unfold State.bootStep1
  split <;> rfl

/-- While RESETn is low the wait at boot step 1 goes on (R85). -/
theorem State.bootStep1_of_resetnLow {s : State} (hlow : s.pwr.resetnLow = true) : s.bootStep1 = s :=
  if_neg fun ⟨_, _, _, _, hhigh⟩ => hhigh hlow

theorem State.bootStep1_of_not_booting {s : State} (hboot : s.pwr.booting = false) : s.bootStep1 = s :=
  if_neg fun ⟨hboots, _⟩ => Bool.false_ne_true (hboot.symm.trans hboots)

/-- The tamper system after a reset: ALARM, but for a power-on reset, the log with its queue and SEQ, the L3 record and the VBAT
latches stay, and all else is at its reset value (R84, R123). -/
theorem State.doReset_tamp (s : State) (ks : List RKind) (from1 : Bool) :
    (s.doReset ks from1).tamp =
      { alarm := s.tamp.alarm && !ks.contains .por, nextSeq := s.tamp.nextSeq, log := s.tamp.log, queue := s.tamp.queue
        lost := s.tamp.lost, l3Record := s.tamp.l3Record, vbat := s.tamp.vbat } := by
  unfold State.doReset
  dsimp only
  split
  · simp [afterReset]
  · simp [afterReset]

theorem State.doReset_alarm (s : State) (ks : List RKind) (from1 : Bool) :
    (s.doReset ks from1).tamp.alarm = (s.tamp.alarm && !ks.contains .por) :=
  congrArg Tamp.alarm (s.doReset_tamp ks from1)

theorem State.doReset_l3 (s : State) (ks : List RKind) (from1 : Bool) : (s.doReset ks from1).tamp.l3 = .none :=
  congrArg Tamp.l3 (s.doReset_tamp ks from1)

/-- A cold reset with RESETn low: boot waits at step 1, and COLD is recorded (R84, R85). -/
theorem State.doReset_cold_of_resetnLow {s : State} (hlow : s.pwr.resetnLow = true) :
    (s.doReset [.cold] false).clk = { refclk := s.clk.refclk } ∧
    (s.doReset [.cold] false).pwr = { resetCause := s.pwr.resetCause ||| 0x04, mainPower := s.pwr.mainPower,
                                      bankClass := s.pwr.bankClass, resetnLow := true } := by
  have hreset : s.doReset [.cold] false = _ := State.bootStep1_of_resetnLow (by simpa [afterReset] using hlow)
  rw [hreset]
  constructor
  · simp [afterReset]
  · simp [afterReset, hlow, causeBit]

/-- A wind-down that resets wait for ends with them, also on the way to ANALYSIS_PENDING (R110 step 6). -/
theorem State.windEnd_of_resets {w : WindDown} (hresets : w.resets ≠ []) (s : State) :
    s.windEnd w = ({ s with tamp := { s.tamp with wind := none } } : State).doReset w.resets w.fromStep1 := by
  have hsome : w.resets.isEmpty = false := by simpa using hresets
  unfold State.windEnd
  dsimp only
  split
  · simp [hsome]
  · simp [hsome]

/-- A reset asked for at run time keeps ALARM, whether it happens at once or waits for the wind-down (R123). -/
theorem State.requestReset_alarm (s : State) {k : RKind} (hk : k ≠ .por) (from1 : Bool) :
    (s.requestReset k from1).tamp.alarm = s.tamp.alarm := by
  unfold State.requestReset
  split
  next => rfl
  next =>
    unfold State.startWind
    dsimp only
    split
    next => rfl
    next =>
      rw [State.windEnd_of_resets (List.cons_ne_nil k []), State.doReset_alarm]
      have hpor : [k].contains RKind.por = false := by simpa using hk.symm
      rw [hpor]
      exact Bool.and_true _

/-! ## Tamper events -/

@[simp] theorem State.zeroVolatile_tamp (s : State) : s.zeroVolatile.tamp = s.tamp := rfl

@[simp] theorem State.wake_tamp (s : State) : s.wake.tamp = s.tamp := by
  unfold State.wake
  split
  · rfl
  · split <;> rfl

/-- What an event does before it is answered: it enters the log's queue, LAST_CLASS and LAST_LEVEL name it, the quiet time starts anew,
and Nelvo wakes from SLEEP (R93, R118, R124). -/
def State.noteEvent (s : State) (cls src level flags : Nat) : State :=
  let t := s.logEntry cls src level
    (flags ||| flag s.tamp.wind.isSome 1 ||| flag (s.clamps level && decide (0 < level)) 3)
  ({ t with tamp := { t.tamp with
    lastClass := BitVec.ofNat 4 cls, lastLevel := BitVec.ofNat 2 level, quiet := false } } : State).wake

/-- An event that is answered is told to keystone code first, and zeroizes in ANALYSIS_PENDING (R55, R104). -/
def State.tellEvent (s : State) : State :=
  let t := s.ksLine lineTamper
  if t.life.state = .analysisPending then t.zeroVolatile else t

/-- A tamper event is noted; unless a running response keeps it from acting (R119), it is then told and answered at its level. -/
theorem State.tamperEvent_eq (s : State) (cls src level flags : Nat) (from1 : Bool) :
    s.tamperEvent cls src level flags from1 =
      if s.clamps level then s.noteEvent cls src level flags
      else (s.noteEvent cls src level flags).tellEvent.respond level from1 := rfl

theorem State.tamperEvent_of_clamps {s : State} {level : Nat} (hclamps : s.clamps level = true) (cls src flags : Nat)
    (from1 : Bool) : s.tamperEvent cls src level flags from1 = s.noteEvent cls src level flags :=
  if_pos hclamps

theorem State.tamperEvent_of_not_clamps {s : State} {level : Nat} (hclamps : s.clamps level = false) (cls src flags : Nat)
    (from1 : Bool) :
    s.tamperEvent cls src level flags from1 = (s.noteEvent cls src level flags).tellEvent.respond level from1 := by
  rw [s.tamperEvent_eq, hclamps]
  rfl

theorem State.logEntry_tamp (s : State) (cls src level flags : Nat) :
    (s.logEntry cls src level flags).tamp =
      { s.tamp with queue := (s.logEntry cls src level flags).tamp.queue
                    lost := (s.logEntry cls src level flags).tamp.lost } := by
  unfold State.logEntry
  split <;> rfl

/-- Noting an event changes LAST_CLASS, LAST_LEVEL, the quiet time and the log's queue or count of lost entries, and nothing else of the
tamper system. -/
theorem State.noteEvent_tamp (s : State) (cls src level flags : Nat) :
    (s.noteEvent cls src level flags).tamp =
      { s.tamp with queue := (s.noteEvent cls src level flags).tamp.queue
                    lost := (s.noteEvent cls src level flags).tamp.lost
                    lastClass := BitVec.ofNat 4 cls, lastLevel := BitVec.ofNat 2 level, quiet := false } := by
  unfold State.noteEvent
  simp only [State.wake_tamp]
  rw [s.logEntry_tamp]

@[simp] theorem State.noteEvent_alarm (s : State) (cls src level flags : Nat) :
    (s.noteEvent cls src level flags).tamp.alarm = s.tamp.alarm := by rw [s.noteEvent_tamp]

@[simp] theorem State.noteEvent_alarmOnL1 (s : State) (cls src level flags : Nat) :
    (s.noteEvent cls src level flags).tamp.alarmOnL1 = s.tamp.alarmOnL1 := by rw [s.noteEvent_tamp]

@[simp] theorem State.noteEvent_l3 (s : State) (cls src level flags : Nat) :
    (s.noteEvent cls src level flags).tamp.l3 = s.tamp.l3 := by rw [s.noteEvent_tamp]

@[simp] theorem State.noteEvent_quiet (s : State) (cls src level flags : Nat) :
    (s.noteEvent cls src level flags).tamp.quiet = false := by rw [s.noteEvent_tamp]

@[simp] theorem State.tellEvent_tamp (s : State) : s.tellEvent.tamp = s.tamp := by
  unfold State.tellEvent
  dsimp only
  split
  · exact State.zeroVolatile_tamp _
  · rfl

/-- An L3 response and a cold hold keep every event from acting (R117, R119). -/
theorem State.clamps_of_l3 {s : State} (hl3 : s.tamp.l3 ≠ .none) (level : Nat) : s.clamps level = true := by
  simp [State.clamps, hl3]

/-- ALARM after the answer of a level (R123). -/
theorem State.respond_alarm (s : State) (level : Nat) (from1 : Bool) :
    (s.respond level from1).tamp.alarm = (s.tamp.alarm || decide (2 ≤ level) || (decide (level = 1) && s.tamp.alarmOnL1)) := by
  match level with
  | 0 => simp [State.respond]
  | 1 => simp [State.respond]
  | 2 =>
    suffices (s.respond 2 from1).tamp.alarm = true by simpa using this
    simp only [State.respond]
    split
    · exact State.doReset_alarm ..
    · exact State.requestReset_alarm _ (by decide) from1
  | n + 3 => simp [State.respond, State.startL3]

/-! ## Cold hold -/

/-- In cold hold RESETn at its low level counts as a pulse only once the sensors have been quiet (R118). -/
theorem execResetnAssert_coldHold {s : State} (hhold : s.tamp.l3 = .coldHold) (hpower : s.pwr.mainPower = true)
    (hhigh : s.pwr.resetnLow = false) :
    execResetnAssert s = .next
      (let t : State := { s with pwr := { s.pwr with resetnLow := true } }
       if s.tamp.quiet then t.holdExit else t) := by
  simp [execResetnAssert, hhold, hpower, hhigh]

/-- A cold hold that ends with RESETn low: the tamper system is out of L3, boot waits at step 1, TIME is 0, and COLD and HOLD_EXIT are
recorded (R118). -/
theorem State.holdExit_of_resetnLow {s : State} (hlow : s.pwr.resetnLow = true) :
    s.holdExit.tamp.l3 = .none ∧ s.holdExit.clk = { refclk := s.clk.refclk } ∧
    s.holdExit.pwr = { resetCause := s.pwr.resetCause ||| 0x04 ||| 0x40, mainPower := s.pwr.mainPower
                       bankClass := s.pwr.bankClass, resetnLow := true } := by
  obtain ⟨hclk, hpwr⟩ := State.doReset_cold_of_resetnLow
    (s := { s with tamp := { s.tamp with l3 := .none } }) hlow
  refine ⟨State.doReset_l3 .., hclk, ?_⟩
  unfold State.holdExit
  dsimp only
  rw [hpwr]

end Sys2Proof.Machine

namespace Sys2Proof.Proofs

open Sys2Proof Sys2Proof.Machine

/-- Settles O22: an event that is not clamped is noted, which leaves ALARM alone, and then answered. -/
theorem alarmRules : Obligations.AlarmRules := by
  intro s
  refine ⟨fun cls src level flags from1 _ hclamps => ?_, fun hwriter => ?_, s.doReset_alarm⟩
  · rw [State.tamperEvent_of_not_clamps hclamps, State.respond_alarm, State.tellEvent_tamp, State.noteEvent_alarm,
      State.noteEvent_alarmOnL1]
  · exact congrArg Host.Outcome.next (if_pos hwriter)

/-- Settles O23: in cold hold every event is clamped, and RESETn and a power-on reset leave it by a reset. -/
theorem coldHoldEnds : Obligations.ColdHoldEnds := by
  intro s hhold
  refine ⟨fun hclear => ?quiet, fun hepisode => ?episode, fun cls src level flags from1 => ?event,
    fun hpower hhigh hquiet => ?leaves, fun hpower hhigh hquiet => ⟨?early, fun hboot => ?release⟩, fun b => ?powerOn⟩
  case quiet => exact congrArg Host.Outcome.next (if_pos ⟨hhold, hclear⟩)
  case episode => exact congrArg Host.Outcome.next (if_neg fun ⟨_, hclear⟩ => hepisode hclear)
  case event =>
    have hl3 : s.tamp.l3 ≠ .none := by simp [hhold]
    rw [State.tamperEvent_of_clamps (State.clamps_of_l3 hl3 level)]
    exact ⟨State.noteEvent_quiet .., (State.noteEvent_l3 ..).trans hhold⟩
  case leaves =>
    obtain ⟨hl3, hclk, hpwr⟩ := State.holdExit_of_resetnLow (s := { s with pwr := { s.pwr with resetnLow := true } }) rfl
    refine ⟨_, (execResetnAssert_coldHold hhold hpower hhigh).trans (congrArg Host.Outcome.next (if_pos hquiet)), hl3, ?_⟩
    rw [hclk, hpwr]
    exact ⟨rfl, rfl, rfl, rfl⟩
  case early =>
    have hnot : ¬ s.tamp.quiet = true := by simp [hquiet]
    exact (execResetnAssert_coldHold hhold hpower hhigh).trans (congrArg Host.Outcome.next (if_neg hnot))
  case release =>
    have hstays := State.bootStep1_of_not_booting (s := { s with pwr := { s.pwr with resetnLow := false } }) hboot
    exact congrArg Host.Outcome.next hstays
  case powerOn => exact ⟨_, rfl, State.doReset_l3 ..⟩

end Sys2Proof.Proofs
end

section
/-! A move that issues (spec ch. 05): the state in which it does, what differs there from the state before, and the move's end. -/

namespace Sys2Proof.Machine

open Sys2Proof

/-! ## Nothing but the contexts changes -/

theorem State.onlyMoved.refl (s : State) (c : Ctx) : s.onlyMoved s c := ⟨rfl, fun _ => ⟨fun _ => rfl, rfl⟩⟩

theorem State.onlyMoved.trans {s t u : State} {c : Ctx} (hst : s.onlyMoved t c) (htu : t.onlyMoved u c) : s.onlyMoved u c := by
  obtain ⟨hframe, hctx⟩ := hst
  obtain ⟨hframe', hctx'⟩ := htu
  refine ⟨?_, fun d => ⟨fun hd => ((hctx' d).1 hd).trans ((hctx d).1 hd), (hctx' d).2.trans (hctx d).2⟩⟩
  rw [hframe] at hframe'
  exact hframe'

theorem State.onlyMoved_setRegs (s : State) (c : Ctx) (r : Regs) : s.onlyMoved (s.setRegs c r) c :=
  ⟨by cases c <;> rfl, fun d => ⟨fun hd => s.regs_setRegs_other hd r, s.pendOf_setRegs c d r⟩⟩

theorem State.onlyMoved_modRegs (s : State) (c : Ctx) (f : Regs → Regs) : s.onlyMoved (s.modRegs c f) c :=
  s.onlyMoved_setRegs c _

@[simp] theorem State.regs_modRegs_same (s : State) (c : Ctx) (f : Regs → Regs) : (s.modRegs c f).regs c = f (s.regs c) :=
  s.regs_setRegs_same c _

@[simp] theorem State.modRegs_mem (s : State) (c : Ctx) (f : Regs → Regs) : (s.modRegs c f).mem = s.mem := s.setRegs_mem c _

/-! ## The state in which a move issues -/

/-- The state in which the next move of a context that `issues` does so: a READY cask is RUNNING, the keystone's watchdog runs, and the
choices of the words to fetch are new. -/
def State.issued (s : State) (c : Ctx) : State := ((s.setRunning c).wdogFirst c).freshFetch c

theorem State.setRunning_eq (s : State) (c : Ctx) : s.setRunning c = { s with casks := (s.setRunning c).casks } := by
  cases c <;> rfl

theorem State.setRunning_cask (s : State) (c : Ctx) (m : Nat) :
    (s.setRunning c).cask m = { s.cask m with state := ((s.setRunning c).cask m).state } := by
  cases c with
  | keystone => rfl
  | cask n =>
    unfold State.setRunning State.modCask
    by_cases hm : m = n.toNat
    · rw [hm, State.cask_setCask_same]
      dsimp only
      split <;> rfl
    · rw [State.cask_setCask_other _ hm]

theorem State.wdogFirst_eq (s : State) (c : Ctx) : s.wdogFirst c = { s with pwr := (s.wdogFirst c).pwr } := by
  unfold State.wdogFirst
  split <;> rfl

theorem State.freshFetch_eq (s : State) (c : Ctx) : s.freshFetch c = { s with draw := (s.freshFetch c).draw } := by
  unfold State.freshFetch
  split <;> rfl

theorem State.freshFetch_draw (s : State) (c : Ctx) :
    (s.freshFetch c).draw = if tget s.stale (ctxNum c) [] = [] then s.draw else s.draw + 1 := by
  unfold State.freshFetch
  split <;> rfl

/-- Only cask states, the watchdog and the count of free values differ where a move issues. -/
theorem State.issued_eq (s : State) (c : Ctx) : s.issued c =
    { s with casks := (s.setRunning c).casks, pwr := (s.issued c).pwr, draw := (s.freshFetch c).draw } := by
  have hdraw : (s.issued c).draw = (s.freshFetch c).draw := by
    unfold State.issued
    rw [State.freshFetch_draw, State.freshFetch_draw, State.wdogFirst_eq, State.setRunning_eq]
  rw [← hdraw]
  unfold State.issued
  rw [State.freshFetch_eq, State.wdogFirst_eq, State.setRunning_eq]

theorem State.issued_cask (s : State) (c : Ctx) (m : Nat) :
    (s.issued c).cask m = { s.cask m with state := ((s.issued c).cask m).state } := by
  rw [State.issued_eq]
  exact s.setRunning_cask c m

@[simp] theorem State.regs_issued (s : State) (c d : Ctx) : (s.issued c).regs d = s.regs d := by
  cases d with
  | keystone => rw [State.issued_eq]; rfl
  | cask m => exact (congrArg Cask.regs (s.issued_cask c m.toNat) :)

@[simp] theorem State.pendOf_issued (s : State) (c d : Ctx) : (s.issued c).pendOf d = s.pendOf d := by
  cases d with
  | keystone => rw [State.issued_eq]; rfl
  | cask m => exact (congrArg Cask.pend (s.issued_cask c m.toNat) :)

theorem State.onlyMoved_issued (s : State) (c : Ctx) : s.onlyMoved (s.issued c) c :=
  ⟨by rw [State.issued_eq], fun d => ⟨fun _ => s.regs_issued c d, s.pendOf_issued c d⟩⟩

theorem State.setRunning_regs (s : State) (c : Ctx) : (s.setRunning c).regs c = s.regs c := by
  cases c with
  | keystone => rfl
  | cask n => exact (congrArg Cask.regs (s.setRunning_cask (.cask n) n.toNat) :)

theorem State.setRunning_evtLine (s : State) (c : Ctx) : (s.setRunning c).evtLine c = s.evtLine c := by
  have hpend : (s.setRunning c).pendOf c = s.pendOf c := by
    cases c with
    | keystone => rfl
    | cask n => exact (congrArg Cask.pend (s.setRunning_cask (.cask n) n.toNat) :)
  simp only [State.evtLine, State.setRunning_regs, hpend]

/-- A context that `issues` is ready, in the state its move issues in but for the choice of the words to fetch. -/
theorem State.ready_of_issues {s : State} {c : Ctx} (hs : s.issues c) : s.ready c = .ok ((s.setRunning c).wdogFirst c) := by
  obtain ⟨hmay, hfree, hevent, hstr⟩ := hs
  have hrun : s.canRun c = true := by simp [State.canRun, hmay]
  have hidle : ((s.setRunning c).regs c).str.busy = false := by rw [State.setRunning_regs, hstr]
  simp [State.ready, hrun, hfree, State.setRunning_evtLine, hevent, hidle]

theorem State.onMove_of_issues {s : State} {c : Ctx} (hs : s.issues c) (f : State → State) :
    s.onMove c f = .next (f (s.issued c)) := by
  rw [State.onMove, State.ready_of_issues hs]
  rfl

/-! ## What a move sees where it issues -/

@[simp] theorem State.issued_granted (s : State) (c d : Ctx) (g : Nat) : (s.issued c).granted d g = s.granted d g := by
  cases d with
  | keystone => rfl
  | cask n =>
    have hcls : ((s.issued c).cask n.toNat).cls = (s.cask n.toNat).cls := (congrArg Cask.cls (s.issued_cask c n.toNat) :)
    have hblk : (s.issued c).caskBlk = s.caskBlk := by rw [State.issued_eq]
    simp only [State.granted, hcls, hblk]

@[simp] theorem State.issued_mac (s : State) (c : Ctx) (i : Nat) : (s.issued c).mac i = s.mac i := by
  rw [State.issued_eq]
  rfl

@[simp] theorem macroSeen_issued (s : State) (c d : Ctx) (i : Nat) : macroSeen (s.issued c) d i = macroSeen s d i := by
  cases d with
  | keystone => simp only [macroSeen, State.issued_mac]
  | cask n =>
    have hcls : ((s.issued c).cask n.toNat).cls = (s.cask n.toNat).cls := (congrArg Cask.cls (s.issued_cask c n.toNat) :)
    simp only [macroSeen, State.issued_mac, hcls]

@[simp] theorem State.issued_portPermitted (s : State) (c d : Ctx) (p : Nat) :
    (s.issued c).portPermitted d p = s.portPermitted d p := by
  have hgranted : (s.issued c).granted d = s.granted d := funext (s.issued_granted c d)
  rw [State.portPermitted, State.portPermitted, hgranted]

/-- The encoding checks answer the same in the state in which the move issues. -/
@[simp] theorem State.issued_encFault (s : State) (c d : Ctx) (m : Mv) : (s.issued c).encFault d m = s.encFault d m := by
  simp only [State.encFault, State.regs_issued, State.issued_portPermitted, State.issued_mac, macroSeen_issued]

@[simp] theorem State.issued_fetchOk (s : State) (c : Ctx) (a : Word) : (s.issued c).fetchOk c a = s.fetchOk c a := by
  cases c with
  | keystone =>
    have hcasks : (s.issued .keystone).casks = s.casks := by rw [State.issued_eq]; rfl
    simp only [State.fetchOk, State.openSram, State.inSealed, hcasks]
  | cask n =>
    have hcode : ((s.issued (.cask n)).cask n.toNat).code = (s.cask n.toNat).code :=
      (congrArg Cask.code (s.issued_cask (.cask n) n.toNat) :)
    simp only [State.fetchOk, hcode]

@[simp] theorem State.issued_heldWord (s : State) (c : Ctx) (h : Held) (a : Word) :
    (s.issued c).heldWord c h a = (s.freshFetch c).heldWord c h a := by
  rw [State.issued_eq, State.freshFetch_eq]
  rfl

/-! ## The end of a move -/

/-- Of the repeat unit only CNT changes at the end of a move (R185, R186). -/
theorem rptStep_frame (r : Rpt) (pc : Word) (len : Nat) (branches : Bool) :
    (rptStep r pc len branches).1 = { r with cnt := (rptStep r pc len branches).1.cnt } := by
  unfold rptStep
  split
  · split <;> rfl
  · split <;> rfl

theorem rptStep_of_cnt_zero {r : Rpt} (hzero : r.cnt = 0) (pc : Word) (len : Nat) : rptStep r pc len false = (r, none) := by
  simp [rptStep, lastOfBody, hzero]

/-- The registers after a move that goes on in order, the prefetch window apart. -/
theorem State.retire_seq (s t : State) (c : Ctx) (len : Nat) :
    ∃ win : Held, s.retire t c len .seq = t.setRegs c { t.regs c with
      pc := (s.regs c).delay.getD
        ((rptStep (t.regs c).rpt (s.regs c).pc len false).2.getD ((s.regs c).pc + w32 (4 * len)))
      delay := none, rpt := (rptStep (t.regs c).rpt (s.regs c).pc len false).1, window := win, winValid := win.length
      sys := { (t.regs c).sys with moves := (t.regs c).sys.moves + 1 }
      mul := mulTick (t.regs c).mul, lsu := lsuTick (t.regs c).lsu } :=
  ⟨_, rfl⟩

/-- A one-word move that goes on in order ends as `movesTo` says of the registers its effect left, which kept the repeat count. -/
theorem State.retire_movesTo {s t : State} {c : Ctx} (hmoved : s.onlyMoved t c)
    (hcnt : (t.regs c).rpt.cnt = (s.regs c).rpt.cnt) : s.movesTo (s.retire t c 1 .seq) c (t.regs c) := by
  obtain ⟨win, hretire⟩ := s.retire_seq t c 1
  rw [hretire]
  refine ⟨hmoved.trans (t.onlyMoved_setRegs c _), ?goesOn, fun hdelay hzero => ?inOrder⟩
  case goesOn =>
    rw [State.regs_setRegs_same, Regs.goesOn, ← rptStep_frame]
  case inOrder =>
    rw [State.regs_setRegs_same, rptStep_of_cnt_zero (hcnt.trans hzero), hdelay]
    rfl

/-- What a move leaves of the state it issues in is what it leaves of the state before. -/
theorem State.movesTo_of_issued {s t : State} {c : Ctx} {r : Regs} (h : (s.issued c).movesTo t c r) : s.movesTo t c r := by
  obtain ⟨hmoved, hregs, horder⟩ := h
  rw [State.regs_issued] at horder
  exact ⟨(s.onlyMoved_issued c).trans hmoved, hregs, horder⟩

/-! ## Triggers of the core units -/

/-- A destination port of a core unit that is no branch: no grant and no place of the move refuses it (R140, R147, R165). -/
structure CorePort (p : Nat) : Prop where
  writes : portWrites p = true
  free   : portGrant p = none
  plain  : isBranch p = false

theorem State.encFault_value {p : Nat} (hp : CorePort p) (s : State) (c : Ctx) (b : Word) (width : Nat) :
    s.encFault c { src := .value b, width := width, dst := p } = none := by
  obtain ⟨hwrites, hfree, hplain⟩ := hp
  have heret : p ≠ 0x1C2 := by
    rintro rfl
    exact absurd hplain (by decide)
  simp [State.encFault, srcPort, State.portPermitted, hwrites, hfree, hplain, heret]

/-- A trigger that passes its checks writes the value moved to its port. -/
theorem State.trigger_of_issues {s : State} {c : Ctx} (hs : s.issues c) {p : Nat} (hp : CorePort p) (b : Word) :
    s.trigger c p 0 b = .next ((s.issued c).execMv c { src := .value b, width := 0, dst := p }) := by
  rw [State.trigger, State.onMove_of_issues hs, State.issueMv, State.encFault_value hp]
  rfl

/-- A trigger whose effect is on the registers alone and keeps the repeat count is a move that goes on in order. -/
theorem State.trigger_onRegs {s : State} {c : Ctx} (hs : s.issues c) {p : Nat} (hp : CorePort p) {b : Word} {f : Regs → Regs}
    (hwrite : ∀ t : State, t.portWrite c p 0 1 b = t.onRegs c f) (hcnt : (f (s.regs c)).rpt.cnt = (s.regs c).rpt.cnt) :
    ∃ t, s.trigger c p 0 b = .next t ∧ s.movesTo t c (f (s.regs c)) := by
  have hexec : (s.issued c).execMv c { src := .value b, width := 0, dst := p } =
      (s.issued c).retire ((s.issued c).modRegs c f) c 1 .seq := by
    simp only [State.execMv, State.mvRead, widen, ite_self, hwrite, State.onRegs]
  refine ⟨_, (State.trigger_of_issues hs hp b).trans (congrArg Host.Outcome.next hexec), State.movesTo_of_issued ?_⟩
  have hregs : ((s.issued c).modRegs c f).regs c = f (s.regs c) := by simp
  rw [← hregs]
  exact State.retire_movesTo (State.onlyMoved_modRegs ..) (by simpa using hcnt)

end Sys2Proof.Machine
end

section
/-! Products (spec ch. 05, R144, R168, R169): the multiply triggers, and when a product is seen. Statement O28. -/

namespace Sys2Proof.Machine

open Sys2Proof

theorem corePort_mul {k : Nat} (hk : k < 3) : CorePort (0x150 + k) := by
  obtain rfl | rfl | rfl : k = 0 ∨ k = 1 ∨ k = 2 := by omega
  all_goals exact ⟨rfl, rfl, rfl⟩

/-- A multiply trigger puts its product on its way, behind those already there (R169). -/
theorem State.trigger_mul {s : State} {c : Ctx} (hs : s.issues c) {k : Nat} (hk : k < 3) (b : Word) :
    ∃ t, s.trigger c (0x150 + k) 0 b = .next t ∧
      s.movesTo t c { s.regs c with mul := mulRun (mulOps.getD k .s) (s.regs c).mul b } := by
  refine State.trigger_onRegs hs (corePort_mul hk)
    (f := fun r => { r with mul := mulRun (mulOps.getD k .s) r.mul b }) (fun t => ?_) rfl
  have halu : within (0x150 + k) 0x110 0x126 = false := by simp [within]; omega
  have hmul : within (0x150 + k) 0x150 0x152 = true := by simp [within]; omega
  simp [State.portWrite, halu, hmul]

theorem ofInt_toInt_mul (a b : Word) : BitVec.ofInt 64 (a.toInt * b.toInt) = a.signExtend 64 * b.signExtend 64 := by
  rw [BitVec.ofInt_mul]
  rfl

theorem ofNat_toNat_mul (a b : Word) : BitVec.ofNat 64 (a.toNat * b.toNat) = a.zeroExtend 64 * b.zeroExtend 64 := by
  rw [BitVec.ofNat_mul, BitVec.ofNat_toNat, BitVec.ofNat_toNat]

/-! ## When a product is seen -/

/-- The multiply unit with one product more on its way, the youngest. -/
def Mul.onWay (m : Mul) (v : Dword) (delay : Nat) : Mul := { m with pend := m.pend ++ [{ value := v, delay := delay }] }

/-- While a product is more than one move away, a move brings it nearer and shows what it shows without it. -/
theorem mulTick_on_way (m : Mul) (v : Dword) (d : Nat) : mulTick (m.onWay v (d + 2)) = (mulTick m).onWay v (d + 1) := by
  simp [mulTick, Mul.onWay]

/-- The youngest product, one move away, is what the next move shows. -/
theorem mulTick_due (m : Mul) (v : Dword) : (mulTick (m.onWay v 1)).p = v := by
  simp [mulTick, Mul.onWay]

theorem mulLatest_onWay (m : Mul) (v : Dword) (d : Nat) : mulLatest (m.onWay v (d + 1)) = v := by
  simp [mulLatest, Mul.onWay]

theorem State.portRead_mul (s : State) (c : Ctx) :
    s.portRead c 0x141 = .value (loW (s.regs c).mul.p) s none ∧ s.portRead c 0x142 = .value (hiW (s.regs c).mul.p) s none := by
  constructor <;> simp [State.portRead, within, State.coreRead]

end Sys2Proof.Machine

namespace Sys2Proof.Proofs

open Sys2Proof Sys2Proof.Machine

/-- Settles O28: a trigger appends its product, and a move ages all products alike. -/
theorem multiplyDelay : Obligations.MultiplyDelay := by
  refine ⟨fun s c b hs => ?triggers, fun m v _ => ?seen, State.portRead_mul⟩
  case triggers =>
    intro r prod i v hi
    simp only [List.mem_cons, Prod.mk.injEq, List.not_mem_nil, or_false] at hi
    rcases hi with ⟨rfl, rfl⟩ | ⟨rfl, rfl⟩ | ⟨rfl, rfl⟩
    case inl =>
      rw [show prod = _ from ofInt_toInt_mul ..]
      exact State.trigger_mul hs (k := 0) (by decide) b
    case inr.inl =>
      rw [ofNat_toNat_mul]
      exact State.trigger_mul hs (k := 1) (by decide) b
    case inr.inr =>
      rw [show prod = _ from ofInt_toInt_mul ..]
      exact State.trigger_mul hs (k := 2) (by decide) b
  case seen =>
    have hone : mulTick (m.onWay v 3) = (mulTick m).onWay v 2 := mulTick_on_way m v 1
    have htwo : mulTick (mulTick (m.onWay v 3)) = (mulTick (mulTick m)).onWay v 1 := by rw [hone, mulTick_on_way _ v 0]
    have hthree : (mulTick (mulTick (mulTick (m.onWay v 3)))).p = v := by rw [htwo, mulTick_due]
    exact ⟨(congrArg Mul.p hone :), (congrArg Mul.p htwo :), hthree, mulLatest_onWay m v 2⟩

end Sys2Proof.Proofs
end

section
/-! Taking an exception (spec ch. 05, R157-R161, R187): the frame in memory, the fallback frame and handler mode. Statement O31. -/

namespace Sys2Proof.Machine

open Sys2Proof

/-! ## Reads of stored bytes -/

theorem leNat_leBytes (n v : Nat) : leNat (leBytes n v) = v % 256 ^ n := by
  induction n generalizing v with
  | zero => simp [leBytes, leNat, Nat.mod_one]
  | succ n ih => simp [leBytes, leNat, ih, Nat.pow_succ', Nat.mod_mul]

/-- A word is read back from its four bytes. -/
theorem leNat_leBytes_word (w : Word) : leNat (leBytes 4 w.toNat) = w.toNat := by
  rw [leNat_leBytes]
  exact Nat.mod_eq_of_lt w.isLt

/-- Bytes within a store read as stored. -/
theorem State.rdBytes_of_splice {t : State} {m : List Host.Cell} {a : Nat} {bs : Bytes} (hmem : t.mem = memSplice m a bs)
    {k n : Nat} (hin : k + n ≤ bs.length) : t.rdBytes (a + k) n = (bs.drop k).take n := by
  have hlength : n ≤ bs.length - k := by omega
  refine List.ext_getElem (by simp [State.rdBytes, hlength]) fun i hi _ => ?_
  have hi' : i < n := by simpa [State.rdBytes] using hi
  have hread := memRead_splice_in m a bs (k + i) (by omega)
  simpa [State.rdBytes, State.rd, hmem, Nat.add_assoc] using hread

/-- Bytes outside a store read as before. -/
theorem State.rd_of_splice {s t : State} {a : Nat} {bs : Bytes} (hmem : t.mem = memSplice s.mem a bs) {x : Nat}
    (hout : x < a ∨ a + bs.length ≤ x) : t.rd x = s.rd x := by
  rw [State.rd, hmem]
  exact memRead_splice_out s.mem a bs x hout

@[simp] theorem State.store_mem (s : State) (who : Option Ctx) (a : Nat) (bs : Bytes) :
    (s.store who a bs).mem = memSplice s.mem a bs := by
  obtain ⟨stale, hstore⟩ := s.store_eq who a bs
  rw [hstore]
  rfl

@[simp] theorem State.regs_store (s : State) (who : Option Ctx) (a : Nat) (bs : Bytes) (c : Ctx) :
    (s.store who a bs).regs c = s.regs c := by
  obtain ⟨stale, hstore⟩ := s.store_eq who a bs
  rw [hstore]
  cases c <;> rfl

/-! ## The fallback frame (R158 steps 2 and 3) -/

theorem State.regs_toFallback (s : State) (c : Ctx) (f : Frame4) (fault : Nat) :
    (s.toFallback c f fault).regs c = { s.regs c with fallback := f, fbValid := true, fault := byte fault } := by
  cases c with
  | keystone => rfl
  | cask n =>
    change ((State.setCask _ n.toNat _).cask n.toNat).regs = _
    rw [State.cask_setCask_same]
    exact s.regs_modRegs_same (.cask n) _

@[simp] theorem State.toFallback_mem (s : State) (c : Ctx) (f : Frame4) (fault : Nat) : (s.toFallback c f fault).mem = s.mem := by
  cases c <;> rfl

/-- A cask whose frame went to the fallback frame is FAULTED and listed, and keystone code is told (R218). -/
theorem State.toFallback_cask (s : State) (n : BitVec 10) (f : Frame4) (fault : Nat) :
    ((s.toFallback (.cask n) f fault).cask n.toNat).state = .faulted ∧
    n.toNat ∈ (s.toFallback (.cask n) f fault).caskBlk.faulted ∧ bit (s.toFallback (.cask n) f fault).ks.pend 1 = true := by
  refine ⟨congrArg Cask.state (State.cask_setCask_same ..), List.mem_cons_self, ?_⟩
  change bit (_ ||| oneHot lineCaskFault) lineCaskFault = true
  rw [bit, BitVec.getLsbD_or, show (oneHot lineCaskFault).getLsbD lineCaskFault = true from rfl, Bool.or_true]

/-! ## Handler mode (R158 step 4) -/

/-- The 16 bytes of a frame in the stack (R157). -/
def Frame4.bytes (f : Frame4) : Bytes :=
  leBytes 4 f.pc.toNat ++ leBytes 4 f.cause.toNat ++ leBytes 4 f.addr.toNat ++ leBytes 4 f.rpt.toNat

theorem State.enterHandler_mem (s : State) (c : Ctx) (f : Frame4) :
    (s.enterHandler c f).mem = memSplice s.mem (getG (s.regs c) 30 - 16).toNat f.bytes := by
  unfold State.enterHandler
  simp only [State.modRegs_mem, State.store_mem]
  rfl

theorem State.regs_enterHandler (s : State) (c : Ctx) (f : Frame4) :
    (s.enterHandler c f).regs c = { setG (s.regs c) 30 (getG (s.regs c) 30 - 16) with
      pc := (s.regs c).sys.evec, window := [], winValid := 0, delay := none
      sys := { (s.regs c).sys with handler := true }
      aside := some { p := (s.regs c).mul.p, mpend := (s.regs c).mul.pend, r := (s.regs c).lsu.r, lpend := (s.regs c).lsu.pend } } := by
  unfold State.enterHandler
  simp only [State.regs_modRegs_same, State.regs_store]

/-- The words of a frame whose bytes are stored at `a`. -/
theorem Frame4.words_of_splice {t : State} {m : List Host.Cell} {a : Nat} {f : Frame4} (hmem : t.mem = memSplice m a f.bytes) :
    t.rdLe a 4 = f.pc.toNat ∧ t.rdLe (a + 4) 4 = f.cause.toNat ∧ t.rdLe (a + 8) 4 = f.addr.toNat ∧
    t.rdLe (a + 12) 4 = f.rpt.toNat := by
  have hword {k : Nat} {w : Word} (hk : k + 4 ≤ 16) (hw : (f.bytes.drop k).take 4 = leBytes 4 w.toNat) :
      t.rdLe (a + k) 4 = w.toNat := by
    rw [State.rdLe, State.rdBytes_of_splice hmem (by simpa [Frame4.bytes] using hk), hw, leNat_leBytes_word]
  exact ⟨hword (k := 0) (by decide) rfl, hword (by decide) rfl, hword (by decide) rfl, hword (by decide) rfl⟩

theorem getG_setG_same (r : Regs) {i : Nat} (hi : i ≠ 0) (v : Word) : getG (setG r i v) i = v := by
  simp [getG, setG, hi]

theorem setG_rpt (r : Regs) (i : Nat) (v : Word) : (setG r i v).rpt = r.rpt := by
  unfold setG
  split <;> rfl

/-! ## Taking an exception -/

/-- The registers of a context as it takes an exception: a string operation yields, the repeat ends, and a pending branch target goes
to SYS.EPEND (R158, R187, R192). -/
def Regs.faulting (r : Regs) (code : Nat) : Regs :=
  { r with
    str := { r.str with busy := false }
    rpt := { r.rpt with cnt := 0 }
    sys := { r.sys with epend := if r.delay.isSome && decide (code < excEvent) then r.delay.getD 0 else r.sys.epend } }

theorem State.stackHolds_setRegs (s : State) (c : Ctx) (r : Regs) (a : Nat) (write : Bool) :
    (s.setRegs c r).stackHolds c a write = s.stackHolds c a write := by
  cases c with
  | keystone => rfl
  | cask n => simp [State.setRegs, State.stackHolds]

/-- An exception outside a handler, or an event, goes to the fallback frame or to the handler (R158). -/
theorem State.takeException_eq {s : State} {c : Ctx} {code : Nat} (hcode : code ≠ excHaltDouble)
    (hplain : (s.regs c).sys.handler = false ∨ excEvent ≤ code) (port : Nat) (addr : Word) :
    s.takeException c code port addr =
      if (s.regs c).sys.evec = 0 then
        (s.setRegs c ((s.regs c).faulting code)).toFallback c (frameOf (s.regs c) code port addr) code
      else if (getG (s.regs c) 30).toNat % 4 ≠ 0 ∨ ¬ s.stackHolds c (getG (s.regs c) 30 - 16).toNat true then
        (s.setRegs c ((s.regs c).faulting code)).toFallback c (frameOf (s.regs c) code port addr) excStackFault
      else (s.setRegs c ((s.regs c).faulting code)).enterHandler c (frameOf (s.regs c) code port addr) := by
  have hno : ¬ (code = excHaltDouble ∨ ((s.regs c).sys.handler ∧ code < excEvent)) := by
    rintro (h | ⟨hhandler, hbelow⟩)
    · exact hcode h
    · rcases hplain with h | h
      · simp [h] at hhandler
      · omega
  rw [← s.stackHolds_setRegs c ((s.regs c).faulting code)]
  exact if_neg hno

/-- The repeat has ended, and a pending branch target stands in SYS.EPEND, whichever way the exception goes. -/
theorem State.takeException_rpt_epend {s : State} {c : Ctx} {code : Nat} (hcode : code ≠ excHaltDouble)
    (hplain : (s.regs c).sys.handler = false ∨ excEvent ≤ code) (port : Nat) (addr : Word) :
    ((s.takeException c code port addr).regs c).rpt = ((s.regs c).faulting code).rpt ∧
    ((s.takeException c code port addr).regs c).sys.epend = ((s.regs c).faulting code).sys.epend := by
  have hback (fault : Nat) (f : Frame4) := State.regs_toFallback (s.setRegs c ((s.regs c).faulting code)) c f fault
  have henter (f : Frame4) := State.regs_enterHandler (s.setRegs c ((s.regs c).faulting code)) c f
  rw [State.regs_setRegs_same] at hback henter
  rw [State.takeException_eq hcode hplain]
  split
  · rw [hback]
    exact ⟨rfl, rfl⟩
  · split
    · rw [hback]
      exact ⟨rfl, rfl⟩
    · rw [henter]
      exact ⟨setG_rpt .., rfl⟩

theorem Regs.faulting_epend {r : Regs} {code : Nat} {d : Word} (hdelay : r.delay = some d) (hbelow : code < excEvent) :
    (r.faulting code).sys.epend = d := by
  simp [Regs.faulting, hdelay, hbelow]

/-- In `t` the frame `f` of an exception stands in the fallback frame of `c` with the fault code: memory and g30 are as in `s`, and a
cask is FAULTED and keystone code told (R158 steps 2 and 3, R218). -/
structure State.FallsBack (s t : State) (c : Ctx) (f : Frame4) (fault : Nat) : Prop where
  frame : (t.regs c).fallback = f
  valid : (t.regs c).fbValid = true
  code  : (t.regs c).fault = byte fault
  mem   : t.mem = s.mem
  g30   : getG (t.regs c) 30 = getG (s.regs c) 30
  cask  : ∀ n, c = .cask n → (t.cask n.toNat).state = .faulted ∧ n.toNat ∈ t.caskBlk.faulted ∧ bit t.ks.pend 1 = true

theorem State.fallsBack_toFallback (s : State) (c : Ctx) (exc : Nat) (f : Frame4) (fault : Nat) :
    s.FallsBack ((s.setRegs c ((s.regs c).faulting exc)).toFallback c f fault) c f fault := by
  have hregs := State.regs_toFallback (s.setRegs c ((s.regs c).faulting exc)) c f fault
  rw [State.regs_setRegs_same] at hregs
  exact ⟨(congrArg Regs.fallback hregs :), (congrArg Regs.fbValid hregs :), (congrArg Regs.fault hregs :),
    (State.toFallback_mem ..).trans (s.setRegs_mem ..), (congrArg (getG · 30) hregs :),
    fun n hn => by subst hn; exact State.toFallback_cask ..⟩

/-- An exception with EVEC 0 goes to the fallback frame with its own code (R158 step 2). -/
theorem State.takeException_noVector {s : State} {c : Ctx} {code : Nat} (hcode : code ≠ excHaltDouble)
    (hplain : (s.regs c).sys.handler = false ∨ excEvent ≤ code) (port : Nat) (addr : Word) (hevec : (s.regs c).sys.evec = 0) :
    s.FallsBack (s.takeException c code port addr) c (frameOf (s.regs c) code port addr) code := by
  rw [State.takeException_eq hcode hplain, if_pos hevec]
  exact s.fallsBack_toFallback c code _ code

/-- An exception whose frame the stack does not take goes to the fallback frame with STACK_FAULT (R158 step 3). -/
theorem State.takeException_badStack {s : State} {c : Ctx} {code : Nat} (hcode : code ≠ excHaltDouble)
    (hplain : (s.regs c).sys.handler = false ∨ excEvent ≤ code) (port : Nat) (addr : Word) (hevec : (s.regs c).sys.evec ≠ 0)
    (hstack : (getG (s.regs c) 30).toNat % 4 ≠ 0 ∨ s.stackHolds c (getG (s.regs c) 30 - 16).toNat true = false) :
    s.FallsBack (s.takeException c code port addr) c (frameOf (s.regs c) code port addr) excStackFault := by
  rw [State.takeException_eq hcode hplain, if_neg hevec, if_pos (by simpa using hstack)]
  exact s.fallsBack_toFallback c code _ excStackFault

/-- In `t` the frame `f` of an exception stands in the stack of `c` below g30 and its handler begins: no other byte than the frame's has
changed (R158 step 4). -/
structure State.EntersHandler (s t : State) (c : Ctx) (f : Frame4) : Prop where
  mem     : t.mem = memSplice s.mem (getG (s.regs c) 30 - 16).toNat f.bytes
  g30     : getG (t.regs c) 30 = getG (s.regs c) 30 - 16
  handler : (t.regs c).sys.handler = true
  pc      : (t.regs c).pc = (s.regs c).sys.evec
  window  : (t.regs c).winValid = 0

theorem State.entersHandler_enterHandler (s : State) (c : Ctx) (exc : Nat) (f : Frame4) :
    s.EntersHandler ((s.setRegs c ((s.regs c).faulting exc)).enterHandler c f) c f := by
  have hregs := State.regs_enterHandler (s.setRegs c ((s.regs c).faulting exc)) c f
  have hmem := State.enterHandler_mem (s.setRegs c ((s.regs c).faulting exc)) c f
  rw [State.regs_setRegs_same] at hregs hmem
  rw [State.setRegs_mem] at hmem
  exact ⟨hmem, (congrArg (getG · 30) hregs).trans (getG_setG_same _ (by decide) _), (congrArg (·.sys.handler) hregs :),
    (congrArg Regs.pc hregs :), (congrArg Regs.winValid hregs :)⟩

/-- Every other exception enters the handler. -/
theorem State.takeException_handler {s : State} {c : Ctx} {code : Nat} (hcode : code ≠ excHaltDouble)
    (hplain : (s.regs c).sys.handler = false ∨ excEvent ≤ code) (port : Nat) (addr : Word) (hevec : (s.regs c).sys.evec ≠ 0)
    (haligned : (getG (s.regs c) 30).toNat % 4 = 0) (hholds : s.stackHolds c (getG (s.regs c) 30 - 16).toNat true = true) :
    s.EntersHandler (s.takeException c code port addr) c (frameOf (s.regs c) code port addr) := by
  rw [State.takeException_eq hcode hplain, if_neg hevec, if_neg (not_or_intro (not_not_intro haligned) (not_not_intro hholds))]
  exact s.entersHandler_enterHandler c code _

theorem corePort_sysTrap : CorePort 0x301 := ⟨rfl, rfl, rfl⟩

/-- SYS.TRAP takes its exception with the value moved as the fault address (R195). -/
theorem State.trigger_sysTrap {s : State} {c : Ctx} (hs : s.issues c) (b : Word) :
    s.trigger c 0x301 0 b = .next ((s.issued c).takeException c excTrap 0 b) :=
  State.trigger_of_issues hs corePort_sysTrap b

end Sys2Proof.Machine

namespace Sys2Proof.Proofs

open Sys2Proof Sys2Proof.Machine

/-- Settles O31: the ways an exception can go, and SYS.TRAP as a trigger that faults. -/
theorem exceptionEntry : Obligations.ExceptionEntry := by
  intro s c r sp
  refine ⟨?entry, fun b hs => ⟨_, State.trigger_sysTrap hs b, s.regs_issued c c, s.onlyMoved_issued c⟩⟩
  intro code port addr _ hcode hplain inDelay f t
  obtain ⟨hrpt, hepend⟩ := State.takeException_rpt_epend hcode hplain port addr
  refine ⟨hrpt, fun d hdelay hbelow => hepend.trans (Regs.faulting_epend hdelay hbelow), fun hevec => ?noVector,
    fun hevec hstack => ?badStack, fun hevec haligned hholds => ?handler⟩
  case noVector =>
    obtain ⟨hframe, hvalid, hfault, hmem, hg30, hcask⟩ := State.takeException_noVector hcode hplain port addr hevec
    exact ⟨hframe, hvalid, hfault, hmem, hg30, hcask⟩
  case badStack =>
    obtain ⟨hframe, -, hfault, hmem, hg30, hcask⟩ := State.takeException_badStack hcode hplain port addr hevec hstack
    refine ⟨hframe, hfault, hmem, hg30, fun n hn => ?_⟩
    obtain ⟨hstate, -, hline⟩ := hcask n hn
    exact ⟨hstate, hline⟩
  case handler =>
    obtain ⟨hmem, hg30, hhandler, hpc, hwindow⟩ :=
      State.takeException_handler hcode hplain port addr hevec haligned hholds
    obtain ⟨hword0, hword1, hword2, hword3⟩ := Frame4.words_of_splice hmem
    exact ⟨hword0, hword1, hword2, hword3, fun x hx => State.rd_of_splice hmem hx, hg30, hhandler, hpc, hwindow⟩

end Sys2Proof.Proofs
end

section
/-! MOVE_ISSUE of a one-word move (spec ch. 05, R128-R131, R149, R156): the words fetched, the encoding checks and a guard that fails.
Statement O32. -/

namespace Sys2Proof.Machine

open Sys2Proof

theorem moveOf_of_long_form {w : Word} (hform : mvForm w = 2) (next : Word) : moveOf w next =
    if mvGuard w = 8 then .error excIllegalGuard
    else if mvSrc w ≠ 0 then .error excIllegalForm
    else .ok { guard := mvGuard w, src := .value next, width := mvWidth w, dst := mvDst w, len := 2 } := by
  rw [moveOf, hform]
  rfl

/-- A move of one word has not the form of a long immediate (R131). -/
theorem mvForm_ne_of_one_word {w next : Word} {m : Mv} (hm : moveOf w next = .ok m) (hlen : m.len = 1) : mvForm w ≠ 2 := by
  intro hform
  rw [moveOf_of_long_form hform] at hm
  split at hm
  · cases hm
  · split at hm
    · cases hm
    · cases hm
      cases hlen

section

variable {s : State} {c : Ctx} {w : Word} (hs : s.issues c) (hfetch : s.fetchOk c (s.regs c).pc = true)
  (hw : (s.freshFetch c).heldWord c (windowOf (s.regs c)) (s.regs c).pc = w) (hform : mvForm w ≠ 2)

include hs hfetch hw hform

/-- A word at PC that spells no move raises its exception (R131, R156). -/
theorem execMoveIssue_illegal {code : Nat}
    (hm : moveOf w ((s.freshFetch c).heldWord c (windowOf (s.regs c)) ((s.regs c).pc + 4)) = .error code) :
    execMoveIssue c false false s = .next ((s.issued c).takeException c code 0 0) := by
  rw [execMoveIssue, State.onMove_of_issues hs]
  simp only [State.fetchMv, State.regs_issued, State.issued_heldWord, State.issued_fetchOk, hfetch, hw, hform, hm,
    not_true_eq_false, Bool.false_eq_true, or_self, false_and, if_false]

/-- A word at PC that spells a move issues it. -/
theorem execMoveIssue_legal {m : Mv}
    (hm : moveOf w ((s.freshFetch c).heldWord c (windowOf (s.regs c)) ((s.regs c).pc + 4)) = .ok m) :
    execMoveIssue c false false s = .next ((s.issued c).issueMv c m) := by
  rw [execMoveIssue, State.onMove_of_issues hs]
  simp only [State.fetchMv, State.regs_issued, State.issued_heldWord, State.issued_fetchOk, hfetch, hw, hform, hm,
    not_true_eq_false, Bool.false_eq_true, or_self, false_and, if_false]

end

/-- A one-word move that passes its checks and whose guard fails goes on in order (R130). -/
theorem State.issueMv_guarded_off {s : State} {c : Ctx} {m : Mv} (hfault : s.encFault c m = none) (hlen : m.len = 1)
    (hguard : guardOk (getG (s.regs c)) m.guard = false) : s.movesTo (s.issueMv c m) c (s.regs c) := by
  have hissue : s.issueMv c m = s.retire s c 1 .seq := by simp [State.issueMv, hfault, hguard, hlen]
  rw [hissue]
  exact State.retire_movesTo (State.onlyMoved.refl s c) rfl

end Sys2Proof.Machine

namespace Sys2Proof.Proofs

open Sys2Proof Sys2Proof.Machine

/-- Settles O32: the checks come before the guard, and a guard that fails leaves only the end of the move. -/
theorem guardedOff : Obligations.GuardedOff := by
  intro s c w m hs r hfetch hw
  refine ⟨fun hm hlen hguard hfault => ?guard, fun code hform hm => ?illegal, fun code port hform hm hfault => ?refused⟩
  case guard =>
    have hexec := execMoveIssue_legal hs hfetch hw (mvForm_ne_of_one_word hm hlen) hm
    have hmoves : (s.issued c).movesTo _ c ((s.issued c).regs c) :=
      State.issueMv_guarded_off (by rwa [State.issued_encFault]) hlen (by rwa [State.regs_issued])
    rw [State.regs_issued] at hmoves
    exact ⟨_, hexec, State.movesTo_of_issued hmoves⟩
  case illegal => exact ⟨_, execMoveIssue_illegal hs hfetch hw hform hm, s.regs_issued c c, s.onlyMoved_issued c⟩
  case refused =>
    have hexec := execMoveIssue_legal hs hfetch hw hform hm
    have hissue : (s.issued c).issueMv c m = (s.issued c).takeException c code port 0 := by
      simp [State.issueMv, hfault]
    exact ⟨_, hexec.trans (congrArg Host.Outcome.next hissue), s.regs_issued c c, s.onlyMoved_issued c⟩

end Sys2Proof.Proofs
end

section
/-! ALU triggers (spec ch. 06, R166, R167): what a trigger leaves, the results of the comparisons, and the triggers that keep the carry.
Statement O27. -/

namespace Sys2Proof.Machine

open Sys2Proof

/-! ## A trigger runs its operation -/

/-- The command that moves `b` into an operation's trigger. -/
def AluOp.instr (c : Ctx) (b : Word) : AluOp → Instr
  | .add => .aluAdd c b
  | .sub => .aluSub c b
  | .addc => .aluAddc c b
  | .subb => .aluSubb c b
  | .and => .aluAnd c b
  | .or => .aluOr c b
  | .xor => .aluXor c b
  | .andn => .aluAndn c b
  | .shl => .aluShl c b
  | .shr => .aluShr c b
  | .sar => .aluSar c b
  | .ror => .aluRor c b
  | .clz => .aluClz c b
  | .popc => .aluPopc c b
  | .min => .aluMin c b
  | .max => .aluMax c b
  | .eq => .aluEq c b
  | .ne => .aluNe c b
  | .lt => .aluLt c b
  | .ltu => .aluLtu c b
  | .ge => .aluGe c b
  | .geu => .aluGeu c b
  | .bit => .aluBit c b

/-- The trigger port of an operation. -/
def AluOp.port (op : AluOp) : Nat := 0x110 + op.ctorIdx

theorem exec_aluInstr (op : AluOp) (c : Ctx) (b : Word) (s : State) : exec (op.instr c b) s = s.trigger c op.port 0 b := by
  cases op <;> rfl

theorem AluOp.corePort (op : AluOp) : CorePort op.port := by
  cases op <;> exact ⟨rfl, rfl, rfl⟩

theorem AluOp.within_port (op : AluOp) : within op.port 0x110 0x126 = true := by
  cases op <;> rfl

theorem aluOps_port (op : AluOp) : aluOps.getD (op.port - 0x110) .add = op := by
  cases op <;> rfl

/-- An ALU trigger runs its operation on ALU.A and the value moved, and is otherwise a move that goes on in order (R166). -/
theorem exec_aluInstr_of_issues {s : State} {c : Ctx} (hs : s.issues c) (op : AluOp) (b : Word) :
    ∃ t, exec (op.instr c b) s = .next t ∧ s.movesTo t c { s.regs c with alu := aluRun op (s.regs c).alu b } := by
  rw [exec_aluInstr]
  refine State.trigger_onRegs hs op.corePort (f := fun r => { r with alu := aluRun op r.alu b }) (fun t => ?_) rfl
  simp only [State.portWrite, op.within_port, aluOps_port, if_true]

/-! ## Comparisons -/

/-- What each comparison of `a` with `b` asks, signed or, for U, unsigned; BIT asks for the bit of `a` that `b` names (R166). -/
def comparisons (a b : Word) : List (AluOp × Bool) :=
  [(.eq, decide (a = b)), (.ne, decide (a ≠ b)), (.lt, decide (a.toInt < b.toInt)), (.ltu, decide (a.toNat < b.toNat)),
    (.ge, decide (b.toInt ≤ a.toInt)), (.geu, decide (b.toNat ≤ a.toNat)), (.bit, a.getLsbD (b.toNat % 32))]

theorem boolWord_eq (p : Bool) : boolWord p = if p then 1 else 0 := by
  cases p <;> rfl

theorem fld_shift_amount (b : Word) : fld b 0 5 = b.toNat % 32 := rfl

theorem not_slt (a b : Word) : (!a.slt b) = decide (b.toInt ≤ a.toInt) := by
  rw [BitVec.slt, ← decide_not]
  exact decide_eq_decide.mpr Int.not_lt

theorem not_ult (a b : Word) : (!a.ult b) = decide (b.toNat ≤ a.toNat) := by
  rw [BitVec.ult, ← decide_not]
  exact decide_eq_decide.mpr Nat.not_lt

/-- A comparison answers 1 or 0 and sets no carry (R167). -/
theorem aluResult_comparison {a b : Word} {op : AluOp} {p : Bool} (hop : (op, p) ∈ comparisons a b) (cy : Bool) :
    aluResult op a b cy = (if p then 1 else 0, none) := by
  rw [← boolWord_eq]
  simp only [comparisons, List.mem_cons, Prod.mk.injEq, List.not_mem_nil, or_false] at hop
  rcases hop with ⟨rfl, rfl⟩ | ⟨rfl, rfl⟩ | ⟨rfl, rfl⟩ | ⟨rfl, rfl⟩ | ⟨rfl, rfl⟩ | ⟨rfl, rfl⟩ | ⟨rfl, rfl⟩
  case inl => rfl
  case inr.inl => rw [decide_not]; rfl
  case inr.inr.inl => rfl
  case inr.inr.inr.inl => rfl
  case inr.inr.inr.inr.inl => rw [← not_slt]; rfl
  case inr.inr.inr.inr.inr.inl => rw [← not_ult]; rfl
  case inr.inr.inr.inr.inr.inr => rw [← fld_shift_amount]; rfl

theorem aluRun_comparison {x : Alu} {b : Word} {op : AluOp} {p : Bool} (hop : (op, p) ∈ comparisons x.a b) :
    aluRun op x b = { a := x.a, r := if p then 1 else 0, c := x.c } := by
  rw [aluRun, aluResult_comparison hop]
  rfl

/-! ## The carry -/

/-- Only ADD, SUB, ADDC and SUBB change ALU.C (R167). -/
theorem aluRun_keeps_carry {op : AluOp} (hop : op ∉ [AluOp.add, .sub, .addc, .subb]) (x : Alu) (b : Word) :
    (aluRun op x b).c = x.c := by
  have hnone : (aluResult op x.a b x.c).2 = none := by
    cases op
    case add | sub | addc | subb => exact absurd (by decide) hop
    all_goals rfl
  rw [aluRun, hnone]
  rfl

/-- The triggers of logic and shifts, and CLZ, POPC, MIN and MAX. -/
def logicOps : List AluOp := [.and, .or, .xor, .andn, .shl, .shr, .sar, .ror, .clz, .popc, .min, .max]

theorem logicOps_no_carry : ∀ op ∈ logicOps, op ∉ [AluOp.add, .sub, .addc, .subb] := by decide

end Sys2Proof.Machine

namespace Sys2Proof.Proofs

open Sys2Proof Sys2Proof.Machine

/-- Settles O27: both lists of the statement are tables of operations, and every trigger runs its operation. -/
theorem aluCompare : Obligations.AluCompare := by
  intro s c b hs r a
  refine ⟨fun i p hi => ?compares, fun i hi => ?keepsCarry⟩
  case compares =>
    have htable : (i, p) ∈ (comparisons a b).map (Prod.map (AluOp.instr c b) id) := hi
    obtain ⟨⟨op, q⟩, hop, heq⟩ := List.mem_map.mp htable
    cases heq
    have hexec := exec_aluInstr_of_issues hs op b
    rwa [aluRun_comparison hop] at hexec
  case keepsCarry =>
    have htable : i ∈ logicOps.map (AluOp.instr c b) := hi
    obtain ⟨op, hop, rfl⟩ := List.mem_map.mp htable
    obtain ⟨t, hexec, -, hregs, -⟩ := exec_aluInstr_of_issues hs op b
    have hcarry : (t.regs c).alu = aluRun op r.alu b := (congrArg Regs.alu hregs :)
    exact ⟨t, hexec, by rw [hcarry, aluRun_keeps_carry (logicOps_no_carry op hop)]⟩

end Sys2Proof.Proofs
end

section
/-! Jobs of the press (spec ch. 10, R321-R343, R346): what jobs that go on leave unchanged, which turn a waiting job takes, the order
of the checks of a submitted job, and what CANCEL ends. Statement O45. -/

namespace Sys2Proof.Machine

open Sys2Proof

/-! ## Tables -/

theorem tset_tset {α : Type} (t : Tab α) (k : Nat) (a b : α) : tset (tset t k a) k b = tset t k b := by
  induction t with
  | nil => simp [tset]
  | cons e t ih =>
    obtain ⟨j, w⟩ := e
    by_cases heq : j = k
    · simp [tset, heq]
    · by_cases hlt : k < j
      · simp [tset, heq, hlt]
      · simp [tset, heq, hlt, ih]

/-- A table whose keys rise reads what it lists. -/
theorem tget_of_mem {α : Type} {t : Tab α} (hrise : keysRise t) {e : Nat × α} (he : e ∈ t) (d : α) : tget t e.1 d = e.2 := by
  induction t with
  | nil => cases he
  | cons f t ih =>
    obtain ⟨hfirst, hrest⟩ := List.pairwise_cons.mp hrise
    rcases List.mem_cons.mp he with rfl | ht
    · simp [tget]
    · simp [tget, Nat.ne_of_lt (hfirst e ht), ih hrest ht]

theorem mem_of_choose {α : Type} {k : Nat} {l : List α} {a : α} (h : choose k l = some a) : a ∈ l := by
  match l, h with
  | [_], h => simp_all [choose]
  | x :: y :: l, h =>
    have hlt : k % (l.length + 2) < (x :: y :: l).length := Nat.mod_lt k (Nat.succ_pos _)
    rw [choose, List.getD_eq_getElem?_getD, List.getElem?_eq_getElem hlt, Option.getD_some, Option.some.injEq] at h
    exact h ▸ List.getElem_mem hlt

/-! ## Pages and pipelines -/

@[simp] theorem State.cry_setCry_same (s : State) (n : Nat) (p : PressPage) : (s.setCry n p).cry n = p := tget_tset_same ..

theorem State.cry_setCry_other (s : State) {n m : Nat} (h : m ≠ n) (p : PressPage) : (s.setCry n p).cry m = s.cry m :=
  tget_tset_other _ h _ _

@[simp] theorem State.setCry_setCry (s : State) (n : Nat) (p q : PressPage) : (s.setCry n p).setCry n q = s.setCry n q := by
  simp [State.setCry, tset_tset]

@[simp] theorem State.cry_setCryJob_same (s : State) (n : Nat) (j : PressJob) :
    (s.setCryJob n j).cry n = { s.cry n with job := some j } := s.cry_setCry_same n _

/-- No pipeline works for page `n`. -/
def State.pipeless (s : State) (n : Nat) : Prop := ∀ e ∈ s.press.pipes, e.2.use ≠ .page n

theorem State.faults_setPipe_use (s : State) (p : Nat) (u : PipeUse) (x : Nat) :
    ((s.setPipe p { s.pipeAt p with use := u }).pipeAt x).faults = (s.pipeAt x).faults := by
  by_cases h : x = p
  · subst h
    have hset : (s.setPipe x { s.pipeAt x with use := u }).pipeAt x = { s.pipeAt x with use := u } := tget_tset_same ..
    rw [hset]
  · exact congrArg Pipe.faults (tget_tset_other s.press.pipes h _ {})

/-! ## What jobs that go on leave unchanged -/

/-- Between `s` and `t` only what jobs that go on can change has changed: memory with the words still fetched, the press, the frame
path's segments, and how many free values have been drawn. -/
def State.pressOnly (s t : State) : Prop :=
  t = { s with mem := t.mem, press := t.press, frame := t.frame, stale := t.stale, draw := t.draw }

theorem State.pressOnly.refl (s : State) : s.pressOnly s := rfl

theorem State.pressOnly.trans {s t u : State} (hst : s.pressOnly t) (htu : t.pressOnly u) : s.pressOnly u := by
  unfold State.pressOnly at hst htu ⊢
  rw [hst] at htu
  exact htu

/-- An engine's output changes memory alone, and the words that others may still fetch. -/
theorem State.engineWrite_eq (s : State) (c : Ctx) (a : Nat) (bs : Bytes) :
    ∃ m x, s.engineWrite c a bs = { s with mem := m, stale := x } := by
  unfold State.engineWrite
  split
  · exact ⟨s.mem, s.stale, rfl⟩
  · split
    · exact ⟨_, s.stale, rfl⟩
    · obtain ⟨x, hx⟩ := s.store_eq (some c) a bs
      exact ⟨_, x, hx⟩

@[simp] theorem State.engineWrite_press (s : State) (c : Ctx) (a : Nat) (bs : Bytes) :
    (s.engineWrite c a bs).press = s.press := by
  obtain ⟨m, x, h⟩ := s.engineWrite_eq c a bs
  rw [h]

theorem State.pressOnly_engineWrite (s : State) (c : Ctx) (a : Nat) (bs : Bytes) : s.pressOnly (s.engineWrite c a bs) := by
  obtain ⟨m, x, h⟩ := s.engineWrite_eq c a bs
  rw [h]
  rfl

theorem State.cry_of_press_eq {s t : State} (h : t.press = s.press) (n : Nat) : t.cry n = s.cry n := by
  rw [State.cry, h, State.cry]

/-- `R` has nothing to say of the job of page `n`, or it has none. -/
def State.stands (R : PressJob → PressJob → Prop) (s : State) (n : Nat) : Prop :=
  ∀ j j', (s.cry n).job = some j → ¬ R j j'

theorem State.stands_of_job {R : PressJob → PressJob → Prop} {s : State} {n : Nat} {j : PressJob}
    (hj : (s.cry n).job = some j) (hR : ∀ j', ¬ R j j') : s.stands R n := by
  intro i i' hi
  cases hj.symm.trans hi
  exact hR i'

/-- From `s` to `t` jobs have moved as `R` says: a page keeps all but its job, a job on which `R` is silent stays as it is and gets no
pipeline; staging slots and the pipelines' errors stay. -/
structure State.jobsMove (R : PressJob → PressJob → Prop) (s t : State) : Prop where
  only    : s.pressOnly t
  staging : t.press.staging = s.press.staging
  rises   : keysRise s.press.pages → keysRise t.press.pages
  faults  : ∀ x, (t.pipeAt x).faults = (s.pipeAt x).faults
  page    : ∀ n, t.cry n = s.cry n ∨ ∃ j j', (s.cry n).job = some j ∧ R j j' ∧ t.cry n = { s.cry n with job := some j' }
  pipes   : ∀ n, s.stands R n → s.pipeless n → t.pipeless n

section

variable {R : PressJob → PressJob → Prop} {s t u : State}

theorem State.jobsMove.cry_eq (h : s.jobsMove R t) {n : Nat} (hn : s.stands R n) : t.cry n = s.cry n := by
  rcases h.page n with heq | ⟨j, j', hj, hR, -⟩
  · exact heq
  · exact absurd hR (hn j j' hj)

theorem State.jobsMove.pressDead (h : s.jobsMove R t) : t.pressDead = s.pressDead := by
  simp only [State.pressDead, h.faults]

theorem State.jobsMove_of_press_eq (honly : s.pressOnly t) (hpress : t.press = s.press) : s.jobsMove R t where
  only := honly
  staging := congrArg Press.staging hpress
  rises h := by rwa [hpress]
  faults x := by rw [State.pipeAt, hpress, State.pipeAt]
  page n := .inl (State.cry_of_press_eq hpress n)
  pipes n _ h := by rwa [State.pipeless, hpress]

theorem State.jobsMove.refl (s : State) : s.jobsMove R s := State.jobsMove_of_press_eq (.refl s) rfl

theorem State.jobsMove_engineWrite (s : State) (c : Ctx) (a : Nat) (bs : Bytes) : s.jobsMove R (s.engineWrite c a bs) :=
  State.jobsMove_of_press_eq (s.pressOnly_engineWrite c a bs) (s.engineWrite_press c a bs)

theorem State.jobsMove_drawNat (s : State) : s.jobsMove R s.drawNat.2 := State.jobsMove_of_press_eq rfl rfl

theorem State.jobsMove.trans (hR : ∀ ⦃i j k⦄, R i j → R j k → R i k) (hst : s.jobsMove R t) (htu : t.jobsMove R u) :
    s.jobsMove R u where
  only := hst.only.trans htu.only
  staging := htu.staging.trans hst.staging
  rises h := htu.rises (hst.rises h)
  faults x := (htu.faults x).trans (hst.faults x)
  page n := by
    rcases htu.page n with hu | ⟨j, k, hj, hjk, hu⟩
    · rw [hu]
      exact hst.page n
    · rcases hst.page n with ht | ⟨i, j', hi, hij, ht⟩
      · rw [ht] at hj hu
        exact .inr ⟨j, k, hj, hjk, hu⟩
      · rw [ht] at hj hu
        cases hj
        exact .inr ⟨i, k, hi, hR hij hjk, hu⟩
  pipes n hn hs := by
    have ht : t.cry n = s.cry n := hst.cry_eq hn
    exact htu.pipes n (by rwa [State.stands, ht]) (hst.pipes n hn hs)

theorem State.jobsMove_deficit (s : State) (d : Tab Nat) (k : Nat) :
    s.jobsMove R { s with press := { s.press with deficit := d }, draw := k } where
  only := rfl
  staging := rfl
  rises h := h
  faults _ := rfl
  page _ := .inl rfl
  pipes _ _ h := h

/-- A pipeline is given to a job that moves, or to none. -/
theorem State.jobsMove_setPipe (p : Nat) {v : PipeUse}
    (hv : ∀ n, v = .page n → ∃ j j', (s.cry n).job = some j ∧ R j j') :
    s.jobsMove R (s.setPipe p { s.pipeAt p with use := v }) where
  only := rfl
  staging := rfl
  rises h := h
  faults := s.faults_setPipe_use p v
  page n := .inl rfl
  pipes n hn hs e he huse := by
    rcases tset_mem he with rfl | he
    · obtain ⟨j, j', hj, hR⟩ := hv n huse
      exact hn j j' hj hR
    · exact hs e he huse

theorem State.jobsMove_setCryJob {n : Nat} {j j' : PressJob} (hj : (s.cry n).job = some j) (hR : R j j') :
    s.jobsMove R (s.setCryJob n j') where
  only := rfl
  staging := rfl
  rises h := keysRise_tset h _ _
  faults _ := rfl
  page m := by
    by_cases h : m = n
    · subst h
      exact .inr ⟨j, j', hj, hR, s.cry_setCryJob_same m j'⟩
    · exact .inl (s.cry_setCry_other h _)
  pipes _ _ h := h

end

/-! ## Segments take pipelines: running jobs are suspended (R316, R340) -/

/-- A running job may be suspended. -/
def Runs (j _ : PressJob) : Prop := ∃ p, j.phase = .running p

theorem Runs.trans ⦃i j k : PressJob⦄ (h : Runs i j) (_ : Runs j k) : Runs i k := h

theorem State.jobsMove_crySuspend (s : State) (n blocks : Nat) : s.jobsMove Runs (s.crySuspend n blocks) := by
  unfold State.crySuspend
  split
  next => exact .refl s
  next j hj =>
    split
    next p hp =>
      refine (s.jobsMove_engineWrite _ _ _).trans Runs.trans (.trans Runs.trans (State.jobsMove_setPipe p.val (v := .idle) nofun)
        (State.jobsMove_setCryJob (j := j) ?_ ⟨p, hp⟩))
      exact (congrArg PressPage.job (State.cry_of_press_eq (State.engineWrite_press ..) n)).trans hj
    next => exact .refl s

theorem State.jobsMove_framePreempt (s : State) : s.jobsMove Runs s.framePreempt := by
  unfold State.framePreempt
  dsimp only
  split
  next => exact .refl s
  next =>
    exact (s.jobsMove_drawNat.trans Runs.trans (State.jobsMove_drawNat _)).trans Runs.trans (State.jobsMove_crySuspend _ _ _)

theorem State.jobsMove_segTakes (s : State) (i : Nat) (p : Fin 16) : s.jobsMove Runs (s.segTakes i p) :=
  (s.jobsMove_setPipe p.val (v := .frame) nofun).trans Runs.trans (State.jobsMove_of_press_eq rfl rfl)

theorem State.jobsMove_framePump (k : Nat) (s : State) : s.jobsMove Runs (State.framePump k s) := by
  induction k generalizing s with
  | zero => exact .refl s
  | succ k ih =>
    unfold State.framePump
    split
    next => exact .refl s
    next i _ =>
      split
      next => exact .refl s
      next =>
        have hroom : s.jobsMove Runs (if s.freePipe.isSome then s else s.framePreempt) := by
          split
          · exact .refl s
          · exact s.jobsMove_framePreempt
        dsimp only
        split
        next => exact .refl s
        next p _ =>
          exact ((hroom.trans Runs.trans (State.jobsMove_drawNat _)).trans Runs.trans (State.jobsMove_segTakes _ i p)).trans
            Runs.trans (ih _)

/-! ## Waiting jobs take pipelines (R264, R317, R346) -/

/-- What stays of a job from its submission on: its latched ports and its key, with how far it has come. -/
def PressJob.asked (j : PressJob) : PressJob :=
  { j with mat2 := [], nonce := [], begun := false, input := [], aadIn := [], ivIn := [], tagIn := [], slot := none
           phase := .waitPipe }

/-- A job that waits for a pipeline takes one, or fails while the press is dead. -/
def TakesTurn (dead : Bool) (j j' : PressJob) : Prop :=
  j.phase = .waitPipe ∧
    ((∃ p, j'.phase = .running p) ∧ j'.asked = ({ j with burst := 0, suspended := false } : PressJob).asked ∨
      dead = true ∧ j'.phase = .failed 11)

theorem TakesTurn.trans {dead : Bool} ⦃i j k : PressJob⦄ (hij : TakesTurn dead i j) (hjk : TakesTurn dead j k) :
    TakesTurn dead i k := by
  obtain ⟨-, ⟨⟨p, hp⟩, -⟩ | ⟨-, hfailed⟩⟩ := hij
  · exact absurd (hp.symm.trans hjk.1) nofun
  · exact absurd (hfailed.symm.trans hjk.1) nofun

theorem State.job_of_mem_pressWaiting {s : State} (hrise : keysRise s.press.pages) {n : Nat} {j : PressJob}
    (h : (n, j) ∈ s.pressWaiting) : (s.cry n).job = some j ∧ j.phase = .waitPipe := by
  obtain ⟨e, he, hsome⟩ := List.mem_filterMap.mp h
  split at hsome
  next j' hj' =>
    split at hsome
    next hphase =>
      cases hsome
      exact ⟨(congrArg PressPage.job (tget_of_mem hrise he {})).trans hj', hphase⟩
    next => cases hsome
  next => cases hsome

/-- The round robin serves one of those that wait. -/
theorem State.mem_of_drrPick {s : State} {turn : Nat} {deficit : Tab Nat} {q : Nat} {ws : List (Nat × Nat)}
    {r : Nat × Tab Nat} (h : s.drrPick turn deficit q ws = some r) : ∃ w ∈ ws, w.1 = r.1 := by
  unfold State.drrPick at h
  dsimp only at h
  split at h
  · cases h
  · split at h
    · cases h
    next w hw =>
      cases h
      exact ⟨w, (List.mem_filter.mp (mem_of_choose hw)).1, rfl⟩

/-- The pick is a page whose job waits; besides the draw only the deficits change. -/
theorem State.pressPick_some {s t : State} {n : Nat} (hrise : keysRise s.press.pages) (h : s.pressPick = some (n, t)) :
    (∃ j, (s.cry n).job = some j ∧ j.phase = .waitPipe) ∧
      ∃ d, t = { s with press := { s.press with deficit := d }, draw := s.draw + 1 } := by
  obtain ⟨r, hr, heq⟩ := Option.map_eq_some_iff.mp h
  obtain ⟨rfl, rfl⟩ := Prod.mk.inj heq
  obtain ⟨w, hw, hwr⟩ := State.mem_of_drrPick hr
  obtain ⟨⟨m, j⟩, hmem, rfl⟩ := List.mem_map.mp hw
  cases hwr
  exact ⟨⟨j, State.job_of_mem_pressWaiting hrise hmem⟩, _, rfl⟩

/-- A job that begins reads its inputs, which changes nothing asked of it, and its nonce goes to memory. -/
theorem State.cryBegin_eq (s : State) (n : Nat) (j : PressJob) :
    ∃ (u : State) (j' : PressJob), s.cryBegin n j = u.setCryJob n j' ∧ s.pressOnly u ∧ u.press = s.press ∧
      j'.asked = j.asked ∧ j'.phase = j.phase := by
  unfold State.cryBegin
  split
  · exact ⟨s, j, rfl, .refl s, rfl, rfl, rfl⟩
  · dsimp only
    split
    · exact ⟨_, _, rfl, s.pressOnly_engineWrite _ _ _, s.engineWrite_press _ _ _, rfl, rfl⟩
    · exact ⟨s, _, rfl, .refl s, rfl, rfl, rfl⟩

theorem State.jobsMove_begin {s : State} {dead : Bool} {n : Nat} {j : PressJob} (hj : (s.cry n).job = some j)
    (hwait : j.phase = .waitPipe) (p : Fin 16) :
    s.jobsMove (TakesTurn dead) ((s.setPipe p.val { s.pipeAt p.val with use := .page n }).cryBegin n
      { j with phase := .running p, burst := 0, suspended := false }) := by
  obtain ⟨u, j', heq, honly, hpress, hasked, hphase⟩ := (s.setPipe p.val { s.pipeAt p.val with use := .page n }).cryBegin_eq n
    { j with phase := .running p, burst := 0, suspended := false }
  have hturn : TakesTurn dead j j' := ⟨hwait, .inl ⟨⟨p, hphase⟩, hasked⟩⟩
  have hpipe : s.jobsMove (TakesTurn dead) (s.setPipe p.val { s.pipeAt p.val with use := .page n }) :=
    State.jobsMove_setPipe p.val fun m hm => by cases hm; exact ⟨j, j', hj, hturn⟩
  have hread : State.jobsMove (TakesTurn dead) _ u := State.jobsMove_of_press_eq honly hpress
  rw [heq]
  exact (hpipe.trans TakesTurn.trans hread).trans TakesTurn.trans
    (State.jobsMove_setCryJob ((congrArg PressPage.job (State.cry_of_press_eq hpress n)).trans hj) hturn)

theorem State.jobsMove_pressPump (k : Nat) {s : State} (hrise : keysRise s.press.pages) :
    s.jobsMove (TakesTurn s.pressDead) (State.pressPump k s) := by
  induction k generalizing s with
  | zero => exact .refl s
  | succ k ih =>
    have hnext {u : State} (hu : s.jobsMove (TakesTurn s.pressDead) u) :
        s.jobsMove (TakesTurn s.pressDead) (State.pressPump k u) := by
      have hrest := ih (hu.rises hrise)
      rw [hu.pressDead] at hrest
      exact hu.trans TakesTurn.trans hrest
    unfold State.pressPump
    split
    next => exact .refl s
    next n s1 hpick =>
      obtain ⟨⟨j, hj, hwait⟩, d, rfl⟩ := State.pressPick_some hrise hpick
      split
      next j' p hj' _ =>
        cases hj.symm.trans hj'
        have hpicked : s.jobsMove (TakesTurn s.pressDead) { s with press := { s.press with deficit := d }, draw := s.draw + 1 } :=
          s.jobsMove_deficit d (s.draw + 1)
        refine hnext ((hpicked.trans TakesTurn.trans (State.jobsMove_drawNat _)).trans TakesTurn.trans
          (State.jobsMove_begin ?_ hwait p))
        exact hj
      next j' hj' _ =>
        cases hj.symm.trans hj'
        split
        next hdead => exact hnext (State.jobsMove_setCryJob hj ⟨hwait, .inr ⟨hdead, rfl⟩⟩)
        next => exact .refl s
      next hnone => exact nomatch hj.symm.trans hnone

/-! ## Every waiting job that can goes on -/

theorem State.pressGo_moves {s : State} (hrise : keysRise s.press.pages) :
    ∃ u : State, s.jobsMove Runs u ∧ u.jobsMove (TakesTurn s.pressDead) s.pressGo := by
  have hframe := s.jobsMove_framePump s.frame.segs.length
  refine ⟨_, hframe, ?_⟩
  rw [← hframe.pressDead]
  exact State.jobsMove_pressPump _ (hframe.rises hrise)

/-- A job that neither waits for a pipeline nor runs stays as it is, and gets no pipeline. -/
theorem State.pressGo_of_settled {s : State} (hrise : keysRise s.press.pages) {n : Nat} {j : PressJob}
    (hj : (s.cry n).job = some j) (hwait : j.phase ≠ .waitPipe) (hrun : ∀ p, j.phase ≠ .running p) (hpipes : s.pipeless n) :
    s.pressOnly s.pressGo ∧ s.pressGo.cry n = s.cry n ∧ s.pressGo.pipeless n ∧ s.pressGo.press.staging = s.press.staging := by
  obtain ⟨u, hframe, hpump⟩ := State.pressGo_moves hrise
  have hstill : s.stands Runs n := State.stands_of_job hj fun _ ⟨p, hp⟩ => hrun p hp
  have hsame : u.cry n = s.cry n := hframe.cry_eq hstill
  have hquiet : u.stands (TakesTurn s.pressDead) n :=
    State.stands_of_job ((congrArg PressPage.job hsame).trans hj) fun _ hturn => hwait hturn.1
  exact ⟨hframe.only.trans hpump.only, (hpump.cry_eq hquiet).trans hsame, hpump.pipes n hquiet (hframe.pipes n hstill hpipes),
    hpump.staging.trans hframe.staging⟩

/-- Page `n` is `p` but for its job, which is `j` with its ports and its key and has not failed. -/
def State.underWay (s : State) (n : Nat) (p : PressPage) (j : PressJob) : Prop :=
  ∃ j', s.cry n = { p with job := some j' } ∧ j'.asked = j.asked ∧ ∀ e, j'.phase ≠ .failed e

/-- A job that waits for its first burst waits on or runs, unless the press is dead. -/
theorem State.pressGo_of_waiting {s : State} (hrise : keysRise s.press.pages) (hserves : s.pressDead = false) {n : Nat}
    {j : PressJob} (hj : (s.cry n).job = some j) (hwait : j.phase = .waitPipe) (hburst : j.burst = 0)
    (hfirst : j.suspended = false) : s.pressOnly s.pressGo ∧ s.pressGo.underWay n (s.cry n) j := by
  obtain ⟨u, hframe, hpump⟩ := State.pressGo_moves hrise
  rw [hserves] at hpump
  have hsame : u.cry n = s.cry n := hframe.cry_eq (State.stands_of_job hj fun _ ⟨p, hp⟩ => nomatch hwait.symm.trans hp)
  refine ⟨hframe.only.trans hpump.only, ?_⟩
  rcases hpump.page n with hstays | ⟨i, j', hi, ⟨-, ⟨⟨p, hp⟩, hasked⟩ | ⟨hdead, -⟩⟩, hmoved⟩
  · have hwhole : s.cry n = { s.cry n with job := some j } := by rw [← hj]
    exact ⟨j, (hstays.trans hsame).trans hwhole, rfl, fun e he => nomatch hwait.symm.trans he⟩
  · rw [hsame] at hi hmoved
    cases hj.symm.trans hi
    have hfresh : ({ j with burst := 0, suspended := false } : PressJob) = j := by rw [← hburst, ← hfirst]
    rw [hfresh] at hasked
    exact ⟨j', hmoved, hasked, fun e he => nomatch hp.symm.trans he⟩
  · exact nomatch hdead

section

variable {s : State} (hrise : keysRise s.press.pages) (hserves : s.pressDead = false) (n : Nat) {j : PressJob}
  (hburst : j.burst = 0) (hfirst : j.suspended = false)

include hrise hserves hburst hfirst

/-- A job, in the staging slot `i` where it has one, joins those that wait for a pipeline. -/
theorem State.queued_underWay (i : Option Nat) :
    s.pressOnly (s.setCryJob n { j with slot := i, phase := .waitPipe }).pressGo ∧
      (s.setCryJob n { j with slot := i, phase := .waitPipe }).pressGo.underWay n (s.cry n) j := by
  obtain ⟨honly, j', hcry, hasked, hphase⟩ :=
    State.pressGo_of_waiting (s := s.setCryJob n { j with slot := i, phase := .waitPipe }) (n := n)
      (keysRise_tset hrise _ _) hserves (congrArg PressPage.job (s.cry_setCryJob_same n _)) rfl hburst hfirst
  rw [State.cry_setCryJob_same] at hcry
  exact ⟨honly, j', hcry, hasked, hphase⟩

/-- A staged job takes a slot or waits for one, and any other job waits for a pipeline or runs (R329). -/
theorem State.cryStage_underWay : s.pressOnly (s.cryStage n j) ∧ (s.cryStage n j).underWay n (s.cry n) j := by
  unfold State.cryStage
  split
  · split
    next i _ =>
      exact State.queued_underWay (s := { s with press := { s.press with staging := tset s.press.staging i n } })
        hrise hserves n hburst hfirst (some i)
    next => exact ⟨rfl, _, s.cry_setCryJob_same n _, rfl, nofun⟩
  · exact State.queued_underWay hrise hserves n hburst hfirst j.slot

end

/-! ## Nonces (R332-R337) -/

/-- Between `s` and `t` only what the submission of a job can change has changed. -/
def State.takesOnly (s t : State) : Prop :=
  t = { s with clk := { s.clk with gated := t.clk.gated }, mem := t.mem, rng := t.rng, press := t.press, frame := t.frame
               stale := t.stale, draw := t.draw }

theorem State.takesOnly.trans {s t u : State} (hst : s.takesOnly t) (htu : t.takesOnly u) : s.takesOnly u := by
  unfold State.takesOnly at hst htu ⊢
  rw [hst] at htu
  exact htu

theorem State.pressOnly.takesOnly {s t : State} (h : s.pressOnly t) : s.takesOnly t := by
  unfold State.pressOnly at h
  unfold State.takesOnly
  rw [h]

/-- From `s` to `t` page `n` has taken the job `j`: it keeps all but its job, its count of GEN nonces and its reservation. The
job keeps what was asked of it, and has failed only where that count is exhausted (R336). -/
structure State.takesJob (s t : State) (n : Nat) (j : PressJob) : Prop where
  only : s.takesOnly t
  page : ∃ j' g v, t.cry n = { s.cry n with job := some j', gen := g, resv := v } ∧ j'.asked = j.asked ∧
    ∀ e, j'.phase = .failed e → e = 13 ∧ mNonce j.mode = true ∧ mGen j.mode = true ∧ 2 ^ 32 ≤ (s.cry n).gen

/-- With its nonce and the page's counts brought up to date the job goes on to its slot or pipeline. -/
theorem State.takesJob_stage {s u : State} {n g : Nat} {v : Option (Dword × BitVec 16)} {j j' : PressJob}
    (hrise : keysRise u.press.pages) (hserves : u.pressDead = false) (hburst : j'.burst = 0) (hfirst : j'.suspended = false)
    (honly : s.takesOnly u) (hpage : u.cry n = { s.cry n with gen := g, resv := v }) (hasked : j'.asked = j.asked) :
    s.takesJob (u.cryStage n j') n j := by
  obtain ⟨hmoved, i, hcry, hi, hphase⟩ := State.cryStage_underWay hrise hserves n hburst hfirst
  rw [hpage] at hcry
  exact ⟨honly.trans hmoved.takesOnly, i, g, v, hcry, hi.trans hasked, fun e he => absurd he (hphase e)⟩

/-- Check 10 of R325: the job takes its nonce and goes on, waits for a reservation, or fails. -/
theorem State.cryNonce_takesJob {s : State} (hrise : keysRise s.press.pages) (hserves : s.pressDead = false) (n : Nat)
    {j : PressJob} (hburst : j.burst = 0) (hfirst : j.suspended = false) : s.takesJob (s.cryNonce n j) n j := by
  unfold State.cryNonce
  dsimp only
  split
  next => exact State.takesJob_stage hrise hserves hburst hfirst rfl rfl rfl
  next hnonce =>
    have hnonce : mNonce j.mode = true := by simpa using hnonce
    split
    next hgen =>
      split
      next hspent =>
        refine ⟨rfl, _, _, _, s.cry_setCryJob_same n _, rfl, fun e he => ?_⟩
        cases he
        exact ⟨rfl, hnonce, hgen, hspent⟩
      next =>
        exact State.takesJob_stage (keysRise_tset hrise _ _) hserves hburst hfirst rfl (State.cry_setCry_same ..) rfl
    next =>
      split
      next => exact State.takesJob_stage (keysRise_tset hrise _ _) hserves hburst hfirst rfl (State.cry_setCry_same ..) rfl
      next => exact ⟨rfl, { j with phase := .waitNonce }, _, _, s.cry_setCryJob_same n _, rfl, nofun⟩

/-! ## The word a row writes to MODE (R321) -/

/-- The low four bits of MODE are the row's, all others the operand's. -/
def rowMode (mode row : Word) : Word := (mode &&& 0xFFFFFFF0) ||| row

/-- The bits of MODE that an operand may set. -/
theorem operandBits (i : Nat) : (0xFFFFFFF0 : Word).getLsbD i = decide (4 ≤ i ∧ i < 32) := by
  by_cases hi : i < 32
  · have hall : ∀ k : Fin 32, (0xFFFFFFF0 : Word).getLsbD k = decide (4 ≤ k.val ∧ k.val < 32) := by decide
    exact hall ⟨i, hi⟩
  · rw [BitVec.getLsbD_of_ge _ _ (Nat.le_of_not_lt hi)]
    simp [hi]

theorem bit_rowMode_low (mode row : Word) {i : Nat} (hi : i < 4) : bit (rowMode mode row) i = bit row i := by
  rw [bit, rowMode, BitVec.getLsbD_or, BitVec.getLsbD_and, operandBits, bit]
  simp [Nat.not_le.mpr hi]

theorem bit_rowMode_high (mode : Word) {row : Word} (hrow : row.toNat < 16) {i : Nat} (hi : 4 ≤ i) :
    bit (rowMode mode row) i = bit mode i := by
  have hrow : row.toNat < 2 ^ i := Nat.lt_of_lt_of_le hrow (Nat.pow_le_pow_right (n := 2) (by decide) hi)
  have hclear : row.getLsbD i = false := Nat.testBit_lt_two_pow hrow
  rw [bit, rowMode, BitVec.getLsbD_or, BitVec.getLsbD_and, operandBits, hclear, bit]
  by_cases hlt : i < 32
  · simp [hi, hlt]
  · simp [hlt, BitVec.getLsbD_of_ge mode i (Nat.le_of_not_lt hlt)]

theorem fld_eq_of_bits {x y : Word} {lo n : Nat} (h : ∀ i, lo ≤ i → i < lo + n → bit x i = bit y i) :
    fld x lo n = fld y lo n := by
  refine Nat.eq_of_testBit_eq fun i => ?_
  simp only [fld, Nat.testBit_mod_two_pow, Nat.testBit_shiftRight, BitVec.testBit_toNat]
  by_cases hi : i < n
  · rw [show x.getLsbD (lo + i) = y.getLsbD (lo + i) from h _ (Nat.le_add_right ..) (Nat.add_lt_add_left hi lo)]
  · simp [hi]

theorem mMode_rowMode (mode row : Word) : mMode (rowMode mode row) = row.toNat % 8 :=
  fld_eq_of_bits (x := rowMode mode row) (y := row) (lo := 0) fun _ _ hi => bit_rowMode_low mode row (by omega)

theorem fld_rowMode_high (mode : Word) {row : Word} (hrow : row.toNat < 16) {lo : Nat} (hlo : 4 ≤ lo) (n : Nat) :
    fld (rowMode mode row) lo n = mode.toNat / 2 ^ lo % 2 ^ n := by
  rw [fld_eq_of_bits fun i hi _ => bit_rowMode_high mode hrow (Nat.le_trans hlo hi), fld, Nat.shiftRight_eq_div_pow]

/-! ## The checks of MODE and of the lengths (R321, R325, R327) -/

section

variable {m : Word} {md : Nat} {dec : Prop} (hmd : mMode m = md) (hdec : mDec m = true ↔ dec)

include hmd

theorem tlenOk_iff : tlenOk m = true ↔
    if md = 2 then 12 ≤ mTlen m ∧ mTlen m ≤ 16 else if md = 4 then 8 ≤ mTlen m ∧ mTlen m ≤ 16 else mTlen m = 0 := by
  subst hmd
  unfold tlenOk
  split
  next h => simp [h]
  next h => simp [h]
  next h2 h4 =>
    rw [if_neg h2, if_neg h4]
    exact beq_iff_eq

include hdec

theorem mNonce_iff : mNonce m = true ↔ ¬ dec ∧ (md = 1 ∨ md = 2) := by
  subst hmd
  simp [mNonce, ← hdec, and_comm]

theorem mPolicy_eq [Decidable dec] : mPolicy m = if md = 4 then (if dec then 3 else 2) else if dec then 1 else 0 := by
  subst hmd
  simp only [mPolicy, hdec, polVerify, polSign, polDecrypt, polEncrypt]

theorem lenOk_iff (hmodes : 1 ≤ md ∧ md ≤ 6) (len alen : Nat) : lenOk m len alen = true ↔
    (md = 1 → 1 ≤ len ∧ len ≤ 2 ^ 20) ∧ (md = 2 → alen ≤ 2 ^ 16 ∧ (dec → len ≤ 2 ^ 14) ∧ len ≤ 2 ^ 20) ∧
    (md = 3 → 16 ≤ len ∧ len ≤ 2 ^ 20) ∧ (md = 4 → len ≤ 2 ^ 20) ∧
    (md = 5 → len % 8 = 0 ∧ (dec → 24 ≤ len ∧ len ≤ 4104) ∧ (¬ dec → 16 ≤ len ∧ len ≤ 4096)) ∧
    (md = 6 → (dec → len % 8 = 0 ∧ 16 ≤ len ∧ len ≤ 4104) ∧ (¬ dec → 1 ≤ len ∧ len ≤ 4096)) := by
  have hcases : md = 1 ∨ md = 2 ∨ md = 3 ∨ md = 4 ∨ md = 5 ∨ md = 6 := by omega
  rw [lenOk, hmd]
  simp only [← hdec]
  rcases hcases with rfl | rfl | rfl | rfl | rfl | rfl
  all_goals cases mDec m
  all_goals simp only [Bool.and_eq_true, decide_eq_true_eq, beq_iff_eq, Bool.false_eq_true, not_true_eq_false,
    not_false_eq_true, false_implies, true_implies, Nat.reduceEqDiff, true_and, and_true]
  all_goals omega

end

/-! ## The order of the checks (R325) -/

/-- MODE passes its check: the reserved bits are 0, TLEN suits the mode, and a nonce of the INC kind has a counter (R321, R325). -/
def State.modeOk (s : State) (n : Nat) (j : PressJob) : Prop :=
  fld j.mode 5 3 = 0 ∧ fld j.mode 13 3 = 0 ∧ fld j.mode 22 10 = 0 ∧ tlenOk j.mode = true ∧
    (mNonce j.mode = true → ¬ mGen j.mode = true → s.nctrOf n j.nctr.toNat ≠ none)

theorem State.cryCheck_out {s : State} (hout : s.pressOut = true) (c : Ctx) (j : PressJob) : s.cryCheck c j = .error 11 :=
  if_pos hout

theorem State.not_modeOk_iff {s : State} {n : Nat} {j : PressJob} (hmodes : 1 ≤ mMode j.mode ∧ mMode j.mode ≤ 6) :
    ¬ s.modeOk n j ↔
      mMode j.mode = 0 ∨ mMode j.mode = 7 ∨ fld j.mode 5 3 ≠ 0 ∨ fld j.mode 13 3 ≠ 0 ∨ fld j.mode 22 10 ≠ 0 ∨
        !tlenOk j.mode ∨ (mNonce j.mode && !mGen j.mode && (s.nctrOf n j.nctr.toNat).isNone) := by
  have hzero : mMode j.mode ≠ 0 := by omega
  have hseven : mMode j.mode ≠ 7 := by omega
  simp only [State.modeOk, hzero, hseven, false_or, Classical.not_and_iff_not_or_not, Classical.not_imp, Bool.not_eq_true',
    Bool.and_eq_true, Bool.not_eq_true, Option.isNone_iff_eq_none, and_assoc, ne_eq, Classical.not_not]

section

variable {s : State} {c : Ctx} {j : PressJob} (hserves : s.pressOut = false) (hmodes : 1 ≤ mMode j.mode ∧ mMode j.mode ≤ 6)

include hserves hmodes

theorem State.cryCheck_bad_mode (hmode : ¬ s.modeOk (ctxNum c) j) : s.cryCheck c j = .error 2 := by
  rw [State.cryCheck, if_neg (by simp [hserves])]
  exact if_pos ((State.not_modeOk_iff hmodes).mp hmode)

variable (hmode : s.modeOk (ctxNum c) j)

include hmode

theorem State.cryCheck_after_mode : s.cryCheck c j =
    if !lenOk j.mode j.len.toNat j.alen.toNat then .error 5
    else if !s.cryAddrOk c j then .error 12
    else if !s.vault.rootOk then .error 7
    else s.cryKeys c j := by
  rw [State.cryCheck, if_neg (by simp [hserves])]
  exact if_neg fun h => (State.not_modeOk_iff hmodes).mpr h hmode

theorem State.cryCheck_bad_len (hlen : ¬ lenOk j.mode j.len.toNat j.alen.toNat = true) : s.cryCheck c j = .error 5 := by
  rw [State.cryCheck_after_mode hserves hmodes hmode]
  simp [hlen]

variable (hlen : lenOk j.mode j.len.toNat j.alen.toNat = true)

include hlen

theorem State.cryCheck_bad_addr (haddr : s.cryAddrOk c j = false) : s.cryCheck c j = .error 12 := by
  rw [State.cryCheck_after_mode hserves hmodes hmode]
  simp [hlen, haddr]

variable (haddr : s.cryAddrOk c j = true)

include haddr

theorem State.cryCheck_bad_root (hroot : s.vault.rootOk = false) : s.cryCheck c j = .error 7 := by
  rw [State.cryCheck_after_mode hserves hmodes hmode]
  simp [hlen, haddr, hroot]

theorem State.cryCheck_eq_cryKeys (hroot : s.vault.rootOk = true) : s.cryCheck c j = s.cryKeys c j := by
  rw [State.cryCheck_after_mode hserves hmodes hmode]
  simp [hlen, haddr, hroot]

end

/-! ## The checks of the keys (R325, R327) -/

/-- The second key that a job names; only XTS has one of its own (R320). -/
def State.secondKey (s : State) (c : Ctx) (j : PressJob) : Option VSlot :=
  if mMode j.mode = 3 then s.keyOf c j.key2 else s.keyOf c j.key

theorem State.secondKey_eq (s : State) (c : Ctx) (j : PressJob) :
    (if mMode j.mode == 3 then s.keyOf c j.key2 else s.keyOf c j.key) = s.secondKey c j := by
  simp only [State.secondKey, beq_iff_eq]

theorem State.cryKeys_missing {s : State} {c : Ctx} {j : PressJob} (h : s.keyOf c j.key = none ∨ s.secondKey c j = none) :
    s.cryKeys c j = .error 1 := by
  unfold State.cryKeys
  dsimp only
  rw [State.secondKey_eq]
  split
  next v w hv hw => simp [hv, hw] at h
  next => rfl

/-- Both keys are AES keys, of one type. -/
abbrev AesPair (v w : VSlot) : Prop := (v.typ = 1 ∨ v.typ = 2) ∧ (w.typ = 1 ∨ w.typ = 2) ∧ v.typ = w.typ

/-- Both keys grant the operation, and neither is a FRAME key. -/
abbrev MayUse (right : Nat) (v w : VSlot) : Prop :=
  bit v.policy right = true ∧ bit v.policy 7 = false ∧ bit w.policy right = true ∧ bit w.policy 7 = false

theorem isAes_iff (typ : BitVec 7) : isAes typ.toNat = true ↔ typ = 1 ∨ typ = 2 := by
  simp [isAes, ← BitVec.toNat_inj]

theorem polOk_iff (p : Byte) (b : Nat) : polOk p b = true ↔ bit p b = true ∧ bit p 7 = false := by
  simp [polOk, polFrame]

/-- The checks of the keys in their order (R325). -/
theorem State.cryKeys_eq {s : State} {c : Ctx} {j : PressJob} {v w : VSlot} (hv : s.keyOf c j.key = some v)
    (hw : s.secondKey c j = some w) : s.cryKeys c j =
      if ¬ AesPair v w then .error 4
      else if ¬ MayUse (mPolicy j.mode) v w then .error 3
      else if mMode j.mode = 3 ∧ v.key = w.key then .error 6
      else if mNonce j.mode = true ∧ mGen j.mode = true ∧ s.vault.rngFail = true then .error 8
      else .ok { j with mat := v.key, mat2 := if mMode j.mode = 3 then w.key else [] } := by
  have haes : (!(isAes v.typ.toNat && isAes w.typ.toNat) || v.typ != w.typ) = true ↔ ¬ AesPair v w := by
    simp only [AesPair, ← isAes_iff]
    cases isAes v.typ.toNat <;> cases isAes w.typ.toNat <;> simp
  have hmay : (!(polOk v.policy (mPolicy j.mode) && polOk w.policy (mPolicy j.mode))) = true ↔
      ¬ MayUse (mPolicy j.mode) v w := by
    rw [Bool.not_eq_true', ← Bool.not_eq_true, Bool.and_eq_true, polOk_iff, polOk_iff, and_assoc]
  unfold State.cryKeys
  dsimp only
  rw [State.secondKey_eq, hv, hw]
  simp only [haes, hmay, Bool.and_eq_true, beq_iff_eq, and_assoc]

/-! ## A row of the press: MODE, then GO (R321, R323, R324) -/

/-- Page `n` as an accepted GO finds it after the row's MODE word. -/
def State.goTaken (s : State) (n : Nat) (m : Word) : State :=
  (s.setCry n { s.cry n with mode := m, refused := false }).ungate 16 16

/-- The job that an accepted GO latches from page `p` (R324). -/
abbrev rowJob (p : PressPage) (m : Word) : PressJob := latchJob { p with mode := m }

/-- What GO makes of the page with the answer of the checks before the nonce's (R325). -/
def State.goChecked (s : State) (n : Nat) (m : Word) : Except Nat PressJob → State
  | .error e => (s.goTaken n m).setCryJob n { rowJob (s.cry n) m with phase := .failed (BitVec.ofNat 5 e) }
  | .ok j => (s.goTaken n m).cryNonce n j

section

variable {s : State} {c : Ctx} (htrigger : s.canTrigger c = true) (hgrant : s.granted c 0 = true) (mode row : Word)

include htrigger hgrant

theorem State.cryRow_eq : s.cryRow c mode row =
    .next ((s.setCry (ctxNum c) { s.cry (ctxNum c) with mode := rowMode mode row }).cryGo c) :=
  congrArg Host.Outcome.next (if_pos ⟨htrigger, hgrant⟩)

/-- GO on a page that holds a job (R323). -/
theorem State.cryRow_of_job (hjob : (s.cry (ctxNum c)).job ≠ none) : s.cryRow c mode row =
    .next (s.setCry (ctxNum c) { s.cry (ctxNum c) with mode := rowMode mode row, refused := true }) := by
  have hsome : (s.cry (ctxNum c)).job.isSome = true := Option.isSome_iff_ne_none.mpr hjob
  rw [State.cryRow_eq htrigger hgrant, State.cryGo]
  dsimp only
  rw [State.cry_setCry_same, if_pos hsome, State.setCry_setCry]

/-- An accepted GO goes by the answer of the checks (R323-R325); they do not read what it has written by then. -/
theorem State.cryRow_of_no_job (hjob : (s.cry (ctxNum c)).job = none) : s.cryRow c mode row =
    .next (s.goChecked (ctxNum c) (rowMode mode row)
      (s.cryCheck c (rowJob (s.cry (ctxNum c)) (rowMode mode row)))) := by
  have hnone : ¬ (s.cry (ctxNum c)).job.isSome = true := by simp [hjob]
  have hcheck : s.cryCheck c (rowJob (s.cry (ctxNum c)) (rowMode mode row)) =
    (s.goTaken (ctxNum c) (rowMode mode row)).cryCheck c (rowJob (s.cry (ctxNum c)) (rowMode mode row)) := rfl
  rw [State.cryRow_eq htrigger hgrant, State.cryGo, hcheck]
  dsimp only
  rw [State.cry_setCry_same, if_neg hnone, State.setCry_setCry]
  unfold State.goChecked State.goTaken
  split
  next h => rw [h]
  next h => rw [h]

end

/-! ## The twelve rows -/

/-- The commands that submit a job, with the four bits of MODE that each sets: the mode, and DIR in bit 3. -/
def pressRows (c : Ctx) (mode : Word) : List (Instr × Word) :=
  [(.cryCtrEncrypt c mode, 1), (.cryCtrDecrypt c mode, 9), (.cryGcmEncrypt c mode, 2), (.cryGcmDecrypt c mode, 10),
    (.cryXtsEncrypt c mode, 3), (.cryXtsDecrypt c mode, 11), (.cryCmacGenerate c mode, 4), (.cryCmacVerify c mode, 12),
    (.cryKwWrap c mode, 5), (.cryKwUnwrap c mode, 13), (.cryKwpWrap c mode, 6), (.cryKwpUnwrap c mode, 14)]

theorem exec_pressRow {c : Ctx} {mode row : Word} {i : Instr} (hi : (i, row) ∈ pressRows c mode) (s : State) :
    exec i s = s.cryRow c mode row := by
  simp only [pressRows, List.mem_cons, Prod.mk.injEq, List.not_mem_nil, or_false] at hi
  rcases hi with ⟨rfl, rfl⟩ | ⟨rfl, rfl⟩ | ⟨rfl, rfl⟩ | ⟨rfl, rfl⟩ | ⟨rfl, rfl⟩ | ⟨rfl, rfl⟩ | ⟨rfl, rfl⟩ | ⟨rfl, rfl⟩ |
    ⟨rfl, rfl⟩ | ⟨rfl, rfl⟩ | ⟨rfl, rfl⟩ | ⟨rfl, rfl⟩
  all_goals rfl

/-- A row's code is of four bits, and its mode is one of R321. -/
theorem pressRow_code {c : Ctx} {mode row : Word} {i : Instr} (hi : (i, row) ∈ pressRows c mode) :
    row.toNat < 16 ∧ (1 ≤ row.toNat % 8 ∧ row.toNat % 8 ≤ 6) ∧ (bit row 3 = true ↔ 8 ≤ row.toNat) := by
  have hcodes : ∀ r ∈ [1, 9, 2, 10, 3, 11, 4, 12, 5, 13, 6, (14 : Word)],
      r.toNat < 16 ∧ (1 ≤ r.toNat % 8 ∧ r.toNat % 8 ≤ 6) ∧ (bit r 3 = true ↔ 8 ≤ r.toNat) := by simp [bit]
  have hrow : row ∈ (pressRows c mode).map Prod.snd := List.mem_map_of_mem hi
  simp only [pressRows, List.map] at hrow
  exact hcodes row hrow

/-! ## CANCEL (R331) -/

theorem exec_cryCancel {s : State} {c : Ctx} (htrigger : s.canTrigger c = true) (hgrant : s.granted c 0 = true) :
    exec (.cryCancel c) s = .next (s.cryStop (ctxNum c) 10) :=
  congrArg Host.Outcome.next (if_pos ⟨htrigger, hgrant⟩)

theorem State.cryStop_of_no_job {s : State} {n : Nat} (hjob : (s.cry n).job = none) (code : BitVec 5) : s.cryStop n code = s := by
  rw [State.cryStop, hjob]

theorem State.cryStop_of_failed {s : State} {n : Nat} {j : PressJob} {e : BitVec 5} (hjob : (s.cry n).job = some j)
    (hphase : j.phase = .failed e) (code : BitVec 5) : s.cryStop n code = s := by
  rw [State.cryStop, hjob]
  simp only [hphase]

/-- The output of which a job may have written a part when it stops: none of a staged job (R331). -/
def stoppedOutput (j : PressJob) : Bytes :=
  match cryOutput j with
  | .ok (o, _) => if j.begun ∧ ¬ mStaged j.mode then o else []
  | .error _ => []

theorem stoppedOutput_staged {j : PressJob} (hstaged : mStaged j.mode = true) : stoppedOutput j = [] := by
  unfold stoppedOutput
  split
  · simp [hstaged]
  · rfl

/-- The bytes of a job that stand in DST when it stops; `d` is the free choice. -/
def stoppedWritten (j : PressJob) (d : Nat) : Nat :=
  j.written + 16 * (d % (((stoppedOutput j).length - j.written) / 16 + 1))

theorem stoppedWritten_staged {j : PressJob} (hstaged : mStaged j.mode = true) (d : Nat) : stoppedWritten j d = j.written := by
  simp [stoppedWritten, stoppedOutput_staged hstaged, Nat.mod_one]

/-- Page `n`'s job has stopped and left its pipeline and its slot; no other job has gone on yet. -/
def State.stopped (s : State) (n : Nat) (j : PressJob) (code : BitVec 5) : State :=
  let k := stoppedWritten j s.drawNat.1
  ((s.drawNat.2.engineWrite (ctxOf n) j.dst.toNat ((stoppedOutput j).take k)).cryRelease n).setCryJob n
    { j with phase := .failed code, written := k, slot := none }

theorem State.cryStop_of_going {s : State} {n : Nat} {j : PressJob} (hjob : (s.cry n).job = some j)
    (hphase : ∀ e, j.phase ≠ .failed e) (code : BitVec 5) : s.cryStop n code = (s.stopped n j code).pressGo := by
  rw [State.cryStop, hjob]
  dsimp only
  split
  next e he => exact absurd he (hphase e)
  next => rfl

theorem State.pipeless_cryRelease (s : State) (n : Nat) : (s.cryRelease n).pipeless n := by
  intro e he huse
  obtain ⟨f, -, rfl⟩ := List.mem_map.mp he
  dsimp only at huse
  split at huse
  next => cases huse
  next hne => exact hne huse

section

variable (s : State) (n : Nat) (j : PressJob) (code : BitVec 5)

theorem State.pressOnly_stopped : s.pressOnly (s.stopped n j code) := by
  have hdrawn : s.pressOnly s.drawNat.2 := rfl
  exact (hdrawn.trans (State.pressOnly_engineWrite _ _ _ _)).trans rfl

theorem State.cry_stopped : (s.stopped n j code).cry n =
    { s.cry n with job := some { j with phase := .failed code, written := stoppedWritten j s.drawNat.1, slot := none } } := by
  have hcry (bs : Bytes) : ((s.drawNat.2.engineWrite (ctxOf n) j.dst.toNat bs).cryRelease n).cry n = s.cry n :=
    State.cry_of_press_eq (s.drawNat.2.engineWrite_press ..) n
  rw [State.stopped, State.cry_setCryJob_same, hcry]

theorem State.keysRise_stopped (hrise : keysRise s.press.pages) : keysRise (s.stopped n j code).press.pages := by
  refine keysRise_tset ?_ _ _
  change keysRise (s.drawNat.2.engineWrite ..).press.pages
  rwa [State.engineWrite_press]

end

/-- CANCEL ends a job that has not failed with ABORTED, without its pipeline and its staging slot (R331). -/
theorem exec_cryCancel_of_going {s : State} {c : Ctx} (htrigger : s.canTrigger c = true) (hgrant : s.granted c 0 = true)
    (hrise : keysRise s.press.pages) {j : PressJob} (hjob : (s.cry (ctxNum c)).job = some j)
    (hphase : ∀ e, j.phase ≠ .failed e) : ∃ t, exec (.cryCancel c) s = .next t ∧ s.pressOnly t ∧
      t.cry (ctxNum c) = { s.cry (ctxNum c) with
        job := some { j with phase := .failed 10, written := stoppedWritten j s.drawNat.1, slot := none } } ∧
      t.pipeless (ctxNum c) ∧ ∀ e ∈ t.press.staging, e.2 ≠ ctxNum c := by
  have hcry := s.cry_stopped (ctxNum c) j 10
  obtain ⟨honly, hsame, hpipes, hstaging⟩ := State.pressGo_of_settled (s.keysRise_stopped (ctxNum c) j 10 hrise)
    (congrArg PressPage.job hcry) nofun nofun (State.pipeless_cryRelease _ _)
  refine ⟨_, (exec_cryCancel htrigger hgrant).trans (congrArg Host.Outcome.next (State.cryStop_of_going hjob hphase 10)),
    (s.pressOnly_stopped _ _ _).trans honly, hsame.trans hcry, hpipes, ?_⟩
  rw [hstaging]
  exact fun e he => of_decide_eq_true (List.mem_filter.mp he).2

/-! ## Pipelines in service (R346) -/

theorem State.pressOut_iff (s : State) :
    s.pressOut = true ↔ ∀ x, x < 16 → (s.pipeAt x).test = true ∨ 3 ≤ (s.pipeAt x).faults := by
  simp [State.pressOut, pipeOut]

theorem State.pressOut_eq_false {s : State} (h : ∃ x, x < 16 ∧ (s.pipeAt x).test = false ∧ (s.pipeAt x).faults < 3) :
    s.pressOut = false := by
  obtain ⟨x, hx, htest, hfaults⟩ := h
  refine Bool.eq_false_iff.mpr fun hout => ?_
  rcases s.pressOut_iff.mp hout x hx with h | h
  · exact nomatch htest.symm.trans h
  · omega

theorem State.pressDead_eq_false {s : State} (h : s.pressOut = false) : s.pressDead = false := by
  refine Bool.eq_false_iff.mpr fun hdead => Bool.eq_false_iff.mp h (s.pressOut_iff.mpr fun x hx => .inr ?_)
  exact of_decide_eq_true (List.all_eq_true.mp hdead x (List.mem_range.mpr hx))

/-! ## What a row's MODE word passes -/

theorem mDec_rowMode {mode row : Word} {i : Instr} {c : Ctx} (hi : (i, row) ∈ pressRows c mode) :
    mDec (rowMode mode row) = true ↔ 8 ≤ row.toNat := by
  obtain ⟨-, -, hdir⟩ := pressRow_code hi
  rw [mDec, bit_rowMode_low mode row (by decide), hdir]

theorem mGen_rowMode {mode row : Word} (hrow : row.toNat < 16) : mGen (rowMode mode row) = bit mode 4 :=
  bit_rowMode_high mode hrow (Nat.le_refl 4)

theorem mTlen_rowMode {mode row : Word} (hrow : row.toNat < 16) : mTlen (rowMode mode row) = mode.toNat / 256 % 32 :=
  fld_rowMode_high mode hrow (by decide) 5

theorem State.modeOk_rowJob (s : State) (n : Nat) (p : PressPage) {mode row : Word} (hrow : row.toNat < 16) {md : Nat}
    {dec : Prop} (hmd : mMode (rowMode mode row) = md) (hdec : mDec (rowMode mode row) = true ↔ dec) :
    s.modeOk n (rowJob p (rowMode mode row)) ↔
      mode.toNat / 2 ^ 5 % 8 = 0 ∧ mode.toNat / 2 ^ 13 % 8 = 0 ∧ mode.toNat / 2 ^ 22 = 0 ∧
      (if md = 2 then 12 ≤ mode.toNat / 256 % 32 ∧ mode.toNat / 256 % 32 ≤ 16
        else if md = 4 then 8 ≤ mode.toNat / 256 % 32 ∧ mode.toNat / 256 % 32 ≤ 16 else mode.toNat / 256 % 32 = 0) ∧
      (¬ dec ∧ (md = 1 ∨ md = 2) → ¬ bit mode 4 = true → s.nctrOf n p.nctr.toNat ≠ none) := by
  have htop : fld (rowMode mode row) 22 10 = mode.toNat / 2 ^ 22 := by
    rw [fld_rowMode_high mode hrow (by decide), Nat.mod_eq_of_lt]
    exact Nat.div_lt_of_lt_mul mode.isLt
  have hjob : (rowJob p (rowMode mode row)).mode = rowMode mode row := rfl
  rw [State.modeOk, hjob, tlenOk_iff hmd, mNonce_iff hmd hdec, mTlen_rowMode hrow, mGen_rowMode hrow, htop,
    fld_rowMode_high mode hrow (by decide), fld_rowMode_high mode hrow (by decide)]
  rfl

/-! ## What a row does -/

/-- On the page as an accepted GO finds it a job is set. -/
theorem State.setCryJob_goTaken (s : State) (n : Nat) (m : Word) (j : PressJob) : (s.goTaken n m).setCryJob n j =
    (s.setCry n { s.cry n with mode := m, refused := false, job := some j }).ungate 16 16 := by
  change ((s.setCry n { s.cry n with mode := m, refused := false }).setCryJob n j).ungate 16 16 = _
  rw [State.setCryJob, State.cry_setCry_same, State.setCry_setCry]

section

variable {s : State} {c : Ctx} {mode row : Word} {i : Instr} (hi : (i, row) ∈ pressRows c mode)
  (htrigger : s.canTrigger c = true) (hgrant : s.granted c 0 = true)

include hi htrigger hgrant

/-- A GO on a page that holds a job (R323). -/
theorem exec_pressRow_of_job (hjob : (s.cry (ctxNum c)).job ≠ none) :
    exec i s = .next (s.setCry (ctxNum c) { s.cry (ctxNum c) with mode := rowMode mode row, refused := true }) :=
  (exec_pressRow hi s).trans (State.cryRow_of_job htrigger hgrant mode row hjob)

variable (hjob : (s.cry (ctxNum c)).job = none)

include hjob

/-- A job that fails a check before the nonce's changes its page alone, and the clock gates (R325). -/
theorem exec_pressRow_of_error {e : Nat}
    (hcheck : s.cryCheck c (rowJob (s.cry (ctxNum c)) (rowMode mode row)) = .error e) :
    ∃ t, exec i s = .next t ∧ t = { s with
      clk := { s.clk with gated := t.clk.gated }
      press := { s.press with pages := tset s.press.pages (ctxNum c) { s.cry (ctxNum c) with
        mode := rowMode mode row, refused := false
        job := some { rowJob (s.cry (ctxNum c)) (rowMode mode row) with phase := .failed (BitVec.ofNat 5 e) } } } } := by
  refine ⟨_, (exec_pressRow hi s).trans (State.cryRow_of_no_job htrigger hgrant mode row hjob), ?_⟩
  rw [hcheck, State.goChecked, State.setCryJob_goTaken]
  rfl

/-- A job that passes these checks is taken, and fails only for an exhausted count of GEN nonces (R325, R336). -/
theorem exec_pressRow_of_ok (hrise : keysRise s.press.pages) (hserves : s.pressDead = false) {j : PressJob}
    (hcheck : s.cryCheck c (rowJob (s.cry (ctxNum c)) (rowMode mode row)) = .ok j) (hburst : j.burst = 0)
    (hfirst : j.suspended = false) :
    ∃ t j', exec i s = .next t ∧ s.takesOnly t ∧
      t.cry (ctxNum c) = { s.cry (ctxNum c) with
        mode := rowMode mode row, refused := false, job := some j', gen := (t.cry (ctxNum c)).gen
        resv := (t.cry (ctxNum c)).resv } ∧ j'.asked = j.asked ∧
      ∀ e, j'.phase = .failed e → e = 13 ∧ mNonce j.mode = true ∧ mGen j.mode = true ∧ 2 ^ 32 ≤ (s.cry (ctxNum c)).gen := by
  obtain ⟨honly, j', g, v, hpage, hasked, hphase⟩ := State.cryNonce_takesJob (s := s.goTaken (ctxNum c) (rowMode mode row))
    (keysRise_tset hrise _ _) hserves (ctxNum c) hburst hfirst
  have hcry : (s.goTaken (ctxNum c) (rowMode mode row)).cry (ctxNum c) =
    { s.cry (ctxNum c) with mode := rowMode mode row, refused := false } := s.cry_setCry_same (ctxNum c) _
  have htaken : s.takesOnly (s.goTaken (ctxNum c) (rowMode mode row)) := rfl
  rw [hcry] at hpage hphase
  have hexec := (exec_pressRow hi s).trans (State.cryRow_of_no_job htrigger hgrant mode row hjob)
  rw [hcheck] at hexec
  exact ⟨_, j', hexec, htaken.trans honly, by rw [State.goChecked, hpage], hasked, hphase⟩

end

end Sys2Proof.Machine

namespace Sys2Proof.Proofs

open Sys2Proof Sys2Proof.Machine

/-- Settles O45: a row is its MODE word and GO, and GO goes by the first check that fails. What the other jobs do next reaches neither
the page of a job that has failed nor the ports and the key of one that waits. -/
theorem pressSubmit : Obligations.PressSubmit := by
  intro s c mode htrigger hgrant htabs n p
  refine ⟨fun i row hi => ?submit, fun hjob => ?cancelNone, fun j e hjob hphase => ?cancelFailed, fun j hjob hphase => ?cancel⟩
  case cancelNone =>
    rw [exec_cryCancel htrigger hgrant, State.cryStop_of_no_job hjob]
  case cancelFailed =>
    rw [exec_cryCancel htrigger hgrant, State.cryStop_of_failed hjob hphase]
  case cancel =>
    obtain ⟨t, hexec, honly, hcry, hpipes, hstaging⟩ := exec_cryCancel_of_going htrigger hgrant htabs.press hjob hphase
    exact ⟨t, _, hexec, honly, hcry, fun hstaged => stoppedWritten_staged hstaged _, hpipes, hstaging⟩
  case submit =>
    intro m md dec nonce gen job tlen len goodTag goodMode goodLen fails k k2 right
    obtain ⟨hrow, hmodes, -⟩ := pressRow_code hi
    have hmd : mMode m = md := mMode_rowMode mode row
    have hdec : mDec m = true ↔ dec := mDec_rowMode hi
    have hnonce : mNonce m = true ↔ nonce := mNonce_iff hmd hdec
    have hgen : mGen m = true ↔ gen := Bool.eq_iff_iff.mp (mGen_rowMode hrow)
    have hmode : s.modeOk n job ↔ goodMode := s.modeOk_rowJob n p hrow hmd hdec
    have hlen : lenOk m len p.alen.toNat = true ↔ goodLen := lenOk_iff hmd hdec hmodes len p.alen.toNat
    have hright : mPolicy m = right := mPolicy_eq (dec := 8 ≤ row.toNat) hmd hdec
    have hsecond : s.secondKey c job = k2 := by rw [State.secondKey, hmd]
    have hknown : 1 ≤ mMode m ∧ mMode m ≤ 6 := by rwa [hmd]
    refine ⟨exec_pressRow_of_job hi htrigger hgrant, fun hjob => ?_⟩
    have hfails {e : Nat} (hcheck : s.cryCheck c job = .error e) : fails (BitVec.ofNat 5 e) :=
      exec_pressRow_of_error hi htrigger hgrant hjob hcheck
    refine ⟨fun hout => hfails (State.cryCheck_out (s.pressOut_iff.mpr hout) c job), fun hpipe => ?_⟩
    have hserves := State.pressOut_eq_false hpipe
    refine ⟨fun hbad => hfails (State.cryCheck_bad_mode hserves hknown ((not_congr hmode).mpr hbad)),
      fun hm hbad => hfails (State.cryCheck_bad_len hserves hknown (hmode.mpr hm) ((not_congr hlen).mpr hbad)),
      fun hm hl hbad => hfails (State.cryCheck_bad_addr hserves hknown (hmode.mpr hm) (hlen.mpr hl) hbad),
      fun hm hl haddr => ⟨fun hbad => hfails (State.cryCheck_bad_root hserves hknown (hmode.mpr hm) (hlen.mpr hl) haddr hbad),
        fun hroot hmissing => ?missing, fun v w hroot hv hw => ?keys⟩⟩
    all_goals have hkeys := State.cryCheck_eq_cryKeys hserves hknown (hmode.mpr hm) (hlen.mpr hl) haddr hroot
    case missing => exact hfails (hkeys.trans (State.cryKeys_missing (by rwa [hsecond])))
    case keys =>
      rw [State.cryKeys_eq hv (hsecond.trans hw), hright, hmd] at hkeys
      refine ⟨fun haes => hfails (hkeys.trans (if_pos haes)), fun haes hmay => ?policy, fun haes hmay hxts hsame => ?equal,
        fun haes hmay hn hg hrng => ?random, fun haes hmay hdiffer hrng => ?taken⟩
      case policy => exact hfails (e := 3) (by rw [hkeys, if_neg (not_not_intro haes), if_pos hmay])
      all_goals rw [if_neg (not_not_intro haes), if_neg (not_not_intro hmay)] at hkeys
      case equal => exact hfails (hkeys.trans (if_pos ⟨hxts, hsame⟩))
      case random =>
        have hother : ¬ (md = 3 ∧ v.key = w.key) := fun ⟨hxts, _⟩ => by omega
        exact hfails (e := 8) (by rw [hkeys, if_neg hother, if_pos ⟨hnonce.mpr hn, hgen.mpr hg, hrng⟩])
      case taken =>
        rw [if_neg fun ⟨hxts, hsame⟩ => hdiffer hxts hsame,
          if_neg fun ⟨hn, hg, hfail⟩ => nomatch hfail.symm.trans (hrng (hnonce.mp hn) (hgen.mp hg))] at hkeys
        obtain ⟨t, j, hexec, honly, hpage, hasked, hphase⟩ :=
          exec_pressRow_of_ok hi htrigger hgrant hjob htabs.press (State.pressDead_eq_false hserves) hkeys rfl rfl
        refine ⟨t, j, hexec, hpage, (congrArg PressJob.mat hasked :),
          (congrArg (fun j : PressJob => { j with mat := [] }) hasked :), honly, fun e he => ?_⟩
        obtain ⟨hcode, hn, hg, hspent⟩ := hphase e he
        exact ⟨hcode, hnonce.mp hn, hgen.mp hg, hspent⟩

end Sys2Proof.Proofs
end

section
/-! Lanes and their virtual channels (spec ch. 13, R417-R434): what reading a lane or a VC gives after a write, what sending, completing
a request and a tile's answer leave of a lane, and which lines of the machine they reach. -/

namespace Sys2Proof.Machine

open Sys2Proof

/-! ## A read after a write -/

@[simp] theorem State.laneAt_setLane_same (s : State) (l : Nat) (x : LaneSt) : (s.setLane l x).laneAt l = x := tget_tset_same ..

theorem State.laneAt_setLane_other (s : State) {l k : Nat} (h : k ≠ l) (x : LaneSt) : (s.setLane l x).laneAt k = s.laneAt k :=
  tget_tset_other _ h _ _

@[simp] theorem State.setLane_setLane (s : State) (l : Nat) (x y : LaneSt) : (s.setLane l x).setLane l y = s.setLane l y := by
  simp [State.setLane, tset_tset]

@[simp] theorem LaneSt.vcAt_setVc_same (x : LaneSt) (v : Nat) (c : VcState) : (x.setVc v c).vcAt v = c := tget_tset_same ..

theorem LaneSt.vcAt_setVc_other (x : LaneSt) {v w : Nat} (h : w ≠ v) (c : VcState) : (x.setVc v c).vcAt w = x.vcAt w :=
  tget_tset_other _ h _ _

@[simp] theorem LaneSt.setVc_setVc (x : LaneSt) (v : Nat) (c d : VcState) : (x.setVc v c).setVc v d = x.setVc v d := by
  simp [LaneSt.setVc, tset_tset]

theorem State.setVc_eq (s : State) (l v : Nat) (c : VcState) : s.setVc l v c = s.setLane l ((s.laneAt l).setVc v c) := rfl

@[simp] theorem State.laneAt_setVc_same (s : State) (l v : Nat) (c : VcState) :
    (s.setVc l v c).laneAt l = (s.laneAt l).setVc v c := State.laneAt_setLane_same ..

@[simp] theorem State.vcAt_setVc_same (s : State) (l v : Nat) (c : VcState) : (s.setVc l v c).vcAt l v = c := by
  simp [State.vcAt]

@[simp] theorem State.setVc_setVc (s : State) (l v : Nat) (c d : VcState) : (s.setVc l v c).setVc l v d = s.setVc l v d := by
  simp [State.setVc_eq]

/-- What each of some updates does, all of them in turn do. -/
theorem State.foldl_rel {α : Type} {R : State → State → Prop} (hrefl : ∀ s, R s s) (htrans : ∀ {s t u}, R s t → R t u → R s u)
    {f : State → α → State} (hf : ∀ t x, R t (f t x)) (xs : List α) (s : State) : R s (xs.foldl f s) := by
  induction xs generalizing s with
  | nil => exact hrefl s
  | cons x xs ih => exact htrans (hf s x) (ih (f s x))

theorem State.foldl_field {α β : Type} (g : State → β) {f : State → α → State} (hf : ∀ t x, g (f t x) = g t) (xs : List α)
    (s : State) : g (xs.foldl f s) = g s :=
  State.foldl_rel (R := fun s t => g t = g s) (fun _ => rfl) (fun hst htu => htu.trans hst) hf xs s

/-! ## What is kept of lanes and VCs -/

/-- From `s` to `t` each lane keeps all but its VCs and LINK_CNT_DROP, and each VC keeps what `f` reads of it. -/
structure State.vcsKeep {α : Type} (f : VcState → α) (s t : State) : Prop where
  lane : ∀ l, t.laneAt l = { s.laneAt l with vc := (t.laneAt l).vc, cntDrop := (t.laneAt l).cntDrop }
  vcs  : ∀ l v, f (t.vcAt l v) = f (s.vcAt l v)

/-- The receiving side of a VC: EXP, and whether a NAK is outstanding (R418). -/
def VcState.rx (c : VcState) : BitVec 12 × Bool := (c.exp, c.nakOut)

/-- SEQ and transmissions so far of each packet. -/
def sentOf (ps : List TxPkt) : List (BitVec 12 × Nat) := ps.map fun p => (p.seq, p.sent)

/-- The unacknowledged packets of a VC, by SEQ and transmissions so far (R421). -/
def VcState.unacked (c : VcState) : List (BitVec 12 × Nat) := sentOf c.replay

section

variable {α : Type} {f : VcState → α} {s t u : State}

theorem State.vcsKeep_of_lanes (h : t.lanes = s.lanes) : s.vcsKeep f t := by
  have hlane (l : Nat) : t.laneAt l = s.laneAt l := congrArg (fun ls : Tab LaneSt => tget ls l {}) h
  exact ⟨fun l => by rw [hlane l], fun l v => by rw [State.vcAt, hlane l, State.vcAt]⟩

theorem State.vcsKeep.refl (s : State) : s.vcsKeep f s := State.vcsKeep_of_lanes rfl

theorem State.vcsKeep.trans (hst : s.vcsKeep f t) (htu : t.vcsKeep f u) : s.vcsKeep f u where
  lane l := by
    have h := htu.lane l
    rw [hst.lane l] at h
    exact h
  vcs l v := (htu.vcs l v).trans (hst.vcs l v)

theorem State.vcsKeep.foldl {β : Type} {g : State → β → State} (hg : ∀ t x, State.vcsKeep f t (g t x)) (xs : List β) (s : State) :
    s.vcsKeep f (xs.foldl g s) :=
  State.foldl_rel .refl .trans hg xs s

theorem State.vcsKeep_setVc (l v : Nat) {c : VcState} (hc : f c = f (s.vcAt l v)) : s.vcsKeep f (s.setVc l v c) where
  lane k := by
    by_cases hk : k = l
    · subst hk
      rw [State.laneAt_setVc_same]
      rfl
    · rw [State.setVc_eq, s.laneAt_setLane_other hk]
  vcs k w := by
    by_cases hk : k = l
    · subst hk
      by_cases hw : w = v
      · subst hw
        rw [State.vcAt_setVc_same, hc]
      · rw [State.vcAt, State.laneAt_setVc_same, LaneSt.vcAt_setVc_other _ hw, State.vcAt]
    · rw [State.vcAt, State.setVc_eq, s.laneAt_setLane_other hk, State.vcAt]

theorem State.vcsKeep_countDrop (s : State) (l : Nat) : s.vcsKeep f (s.countDrop l) := by
  have hlane (k : Nat) : (s.countDrop l).laneAt k =
      { s.laneAt k with cntDrop := ((s.countDrop l).laneAt k).cntDrop } := by
    by_cases hk : k = l
    · subst hk
      rw [State.countDrop, State.modLane, State.laneAt_setLane_same]
    · rw [State.countDrop, State.modLane, s.laneAt_setLane_other hk]
  refine ⟨fun k => ?_, fun k v => (congrArg (fun x : LaneSt => f (x.vcAt v)) (hlane k) :)⟩
  rw [hlane k]

end

/-! ## Lines, memory and blocks reach no lane -/

@[simp] theorem State.raiseLine_lanes (s : State) (c : Ctx) (line : Nat) : (s.raiseLine c line).lanes = s.lanes := by
  cases c with
  | keystone => rfl
  | cask n => simp only [State.raiseLine]; split <;> rfl

@[simp] theorem State.raiseLine_out (s : State) (c : Ctx) (line : Nat) : (s.raiseLine c line).out = s.out := by
  cases c with
  | keystone => rfl
  | cask n => simp only [State.raiseLine]; split <;> rfl

theorem State.lanes_of_pressOnly {s t : State} (h : s.pressOnly t) : t.lanes = s.lanes := by
  rw [h]

@[simp] theorem State.engineWrite_lanes (s : State) (c : Ctx) (a : Nat) (bs : Bytes) : (s.engineWrite c a bs).lanes = s.lanes :=
  State.lanes_of_pressOnly (s.pressOnly_engineWrite c a bs)

theorem State.orFree_lanes (s : State) (v : Option Word) : (s.orFree v).2.lanes = s.lanes := by
  cases v <;> rfl

theorem State.orFree_out (s : State) (v : Option Word) : (s.orFree v).2.out = s.out := by
  cases v <;> rfl

@[simp] theorem State.completeBlock_lanes (s : State) (c : Ctx) (blk : Nat) (r : Option Word) (status line : Nat) :
    (s.completeBlock c blk r status line).lanes = s.lanes := by
  unfold State.completeBlock
  split
  · rfl
  · simp [State.orFree_lanes]

@[simp] theorem State.completeBlock_out (s : State) (c : Ctx) (blk : Nat) (r : Option Word) (status line : Nat) :
    (s.completeBlock c blk r status line).out = s.out := by
  unfold State.completeBlock
  split
  · rfl
  · simp [State.orFree_out]

/-! ## LNK requests that end (R438, R439) -/

theorem State.vcsKeep_lnkComplete {α : Type} {f : VcState → α} (hf : ∀ n c, f (detachVc n c) = f c) (s : State) (n : Nat)
    (code : BitVec 5) : s.vcsKeep f (s.lnkComplete n code) := by
  unfold State.lnkComplete
  dsimp only
  split
  · exact .refl s
  next j _ =>
    refine (State.vcsKeep_setVc j.lane.val j.vc.val (hf n _)).trans (State.vcsKeep_of_lanes ?_)
    split
    · exact State.raiseLine_lanes ..
    · rfl

theorem detachVc_rx (n : Nat) (c : VcState) : (detachVc n c).rx = c.rx := rfl

theorem detachVc_unacked (n : Nat) (c : VcState) : (detachVc n c).unacked = c.unacked := by
  simp only [VcState.unacked, sentOf, detachVc, List.map_map]
  refine List.map_congr_left fun p _ => ?_
  simp only [Function.comp]
  split <;> rfl

/-! ## Sending (R420, R423, R432) -/

/-- `d` is `c` after packets have left its queue for the replay buffer. -/
def Sends (c d : VcState) : Prop :=
  ∃ new, d = { c with queue := d.queue, deficit := d.deficit, txSeq := d.txSeq, replay := c.replay ++ new }

theorem Sends.refl (c : VcState) : Sends c c := ⟨[], by rw [List.append_nil]⟩

theorem Sends.trans {c d e : VcState} (hcd : Sends c d) (hde : Sends d e) : Sends c e := by
  obtain ⟨new, hd⟩ := hcd
  obtain ⟨more, he⟩ := hde
  refine ⟨new ++ more, ?_⟩
  rw [hd] at he
  rw [← List.append_assoc]
  exact he

theorem Sends.rx_eq {c d : VcState} (h : Sends c d) : d.rx = c.rx := by
  obtain ⟨new, hd⟩ := h
  rw [hd]
  rfl

theorem Sends.replay_eq {c d : VcState} (h : Sends c d) : ∃ new, d.replay = c.replay ++ new := by
  obtain ⟨new, hd⟩ := h
  exact ⟨new, congrArg VcState.replay hd⟩

/-- The packet that is sent next leaves the queue, and the deficits of the round robin change. -/
theorem State.vcNext_some {s : State} {c d : VcState} {p : TxPkt} (h : s.vcNext c = some (p, d)) :
    d = { c with queue := d.queue, deficit := d.deficit } := by
  unfold State.vcNext at h
  split at h
  · cases h
    rfl
  · split at h
    · cases h
    · obtain ⟨q, -, hq⟩ := Option.map_eq_some_iff.mp h
      cases hq
      rfl

theorem State.sends_vcSend (s : State) (size : Nat) (c : VcState) : Sends c (s.vcSend size c) := by
  unfold State.vcSend
  split
  · exact .refl c
  next p d hnext =>
    have hd := State.vcNext_some hnext
    split
    · refine ⟨[{ p with seq := d.txSeq, sent := 1 }], ?_⟩
      rw [hd]
    · exact .refl c

theorem State.sends_foldl {α : Type} (s : State) (size : Nat) (xs : List α) (c : VcState) :
    Sends c (xs.foldl (fun c _ => s.vcSend size c) c) := by
  induction xs generalizing c with
  | nil => exact .refl c
  | cons _ xs ih => exact (s.sends_vcSend size c).trans (ih _)

theorem State.pump_of_not_up {s : State} {l : Nat} (h : (s.laneAt l).state ≠ .up) (v : Nat) : s.pump l v = s := if_neg h

/-- An UP lane sends: of the machine only that VC changes. -/
theorem State.pump_of_up {s : State} {l : Nat} (h : (s.laneAt l).state = .up) (v : Nat) :
    ∃ d, Sends (s.vcAt l v) d ∧ s.pump l v = s.setVc l v d :=
  ⟨_, s.sends_foldl _ _ _, if_pos h⟩

theorem State.vcsKeep_pump_rx (s : State) (l v : Nat) : s.vcsKeep VcState.rx (s.pump l v) := by
  by_cases hup : (s.laneAt l).state = .up
  · obtain ⟨d, hsends, hpump⟩ := State.pump_of_up hup v
    rw [hpump]
    exact State.vcsKeep_setVc l v hsends.rx_eq
  · rw [State.pump_of_not_up hup]
    exact .refl s

theorem State.vcsKeep_enqueue_rx (s : State) (l v : Nat) (p : TxPkt) : s.vcsKeep VcState.rx (s.enqueue l v p) :=
  .trans (State.vcsKeep_setVc l v (c := { s.vcAt l v with queue := (s.vcAt l v).queue ++ [p] }) rfl) (State.vcsKeep_pump_rx _ l v)

theorem State.pump_frame (s : State) (l v : Nat) : s.pump l v = { s with lanes := (s.pump l v).lanes } := by
  unfold State.pump
  dsimp only
  split <;> rfl

theorem State.enqueue_frame (s : State) (l v : Nat) (p : TxPkt) : s.enqueue l v p = { s with lanes := (s.enqueue l v p).lanes } :=
  State.pump_frame _ l v

end Sys2Proof.Machine
end

section
/-! Packets delivered (spec ch. 13, R418, R425): no consumer of an accepted packet touches the receiving side of a VC. -/

namespace Sys2Proof.Machine

open Sys2Proof

/-! ## Tiles (R446-R473) -/

@[simp] theorem State.limitEnd_lanes (s : State) (k status : Nat) : (s.limitEnd k status).lanes = s.lanes := by
  unfold State.limitEnd
  split
  · rfl
  · exact State.completeBlock_lanes ..

@[simp] theorem State.limitEnd_out (s : State) (k status : Nat) : (s.limitEnd k status).out = s.out := by
  unfold State.limitEnd
  split
  · rfl
  · exact State.completeBlock_out ..

@[simp] theorem State.authPump_lanes (s : State) : s.authPump.lanes = s.lanes :=
  State.foldl_field State.lanes (fun t e => by dsimp only; split <;> rfl) _ s

@[simp] theorem State.tileFound_lanes (s : State) (l a : Nat) (id : Dword) : (s.tileFound l a id).lanes = s.lanes :=
  State.authPump_lanes _

@[simp] theorem State.tileChange_lanes (s : State) (l : Nat) : (s.tileChange l).lanes = s.lanes := State.raiseLine_lanes ..

@[simp] theorem State.loopAnswered_lanes (s : State) (n k : Nat) : (s.loopAnswered n k).lanes = s.lanes := by
  unfold State.loopAnswered
  dsimp only
  split
  · split
    · exact State.raiseLine_lanes ..
    · rfl
  · rfl

@[simp] theorem State.writeRecord_lanes (s : State) (n k : Nat) (data : Bytes) : (s.writeRecord n k data).lanes = s.lanes := by
  unfold State.writeRecord
  dsimp only
  split
  · exact State.engineWrite_lanes ..
  · rfl

theorem State.vcsKeep_sendMgmt_rx (s : State) (l : Nat) (addr mcode : Byte) (body : Bytes) :
    s.vcsKeep VcState.rx (s.sendMgmt l addr mcode body) := s.vcsKeep_enqueue_rx l 0 _

theorem State.vcsKeep_enumNext_rx (s : State) (l : Nat) : s.vcsKeep VcState.rx (s.enumNext l) := by
  unfold State.enumNext
  split
  · exact State.vcsKeep_of_lanes rfl
  next a _ =>
    have hoffered : s.vcsKeep VcState.rx (s.modChain l fun c => { c with enum := some (BitVec.ofNat 6 a) }) :=
      State.vcsKeep_of_lanes rfl
    exact hoffered.trans (State.vcsKeep_sendMgmt_rx _ _ _ _ _)

theorem State.vcsKeep_startDiscovery_rx (s : State) (l : Nat) : s.vcsKeep VcState.rx (s.startDiscovery l) := by
  unfold State.startDiscovery
  split
  · exact .refl s
  · split
    · split
      · exact State.vcsKeep_of_lanes rfl
      · exact .refl s
    · split
      · exact .refl s
      · exact s.vcsKeep_enumNext_rx l

theorem State.vcsKeep_enumAnswer_rx (s : State) (l : Nat) (p : Pkt) : s.vcsKeep VcState.rx (s.enumAnswer l p) := by
  unfold State.enumAnswer
  split
  · exact .refl s
  · split
    · exact (State.vcsKeep_of_lanes (State.tileFound_lanes ..)).trans (State.vcsKeep_enumNext_rx _ l)
    · exact .refl s

theorem State.vcsKeep_linkChange_rx (s : State) (l : Nat) (p : Pkt) : s.vcsKeep VcState.rx (s.linkChange l p) := by
  unfold State.linkChange
  split
  · split
    · exact .refl s
    · exact s.vcsKeep_startDiscovery_rx l
  · refine .foldl (fun t k => ?_) _ s
    have hpinged : t.vcsKeep VcState.rx (t.modTile k fun x => { x with exch := x.exch ++ [.ping] }) := State.vcsKeep_of_lanes rfl
    exact hpinged.trans (State.vcsKeep_sendMgmt_rx _ _ _ _ _)
  · exact .refl s

theorem State.pongAnswer_lanes (s : State) (l : Nat) (p : Pkt) : (s.pongAnswer l p).lanes = s.lanes := by
  unfold State.pongAnswer
  dsimp only
  split <;> rfl

theorem State.authAnswer_lanes (s : State) (l : Nat) (p : Pkt) : (s.authAnswer l p).lanes = s.lanes := by
  unfold State.authAnswer
  dsimp only
  split <;> rfl

theorem State.authDone_lanes (s : State) (l : Nat) (p : Pkt) : (s.authDone l p).lanes = s.lanes := by
  unfold State.authDone
  dsimp only
  split
  · simp
  · rfl

theorem State.senseAnswer_lanes (s : State) (l : Nat) (p : Pkt) : (s.senseAnswer l p).lanes = s.lanes := by
  unfold State.senseAnswer
  dsimp only
  split
  · rfl
  · split
    · split <;> simp
    · rfl

theorem State.limitAnswer_lanes (s : State) (l : Nat) (p : Pkt) : (s.limitAnswer l p).lanes = s.lanes := by
  unfold State.limitAnswer
  dsimp only
  split
  · rfl
  · split
    · exact State.limitEnd_lanes ..
    · rfl

/-! ## The frame path (R485-R490, R500) -/

theorem State.fackAnswer_lanes (s : State) (l : Nat) (p : Pkt) : (s.fackAnswer l p).lanes = s.lanes := by
  unfold State.fackAnswer
  dsimp only
  split
  · split
    · split <;> rfl
    · rfl
  · rfl

@[simp] theorem State.ssbZero_lanes (s : State) (gs : List Nat) : (s.ssbZero gs).lanes = s.lanes :=
  State.foldl_field State.lanes (fun t g => t.clear_lanes (ssbAddr g) 0x1000) gs s

@[simp] theorem State.ssbStore_lanes (s : State) (gs : List Nat) (bs : Bytes) : (s.ssbStore gs bs).lanes = s.lanes :=
  State.foldl_field State.lanes (fun t (e : Nat × Bytes) => t.wrBytes_lanes (ssbAddr e.1) e.2) _ s

@[simp] theorem State.ownerLine_lanes (s : State) (r : Nat) : (s.ownerLine r).lanes = s.lanes := by
  unfold State.ownerLine
  dsimp only
  split
  · exact State.raiseLine_lanes ..
  · rfl

@[simp] theorem State.segRecord_lanes (s : State) (r : Nat) (code : BitVec 4) : (s.segRecord r code).lanes = s.lanes := by
  unfold State.segRecord
  dsimp only
  split
  · rfl
  · split
    · rfl
    · simp

@[simp] theorem State.setAsm_lanes (s : State) (i : Nat) (a : Assembly) : (s.setAsm i a).lanes = s.lanes := rfl

@[simp] theorem State.asmDrop_lanes (s : State) (i : Nat) : (s.asmDrop i).lanes = s.lanes := State.ssbZero_lanes s _

@[simp] theorem State.asmBad_lanes (s : State) (i : Nat) : (s.asmBad i).lanes = s.lanes := by
  unfold State.asmBad
  dsimp only
  split
  · rfl
  · split <;> simp

@[simp] theorem State.asmHeader_lanes (s : State) (i : Nat) (a : Assembly) : (s.asmHeader i a).lanes = s.lanes := by
  unfold State.asmHeader
  dsimp only
  split
  · rfl
  · split
    · rfl
    · split
      · split <;> simp
      · rfl

theorem State.cryBegin_lanes (s : State) (n : Nat) (j : PressJob) : (s.cryBegin n j).lanes = s.lanes := by
  obtain ⟨u, j', heq, honly, -⟩ := s.cryBegin_eq n j
  rw [heq]
  exact (State.lanes_of_pressOnly honly :)

theorem State.pressPick_lanes {s t : State} {n : Nat} (h : s.pressPick = some (n, t)) : t.lanes = s.lanes := by
  obtain ⟨r, -, heq⟩ := Option.map_eq_some_iff.mp h
  exact congrArg (fun e : Nat × State => e.2.lanes) heq.symm

theorem State.pressPump_lanes (k : Nat) (s : State) : (State.pressPump k s).lanes = s.lanes := by
  induction k generalizing s with
  | zero => rfl
  | succ k ih =>
    unfold State.pressPump
    split
    next => rfl
    next hpick =>
      split
      next => exact (ih _).trans ((State.cryBegin_lanes _ _ _).trans (State.pressPick_lanes hpick :))
      next =>
        split
        · exact ih _
        · rfl
      next => rfl

@[simp] theorem State.pressGo_lanes (s : State) : s.pressGo.lanes = s.lanes :=
  (State.pressPump_lanes _ _).trans (State.lanes_of_pressOnly (s.jobsMove_framePump s.frame.segs.length).only)

@[simp] theorem State.asmLast_lanes (s : State) (i : Nat) : (s.asmLast i).lanes = s.lanes := by
  unfold State.asmLast
  dsimp only
  split
  · rfl
  · split
    · exact State.asmBad_lanes ..
    · split
      · exact State.asmBad_lanes ..
      · exact State.pressGo_lanes _

@[simp] theorem State.asmAdd_lanes (s : State) (i : Nat) (a : Assembly) (bs : Bytes) (last : Bool) :
    (s.asmAdd i a bs last).lanes = s.lanes := by
  unfold State.asmAdd
  extract_lets s1 tooLong s2
  have hheader : s1.lanes = s.lanes := State.asmHeader_lanes ..
  have hstored : s2.lanes = s1.lanes := by
    unfold s2
    split
    · split
      · exact State.ssbStore_lanes ..
      · rfl
    · rfl
  split
  · simp [hheader]
  · split <;> simp [hstored, hheader]

theorem State.vcsKeep_dataFragment {α : Type} {f : VcState → α} (s : State) (l : Nat) (p : Pkt) :
    s.vcsKeep f (s.dataFragment l p) := by
  unfold State.dataFragment
  extract_lets i flags frag bs s1
  have hdropped : s1.lanes = s.lanes := State.asmBad_lanes ..
  split
  · exact s.vcsKeep_countDrop l
  · refine State.vcsKeep_of_lanes ?_
    split
    · split <;> simp [hdropped]
    · split
      · rfl
      · split <;> simp

/-! ## Responses (R425, R438) -/

theorem State.vcsKeep_lnkRespond_rx (s : State) (l : Lane) (p : Pkt) : s.vcsKeep VcState.rx (s.lnkRespond l p) := by
  unfold State.lnkRespond
  split
  · exact s.vcsKeep_countDrop l.val
  · split
    · exact .refl s
    · dsimp only
      refine .trans (State.vcsKeep_of_lanes ?_) (State.vcsKeep_lnkComplete detachVc_rx _ _ _)
      simp

/-! ## Every data packet -/

/-- The command brings a data packet: one command per consumer. -/
def BringsPacket (l : Lane) (p : Pkt) (i : Instr) : Prop :=
  i ∈ [Instr.rsp l p, .req l p, .dataPacket l p, .fack l p, .enumRsp l p, .pong l p, .linkChange l p, .authResp l p,
    .authDone l p, .senseRsp l p, .limitAck l p]

/-- Every data packet goes by R414 and R418; its consumer then leaves the receiving side of every VC as it is. -/
theorem exec_bringsPacket {l : Lane} {p : Pkt} {i : Instr} (hi : BringsPacket l p i) :
    ∃ deliver : State → State, (∀ s, exec i s = .next (s.rxPacket l p deliver)) ∧
      ∀ t : State, t.vcsKeep VcState.rx (deliver t) := by
  simp only [BringsPacket, List.mem_cons, List.not_mem_nil, or_false] at hi
  rcases hi with rfl | rfl | rfl | rfl | rfl | rfl | rfl | rfl | rfl | rfl | rfl
  · exact ⟨fun t => t.lnkRespond l p, fun _ => rfl, fun t => t.vcsKeep_lnkRespond_rx l p⟩
  · exact ⟨fun t => t.countDrop l.val, fun _ => rfl, fun t => t.vcsKeep_countDrop l.val⟩
  · exact ⟨fun t => t.dataFragment l.val p, fun _ => rfl, fun t => t.vcsKeep_dataFragment l.val p⟩
  · exact ⟨fun t => t.fackAnswer l.val p, fun _ => rfl, fun t => State.vcsKeep_of_lanes (t.fackAnswer_lanes l.val p)⟩
  · exact ⟨fun t => t.enumAnswer l.val p, fun _ => rfl, fun t => t.vcsKeep_enumAnswer_rx l.val p⟩
  · exact ⟨fun t => t.pongAnswer l.val p, fun _ => rfl, fun t => State.vcsKeep_of_lanes (t.pongAnswer_lanes l.val p)⟩
  · exact ⟨fun t => t.linkChange l.val p, fun _ => rfl, fun t => t.vcsKeep_linkChange_rx l.val p⟩
  · exact ⟨fun t => t.authAnswer l.val p, fun _ => rfl, fun t => State.vcsKeep_of_lanes (t.authAnswer_lanes l.val p)⟩
  · exact ⟨fun t => t.authDone l.val p, fun _ => rfl, fun t => State.vcsKeep_of_lanes (t.authDone_lanes l.val p)⟩
  · exact ⟨fun t => t.senseAnswer l.val p, fun _ => rfl, fun t => State.vcsKeep_of_lanes (t.senseAnswer_lanes l.val p)⟩
  · exact ⟨fun t => t.limitAnswer l.val p, fun _ => rfl, fun t => State.vcsKeep_of_lanes (t.limitAnswer_lanes l.val p)⟩

end Sys2Proof.Machine
end

section
/-! The link layer's answers (spec ch. 13, R414-R424): a received packet, the acknowledgement and the replay of what was sent, what breaks
the link, and the stamps. Statement O50. -/

namespace Sys2Proof.Machine

open Sys2Proof

/-! ## A received packet (R414, R418) -/

/-- The packet passes R414 on an UP lane. -/
structure State.passes (s : State) (l : Lane) (p : Pkt) : Prop where
  up  : (s.laneAt l.val).state = .up
  vc  : p.vc.val < (s.laneAt l.val).v
  len : p.body.length ≤ 1024

section

variable {s : State} {l : Lane} {p : Pkt} {deliver : State → State}

theorem State.rxPacket_of_not_up (h : (s.laneAt l.val).state ≠ .up) : s.rxPacket l p deliver = s := if_pos h

theorem State.rxPacket_of_bad (hup : (s.laneAt l.val).state = .up) (hbad : (s.laneAt l.val).v ≤ p.vc.val ∨ 1024 < p.body.length) :
    s.rxPacket l p deliver = s.countCrc l.val :=
  (if_neg (not_not_intro hup)).trans (if_pos hbad)

variable (hpass : s.passes l p)

include hpass

/-- A packet that passes R414 is answered by how far its SEQ lies from EXP. -/
theorem State.rxPacket_eq :
    s.rxPacket l p deliver =
      if (p.seq - (s.vcAt l.val p.vc.val).exp).toNat = 0 then deliver (s.rxAccept l p.vc.val)
      else if (p.seq - (s.vcAt l.val p.vc.val).exp).toNat < 2048 then
        if (s.vcAt l.val p.vc.val).nakOut then s
        else (s.setVc l.val p.vc.val { s.vcAt l.val p.vc.val with nakOut := true, sinceAck := 0 }).sendCtrl l 0x02 p.vc.val
          ((s.vcAt l.val p.vc.val).exp - 1) 0
      else s.sendAck l p.vc.val :=
  (if_neg (not_not_intro hpass.up)).trans (if_neg (not_or_intro (Nat.not_le.mpr hpass.vc) (Nat.not_lt.mpr hpass.len)))

theorem State.rxPacket_of_next (h : (p.seq - (s.vcAt l.val p.vc.val).exp).toNat = 0) :
    s.rxPacket l p deliver = deliver (s.rxAccept l p.vc.val) :=
  (State.rxPacket_eq hpass).trans (if_pos h)

theorem State.rxPacket_of_gap (h : 1 ≤ (p.seq - (s.vcAt l.val p.vc.val).exp).toNat)
    (h' : (p.seq - (s.vcAt l.val p.vc.val).exp).toNat ≤ 2047) :
    s.rxPacket l p deliver =
      if (s.vcAt l.val p.vc.val).nakOut then s
      else (s.setVc l.val p.vc.val { s.vcAt l.val p.vc.val with nakOut := true, sinceAck := 0 }).sendCtrl l 0x02 p.vc.val
        ((s.vcAt l.val p.vc.val).exp - 1) 0 :=
  (State.rxPacket_eq hpass).trans ((if_neg (by omega)).trans (if_pos (by omega)))

theorem State.rxPacket_of_duplicate (h : 2048 ≤ (p.seq - (s.vcAt l.val p.vc.val).exp).toNat) :
    s.rxPacket l p deliver = s.sendAck l p.vc.val :=
  (State.rxPacket_eq hpass).trans ((if_neg (by omega)).trans (if_neg (by omega)))

end

/-- Acceptance: EXP advances and an outstanding NAK is cleared; the sixteenth packet sends an ACK (R418, R419). -/
theorem State.rxAccept_eq (s : State) (l : Lane) (v : Nat) :
    ∃ n out, s.rxAccept l v =
      { s.setVc l.val v { s.vcAt l.val v with exp := (s.vcAt l.val v).exp + 1, nakOut := false, sinceAck := n } with out := out } := by
  unfold State.rxAccept
  dsimp only
  split
  · refine ⟨0, .ctrl l 0x01 v ((s.vcAt l.val v).exp + 1 - 1) 0 :: s.out, ?_⟩
    simp only [State.sendAck, State.vcAt_setVc_same, State.setVc_setVc]
    rfl
  · exact ⟨_, s.out, rfl⟩

theorem State.rxAccept_rx (s : State) (l : Lane) (v : Nat) :
    ((s.rxAccept l v).vcAt l.val v).rx = ((s.vcAt l.val v).exp + 1, false) := by
  obtain ⟨n, out, heq⟩ := s.rxAccept_eq l v
  have hvc := s.vcAt_setVc_same l.val v
    { s.vcAt l.val v with exp := (s.vcAt l.val v).exp + 1, nakOut := false, sinceAck := n }
  rw [heq]
  exact congrArg VcState.rx hvc

/-- A REQ in sequence is counted as dropped, and nothing else but the lane and its control packets changes (R425). -/
theorem State.countDrop_rxAccept (s : State) (l : Lane) (v : Nat) :
    let t := (s.rxAccept l v).countDrop l.val
    (t.laneAt l.val).cntDrop = satAdd1 (s.laneAt l.val).cntDrop ∧ t = { s with lanes := t.lanes, out := t.out } := by
  obtain ⟨n, out, heq⟩ := s.rxAccept_eq l v
  rw [heq]
  exact ⟨(congrArg LaneSt.cntDrop (State.laneAt_setLane_same _ _ _)).trans
    (congrArg (fun x : LaneSt => satAdd1 x.cntDrop) (s.laneAt_setVc_same l.val v _) :), rfl⟩

/-! ## The broken link (R422, R424, R429, R430) -/

/-- Between `s` and `t` only what a request that ends can change has changed: the lanes, the LNK pages, and the contexts' lines. -/
def State.linkOnly (s t : State) : Prop := t = { s with lanes := t.lanes, lnk := t.lnk, ks := t.ks, casks := t.casks }

theorem State.linkOnly.refl (s : State) : s.linkOnly s := rfl

theorem State.linkOnly.trans {s t u : State} (hst : s.linkOnly t) (htu : t.linkOnly u) : s.linkOnly u := by
  unfold State.linkOnly at hst htu ⊢
  rw [hst] at htu
  exact htu

theorem State.linkOnly.foldl {α : Type} {g : State → α → State} (hg : ∀ t x, State.linkOnly t (g t x)) (xs : List α) (s : State) :
    s.linkOnly (xs.foldl g s) :=
  State.foldl_rel .refl .trans hg xs s

theorem State.linkOnly.out_eq {s t : State} (h : s.linkOnly t) : t.out = s.out := by rw [h]

theorem State.linkOnly_setLane (s : State) (l : Nat) (x : LaneSt) : s.linkOnly (s.setLane l x) := rfl

theorem State.linkOnly_setVc (s : State) (l v : Nat) (c : VcState) : s.linkOnly (s.setVc l v c) := rfl

theorem State.linkOnly_raiseLine (s : State) (c : Ctx) (line : Nat) : s.linkOnly (s.raiseLine c line) := by
  cases c with
  | keystone => rfl
  | cask n => simp only [State.raiseLine]; split <;> rfl

theorem State.linkOnly_lnkComplete (s : State) (n : Nat) (code : BitVec 5) : s.linkOnly (s.lnkComplete n code) := by
  unfold State.lnkComplete
  dsimp only
  split
  · exact .refl s
  · split
    · refine .trans ?_ (State.linkOnly_raiseLine _ _ _)
      rfl
    · rfl

theorem State.linkOnly_pump (s : State) (l v : Nat) : s.linkOnly (s.pump l v) := by
  unfold State.linkOnly
  rw [s.pump_frame l v]

theorem State.linkOnly_lnkLost (s : State) (l : Nat) (keep : Bool) : s.linkOnly (s.lnkLost l keep) := by
  refine .foldl (fun t e => ?_) _ s
  split
  · split
    · exact t.linkOnly_lnkComplete _ _
    · exact .refl t
  · exact .refl t

theorem State.vcsKeep_lnkLost {α : Type} {f : VcState → α} (hf : ∀ n c, f (detachVc n c) = f c) (s : State) (l : Nat) (keep : Bool) :
    s.vcsKeep f (s.lnkLost l keep) := by
  refine .foldl (fun t e => ?_) _ s
  split
  · split
    · exact t.vcsKeep_lnkComplete hf _ _
    · exact .refl t
  · exact .refl t

@[simp] theorem State.limitsLost_lanes (s : State) (l : Nat) : (s.limitsLost l).lanes = s.lanes :=
  State.foldl_field State.lanes (fun t k => t.limitEnd_lanes k 1) _ s

@[simp] theorem State.limitsLost_out (s : State) (l : Nat) : (s.limitsLost l).out = s.out :=
  State.foldl_field State.out (fun t k => t.limitEnd_out k 1) _ s

/-- Requests and LIMITs that end with the lane leave all of it but its VCs and LINK_CNT_DROP. -/
theorem State.vcsKeep_lost (s : State) (l : Nat) : s.vcsKeep (fun _ => ()) ((s.lnkLost l true).limitsLost l) :=
  (s.vcsKeep_lnkLost (fun _ _ => rfl) l true).trans (State.vcsKeep_of_lanes (State.limitsLost_lanes ..))

theorem bit_raised_lineLink (w : Word) : bit (w ||| oneHot lineLink) lineLink = true := by
  rw [bit, BitVec.getLsbD_or, show (oneHot lineLink).getLsbD lineLink = true from rfl, Bool.or_true]

/-- A lane that leaves UP: once its requests and LIMITs have ended it discards its packets, the span unit and the frame path drop what
came over it, and keystone line 8 is raised (R430, R431). -/
theorem State.leaveUp_eq {s : State} {l : Nat} (hup : (s.laneAt l).state = .up) :
    ∃ span frame, s.leaveUp l = ({ ((s.lnkLost l true).limitsLost l).modLane l fun x =>
      { x with vc := x.vc.map (fun e => (e.1, vcLeaveUp e.2)), evtLeft := true, v := 0, frameOk := false } with
        span := span, frame := frame } : State).ksLine lineLink :=
  ⟨_, _, if_pos hup⟩

/-- Such a lane has nothing left to acknowledge, and LEFT_UP is set. -/
theorem State.leaveUp_of_up {s : State} {l : Nat} (hup : (s.laneAt l).state = .up) :
    ∃ (vcs : Tab VcState) (drop : Word), (s.leaveUp l).laneAt l =
        { s.laneAt l with vc := vcs.map fun e => (e.1, vcLeaveUp e.2), cntDrop := drop, evtLeft := true, v := 0, frameOk := false } ∧
      (s.leaveUp l).out = s.out ∧ bit (s.leaveUp l).ks.pend lineLink = true := by
  obtain ⟨span, frame, heq⟩ := State.leaveUp_eq hup
  have hlost := (s.vcsKeep_lost l).lane l
  have hout := (State.limitsLost_out (s.lnkLost l true) l).trans (s.linkOnly_lnkLost l true).out_eq
  generalize (s.lnkLost l true).limitsLost l = lost at heq hlost hout
  rw [heq]
  refine ⟨(lost.laneAt l).vc, (lost.laneAt l).cntDrop, ?_, hout, bit_raised_lineLink lost.ks.pend⟩
  refine (State.laneAt_setLane_same lost l _).trans ?_
  rw [hlost]

/-- An UP lane enters RETRAIN. -/
theorem State.laneTo_retrain_of_up {s : State} {l : Nat} (hup : (s.laneAt l).state = .up) :
    let t := s.laneTo l .retrain
    (t.laneAt l).state = .retrain ∧ (t.laneAt l).attempt = 1 ∧ (t.laneAt l).evtLeft = true ∧
      (t.laneAt l).cause = (s.laneAt l).cause ∧ (t.laneAt l).cntBroken = (s.laneAt l).cntBroken ∧
      (∀ e ∈ (t.laneAt l).vc, e.2.replay = []) ∧ t.out = s.out ∧ bit t.ks.pend lineLink = true := by
  obtain ⟨vcs, drop, hlane, hout, hpend⟩ := State.leaveUp_of_up hup
  have heq : s.laneTo l .retrain = (s.leaveUp l).modLane l fun x =>
      { x with state := .retrain, tsCount := 0, ts2 := false, ts2Count := 0, locked := false, attempt := 1 } := by
    simp [State.laneTo]
  intro t
  have ht : t.laneAt l = _ := (congrArg (State.laneAt · l) heq).trans (State.laneAt_setLane_same _ _ _)
  rw [ht, hlane]
  refine ⟨rfl, rfl, rfl, rfl, rfl, ?_, ?_, ?_⟩
  · intro e he
    obtain ⟨e, -, rfl⟩ := List.mem_map.mp he
    rfl
  · exact (congrArg State.out heq).trans hout
  · exact (congrArg (fun u : State => bit u.ks.pend lineLink) heq).trans hpend

/-- From `s` to `t` the link of lane `l` has broken with `cause` (R422, R429). -/
def State.breaks (s t : State) (l : Lane) (cause : BitVec 4) : Prop :=
  (t.laneAt l.val).state = .retrain ∧ (t.laneAt l.val).cause = cause ∧ (t.laneAt l.val).attempt = 1 ∧
    (t.laneAt l.val).cntBroken = satAdd1 (s.laneAt l.val).cntBroken ∧ (t.laneAt l.val).evtLeft = true ∧
    bit t.ks.pend lineLink = true ∧ (∀ e ∈ (t.laneAt l.val).vc, e.2.replay = []) ∧ t.out = List.replicate 4 (.ctrl l 0x06 0 0 0) ++ s.out

theorem State.laneAt_sendRetrain (s : State) (l : Lane) (k : Nat) : (s.sendRetrain l).laneAt k = s.laneAt k :=
  State.foldl_field (State.laneAt · k) (fun t (_ : Nat) => (rfl : (t.sendCtrl l 0x06 0 0 0).laneAt k = t.laneAt k)) _ s

theorem State.sendRetrain_out (s : State) (l : Lane) :
    (s.sendRetrain l).out = List.replicate 4 (.ctrl l 0x06 0 0 0) ++ s.out := rfl

theorem State.breaks_linkBroken {s : State} {l : Lane} (hup : (s.laneAt l.val).state = .up) (cause : BitVec 4) :
    s.breaks (s.linkBroken l cause) l cause := by
  let counted : State := s.modLane l.val fun x => { x with cause := cause, cntBroken := satAdd1 x.cntBroken }
  have hlane : (counted.sendRetrain l).laneAt l.val =
      { s.laneAt l.val with cause := cause, cntBroken := satAdd1 (s.laneAt l.val).cntBroken } :=
    (counted.laneAt_sendRetrain l l.val).trans (s.laneAt_setLane_same l.val _)
  obtain ⟨hstate, hattempt, hleft, hcause, hcount, hreplay, hout, hpend⟩ :=
    State.laneTo_retrain_of_up (s := counted.sendRetrain l) (l := l.val) (by rw [hlane]; exact hup)
  rw [hlane] at hcause hcount
  exact ⟨hstate, hcause, hattempt, hcount, hleft, hpend, hreplay, hout.trans (counted.sendRetrain_out l)⟩

/-! ## Acknowledgement (R419, R422) -/

/-- How far SEQ lies from the oldest unacknowledged packet of a VC, or from the next to be sent. -/
def ackDist (c : VcState) (seq : BitVec 12) : Nat := (seq - (c.replay.head?.map (·.seq)).getD c.txSeq).toNat

theorem acked_eq (c : VcState) (seq : BitVec 12) :
    acked c seq =
      if ackDist c seq < c.replay.length then some (ackDist c seq + 1) else if 2048 ≤ ackDist c seq then some 0 else none := by
  unfold acked ackDist
  cases c.replay <;> rfl

/-- How many packets an ACK or NAK frees that is not for packets never sent: those up to its SEQ. -/
def ackFrees (c : VcState) (seq : BitVec 12) : Nat := if ackDist c seq < c.replay.length then ackDist c seq + 1 else 0

theorem acked_of_sent {c : VcState} {seq : BitVec 12} (h : ackDist c seq < c.replay.length ∨ 2048 ≤ ackDist c seq) :
    acked c seq = some (ackFrees c seq) := by
  unfold ackFrees
  rw [acked_eq]
  split
  · rfl
  next hlt => exact if_pos (h.resolve_left hlt)

theorem acked_of_never_sent {c : VcState} {seq : BitVec 12} (h : c.replay.length ≤ ackDist c seq) (h' : ackDist c seq < 2048) :
    acked c seq = none :=
  (acked_eq c seq).trans ((if_neg (Nat.not_lt.mpr h)).trans (if_neg (Nat.not_le.mpr h')))

/-- The `k` oldest unacknowledged packets of a VC are freed, and their POSTED requests complete. -/
def State.freeOldest (s : State) (l v k : Nat) : State :=
  ((s.vcAt l v).replay.take k).foldl State.pktFreed (s.setVc l v { s.vcAt l v with replay := (s.vcAt l v).replay.drop k })

theorem State.freeAcked_eq (s : State) (l v k : Nat) : s.freeAcked l v k = (s.freeOldest l v k).pump l v := rfl

section

variable {s : State} {l : Lane} {vc : Vc} {seq : BitVec 12}

theorem exec_ack_nak_of_down (h : (s.laneAt l.val).state ≠ .up ∨ (s.laneAt l.val).v ≤ vc.val) :
    exec (.ack l vc seq) s = .next s ∧ exec (.nak l vc seq) s = .next s := by
  have hdown : ¬ ((s.laneAt l.val).state = .up ∧ vc.val < (s.laneAt l.val).v) := fun ⟨hup, hvc⟩ =>
    h.elim (· hup) (Nat.not_le.mpr hvc)
  exact ⟨congrArg Host.Outcome.next (if_neg hdown), congrArg Host.Outcome.next (if_neg hdown)⟩

variable (hup : (s.laneAt l.val).state = .up) (hvc : vc.val < (s.laneAt l.val).v)

include hup hvc

/-- On an agreed VC of an UP lane, ACK and NAK go by what SEQ acknowledges. -/
theorem exec_ack_of_acked {k : Nat} (h : acked (s.vcAt l.val vc.val) seq = some k) :
    exec (.ack l vc seq) s = .next ((s.freeOldest l.val vc.val k).pump l.val vc.val) := by
  rw [State.vcAt] at h
  change execAck l vc seq s = _
  simp [execAck, hup, hvc, h, State.freeAcked_eq]

theorem exec_nak_of_acked {k : Nat} (h : acked (s.vcAt l.val vc.val) seq = some k) :
    exec (.nak l vc seq) s = .next (((s.freeOldest l.val vc.val k).replayVc l vc.val).pump l.val vc.val) := by
  rw [State.vcAt] at h
  change execNak l vc seq s = _
  simp [execNak, hup, hvc, h, State.freeOldest]

theorem exec_ack_nak_of_never_sent (h : (s.vcAt l.val vc.val).replay.length ≤ ackDist (s.vcAt l.val vc.val) seq)
    (h' : ackDist (s.vcAt l.val vc.val) seq < 2048) :
    exec (.ack l vc seq) s = .next s ∧ exec (.nak l vc seq) s = .next s := by
  have hnone := acked_of_never_sent h h'
  rw [State.vcAt] at hnone
  change execAck l vc seq s = _ ∧ execNak l vc seq s = _
  constructor
  · simp [execAck, hup, hvc, hnone]
  · simp [execNak, hup, hvc, hnone]

end

/-- A freed packet at most completes a request. -/
theorem State.pktFreed_cases (s : State) (p : TxPkt) : s.pktFreed p = s ∨ ∃ n, s.pktFreed p = s.lnkComplete n 0 := by
  unfold State.pktFreed
  split
  · exact .inl rfl
  · split
    · split
      · exact .inr ⟨_, rfl⟩
      · exact .inl rfl
    · exact .inl rfl

theorem State.vcsKeep_pktFreed {α : Type} {f : VcState → α} (hf : ∀ n c, f (detachVc n c) = f c) (s : State) (p : TxPkt) :
    s.vcsKeep f (s.pktFreed p) := by
  rcases s.pktFreed_cases p with h | ⟨n, h⟩
  · rw [h]
    exact .refl s
  · rw [h]
    exact s.vcsKeep_lnkComplete hf n 0

theorem State.linkOnly_pktFreed (s : State) (p : TxPkt) : s.linkOnly (s.pktFreed p) := by
  rcases s.pktFreed_cases p with h | ⟨n, h⟩
  · rw [h]
    exact .refl s
  · rw [h]
    exact s.linkOnly_lnkComplete n 0

theorem State.linkOnly_freeOldest (s : State) (l v k : Nat) : s.linkOnly (s.freeOldest l v k) :=
  (s.linkOnly_setVc l v _).trans (.foldl State.linkOnly_pktFreed _ _)

/-- What is left to acknowledge. -/
theorem State.unacked_freeOldest (s : State) (l v k : Nat) :
    ((s.freeOldest l v k).vcAt l v).unacked = sentOf ((s.vcAt l v).replay.drop k) := by
  have hkeep : State.vcsKeep VcState.unacked (s.setVc l v { s.vcAt l v with replay := (s.vcAt l v).replay.drop k })
      (s.freeOldest l v k) := .foldl (State.vcsKeep_pktFreed detachVc_unacked) _ _
  exact (hkeep.vcs l v).trans (congrArg VcState.unacked (s.vcAt_setVc_same l v _))

/-- Freeing packets leaves all of the lanes but their VCs and LINK_CNT_DROP. -/
theorem State.vcsKeep_freeOldest (s : State) (l v k : Nat) : s.vcsKeep (fun _ => ()) (s.freeOldest l v k) :=
  .trans (State.vcsKeep_setVc l v (c := { s.vcAt l v with replay := (s.vcAt l v).replay.drop k }) rfl)
    (.foldl (State.vcsKeep_pktFreed fun _ _ => rfl) _ _)

/-- An UP lane that sends adds to what is to be acknowledged. -/
theorem State.replay_pump {s : State} {l v : Nat} :
    ∃ new, ((s.pump l v).vcAt l v).replay = (s.vcAt l v).replay ++ new := by
  by_cases hup : (s.laneAt l).state = .up
  · obtain ⟨d, hsends, hpump⟩ := State.pump_of_up hup v
    obtain ⟨new, hnew⟩ := hsends.replay_eq
    refine ⟨new, ?_⟩
    rw [hpump, State.vcAt_setVc_same, hnew]
  · rw [State.pump_of_not_up hup]
    exact ⟨[], (List.append_nil _).symm⟩

@[simp] theorem sentOf_append (ps qs : List TxPkt) : sentOf (ps ++ qs) = sentOf ps ++ sentOf qs := List.map_append

theorem seqs_of_sentOf_eq {ps qs : List TxPkt} (h : sentOf ps = sentOf qs) : ps.map (·.seq) = qs.map (·.seq) := by
  have hfst := congrArg (List.map Prod.fst) h
  simpa only [sentOf, List.map_map, Function.comp_def] using hfst

/-- An ACK frees what it acknowledges, and waiting packets may take the credits. -/
theorem exec_ack_frees {s : State} {l : Lane} {vc : Vc} {seq : BitVec 12} (hup : (s.laneAt l.val).state = .up)
    (hvc : vc.val < (s.laneAt l.val).v)
    (hsent : ackDist (s.vcAt l.val vc.val) seq < (s.vcAt l.val vc.val).replay.length ∨ 2048 ≤ ackDist (s.vcAt l.val vc.val) seq) :
    ∃ (t : State) (new : List TxPkt), exec (.ack l vc seq) s = .next t ∧ s.linkOnly t ∧
      (t.vcAt l.val vc.val).replay.map (·.seq) =
        ((s.vcAt l.val vc.val).replay.drop (ackFrees (s.vcAt l.val vc.val) seq)).map (·.seq) ++ new.map (·.seq) := by
  have hexec := exec_ack_of_acked hup hvc (acked_of_sent hsent)
  generalize ackFrees (s.vcAt l.val vc.val) seq = k at hexec ⊢
  obtain ⟨new, hnew⟩ := State.replay_pump (s := s.freeOldest l.val vc.val k) (l := l.val) (v := vc.val)
  refine ⟨_, new, hexec, (s.linkOnly_freeOldest l.val vc.val k).trans (State.linkOnly_pump _ _ _), ?_⟩
  rw [hnew, List.map_append, seqs_of_sentOf_eq (s.unacked_freeOldest l.val vc.val k)]

/-! ## Replay (R421, R422) -/

/-- Some packet has been transmitted 5 times. -/
def Worn (ps : List TxPkt) : Prop := ∃ p ∈ ps, 5 ≤ p.sent

theorem worn_iff (ps : List TxPkt) : Worn ps ↔ ∃ e ∈ sentOf ps, 5 ≤ e.2 := by
  constructor
  · intro ⟨p, hp, hsent⟩
    exact ⟨(p.seq, p.sent), List.mem_map_of_mem hp, hsent⟩
  · intro ⟨e, he, hsent⟩
    obtain ⟨p, hp, rfl⟩ := List.mem_map.mp he
    exact ⟨p, hp, hsent⟩

theorem worn_iff_of_sentOf_eq {ps qs : List TxPkt} (h : sentOf ps = sentOf qs) : Worn ps ↔ Worn qs := by
  rw [worn_iff, h, ← worn_iff]

/-- A VC whose unacknowledged packets have each been sent once more. -/
def VcState.resent (c : VcState) : VcState := { c with replay := c.replay.map fun p => { p with sent := p.sent + 1 } }

theorem VcState.unacked_resent (c : VcState) : c.resent.unacked = c.unacked.map fun e => (e.1, e.2 + 1) := by
  simp [VcState.unacked, VcState.resent, sentOf]

section

variable {s : State} {l : Lane} {v : Nat}

theorem State.replayVc_of_worn (h : Worn (s.vcAt l.val v).replay) : s.replayVc l v = s.linkBroken l 5 := by
  obtain ⟨p, hp, hsent⟩ := h
  exact if_pos (List.any_eq_true.mpr ⟨p, hp, decide_eq_true hsent⟩)

/-- A replay counts in LINK_CNT_REPLAY and sends every unacknowledged packet once more. -/
theorem State.replayVc_of_not_worn (h : ¬ Worn (s.vcAt l.val v).replay) :
    s.replayVc l v = s.setLane l.val (LaneSt.setVc { s.laneAt l.val with
      cntReplay := w32 (min (2 ^ 32 - 1) ((s.laneAt l.val).cntReplay.toNat + (s.vcAt l.val v).replay.length)) } v
        (s.vcAt l.val v).resent) := by
  have hany : ¬ (s.vcAt l.val v).replay.any (fun p => decide (5 ≤ p.sent)) = true := fun hany =>
    have ⟨p, hp, hsent⟩ := List.any_eq_true.mp hany
    h ⟨p, hp, of_decide_eq_true hsent⟩
  refine (if_neg hany).trans ?_
  simp only [State.setVc_eq, State.laneAt_setLane_same, State.setLane_setLane]
  rfl

end

section

variable {s : State} {l : Lane} {v k : Nat} (hup : (s.laneAt l.val).state = .up)

include hup

theorem State.freeOldest_up : ((s.freeOldest l.val v k).laneAt l.val).state = .up :=
  (congrArg LaneSt.state ((s.vcsKeep_freeOldest l.val v k).lane l.val)).trans hup

/-- When a packet that stays has been sent 5 times, its replay breaks the link. -/
theorem State.breaks_replay_freeOldest (hworn : Worn ((s.vcAt l.val v).replay.drop k)) :
    s.breaks (((s.freeOldest l.val v k).replayVc l v).pump l.val v) l 5 := by
  have hcount : ((s.freeOldest l.val v k).laneAt l.val).cntBroken = (s.laneAt l.val).cntBroken :=
    (congrArg LaneSt.cntBroken ((s.vcsKeep_freeOldest l.val v k).lane l.val) :)
  have hbreaks : (s.freeOldest l.val v k).breaks ((s.freeOldest l.val v k).linkBroken l 5) l 5 :=
    State.breaks_linkBroken (State.freeOldest_up hup) 5
  rw [State.replayVc_of_worn ((worn_iff_of_sentOf_eq (s.unacked_freeOldest l.val v k)).mpr hworn),
    State.pump_of_not_up (by rw [hbreaks.1]; nofun)]
  unfold State.breaks at hbreaks ⊢
  rwa [hcount, (s.linkOnly_freeOldest l.val v k).out_eq] at hbreaks

/-- Otherwise what stays is sent once more, in order, and the lane stays UP. -/
theorem State.replayVc_freeOldest (hworn : ¬ Worn ((s.vcAt l.val v).replay.drop k)) :
    let t := (s.freeOldest l.val v k).replayVc l v
    (t.laneAt l.val).state = .up ∧ s.linkOnly t ∧
      (t.vcAt l.val v).unacked = ((s.vcAt l.val v).replay.drop k).map fun p => (p.seq, p.sent + 1) := by
  have hsent := s.unacked_freeOldest l.val v k
  have hreplayed := State.replayVc_of_not_worn ((not_congr (worn_iff_of_sentOf_eq hsent)).mpr hworn)
  intro t
  have hlane : t.laneAt l.val = _ := (congrArg (State.laneAt · l.val) hreplayed).trans (State.laneAt_setLane_same _ _ _)
  refine ⟨?_, ?_, ?_⟩
  · rw [hlane]
    exact State.freeOldest_up hup
  · unfold t
    rw [hreplayed]
    exact (s.linkOnly_freeOldest l.val v k).trans (State.linkOnly_setLane _ _ _)
  · rw [State.vcAt, hlane, LaneSt.vcAt_setVc_same, VcState.unacked_resent, hsent]
    simp only [sentOf, List.map_map, Function.comp_def]

end

section

variable {s : State} {l : Lane} {vc : Vc} {seq : BitVec 12} (hup : (s.laneAt l.val).state = .up)
  (hvc : vc.val < (s.laneAt l.val).v)
  (hsent : ackDist (s.vcAt l.val vc.val) seq < (s.vcAt l.val vc.val).replay.length ∨ 2048 ≤ ackDist (s.vcAt l.val vc.val) seq)

include hup hvc hsent

/-- A NAK whose rest has been sent 5 times breaks the link. -/
theorem exec_nak_breaks (hworn : Worn ((s.vcAt l.val vc.val).replay.drop (ackFrees (s.vcAt l.val vc.val) seq))) :
    ∃ t, exec (.nak l vc seq) s = .next t ∧ s.breaks t l 5 :=
  ⟨_, exec_nak_of_acked hup hvc (acked_of_sent hsent), State.breaks_replay_freeOldest hup hworn⟩

/-- Any other NAK replays the rest in order, and waiting packets may take the credits it has freed. -/
theorem exec_nak_replays (hworn : ¬ Worn ((s.vcAt l.val vc.val).replay.drop (ackFrees (s.vcAt l.val vc.val) seq))) :
    ∃ (t : State) (new : List TxPkt), exec (.nak l vc seq) s = .next t ∧ (t.laneAt l.val).state = .up ∧ s.linkOnly t ∧
      (t.vcAt l.val vc.val).unacked =
        (((s.vcAt l.val vc.val).replay.drop (ackFrees (s.vcAt l.val vc.val) seq)).map fun p => (p.seq, p.sent + 1)) ++ sentOf new := by
  have hexec := exec_nak_of_acked hup hvc (acked_of_sent hsent)
  obtain ⟨hstate, honly, hunacked⟩ := State.replayVc_freeOldest hup hworn
  generalize (s.freeOldest l.val vc.val _).replayVc l vc.val = u at hexec hstate honly hunacked
  obtain ⟨new, hnew⟩ := u.replay_pump (l := l.val) (v := vc.val)
  refine ⟨_, new, hexec, ?_, honly.trans (u.linkOnly_pump l.val vc.val), ?_⟩
  · exact (congrArg LaneSt.state ((u.vcsKeep_pump_rx l.val vc.val).lane l.val)).trans hstate
  · rw [← hunacked, VcState.unacked, hnew, sentOf_append, VcState.unacked]

end

/-! ## Timers (R419, R421, R424, R433) -/

section

variable {s : State} {l : Lane} {vc : Vc}

theorem exec_replayTimer_of_held (hup : (s.laneAt l.val).state = .up) (hheld : (s.vcAt l.val vc.val).replay ≠ []) :
    exec (.replayTimer l vc) s = .next (s.replayVc l vc.val) :=
  congrArg Host.Outcome.next (if_pos ⟨hup, hheld⟩)

theorem exec_creditTimeout_of_held (hup : (s.laneAt l.val).state = .up) (hheld : (s.vcAt l.val vc.val).replay ≠ []) :
    exec (.creditTimeout l vc) s = .next (s.linkBroken l 6) :=
  congrArg Host.Outcome.next (if_pos ⟨hup, hheld⟩)

theorem exec_timers_of_idle (h : (s.laneAt l.val).state ≠ .up ∨ (s.vcAt l.val vc.val).replay = []) :
    exec (.replayTimer l vc) s = .next s ∧ exec (.creditTimeout l vc) s = .next s := by
  have hidle : ¬ ((s.laneAt l.val).state = .up ∧ (s.vcAt l.val vc.val).replay ≠ []) := fun ⟨hup, hheld⟩ => h.elim (· hup) hheld
  exact ⟨congrArg Host.Outcome.next (if_neg hidle), congrArg Host.Outcome.next (if_neg hidle)⟩

theorem exec_ackTimer_of_due (hup : (s.laneAt l.val).state = .up) (hdue : 0 < (s.vcAt l.val vc.val).sinceAck) :
    exec (.ackTimer l vc) s = .next (s.sendAck l vc.val) :=
  congrArg Host.Outcome.next (if_pos ⟨hup, hdue⟩)

theorem exec_ackTimer_of_idle (h : (s.laneAt l.val).state ≠ .up ∨ (s.vcAt l.val vc.val).sinceAck = 0) :
    exec (.ackTimer l vc) s = .next s :=
  congrArg Host.Outcome.next (if_neg fun ⟨hup, hdue⟩ => h.elim (· hup) (Nat.ne_of_gt hdue))

end

/-! ## Stamps (R416) -/

/-- Between `s` and `t` only what a stamp can change has changed: TIME with what casks have used, the lanes, the span unit, and what was
sent. -/
def State.stampOnly (s t : State) : Prop :=
  t = { s with clk := { s.clk with time := t.clk.time }, casks := t.casks, lanes := t.lanes, span := t.span, out := t.out }

theorem State.stampOnly.trans {s t u : State} (hst : s.stampOnly t) (htu : t.stampOnly u) : s.stampOnly u := by
  unfold State.stampOnly at hst htu ⊢
  rw [hst] at htu
  exact htu

theorem State.stampOnly_atTime (s : State) (now : Time) : s.stampOnly (s.atTime now) := by
  unfold State.atTime State.advance
  split <;> rfl

theorem State.atTime_lanes (s : State) (now : Time) : (s.atTime now).lanes = s.lanes := by
  unfold State.atTime State.advance
  split <;> rfl

/-- A message on one lane is at most one packet put in its queue. -/
theorem State.spanPut_single (s : State) (l : Nat) (mtype : Byte) (m : SpanMsg) :
    s.spanPut [l] mtype m = s ∨ ∃ p, s.spanPut [l] mtype m = s.enqueue l 0 p := by
  unfold State.spanPut
  split
  · exact .inl rfl
  · exact .inr ⟨_, rfl⟩

theorem State.spanEmit_single (s : State) (l : Nat) (mtype : Byte) (dst : Nat) (body : Bytes) :
    s.stampOnly (s.spanEmit [l] mtype dst body) ∧ (s.spanEmit [l] mtype dst body).clk = s.clk ∧
      s.vcsKeep VcState.rx (s.spanEmit [l] mtype dst body) := by
  let u : State := { s with span := { s.span with mseq := s.span.mseq + 1 } }
  have hu : s.stampOnly u := rfl
  have hkeep : s.vcsKeep VcState.rx u := State.vcsKeep_of_lanes rfl
  unfold State.spanEmit
  rcases State.spanPut_single u l mtype _ with heq | ⟨p, heq⟩
  · rw [heq]
    exact ⟨hu, rfl, hkeep⟩
  · have hframe := u.enqueue_frame l 0 p
    rw [heq]
    refine ⟨hu.trans ?_, ?_, hkeep.trans (u.vcsKeep_enqueue_rx l 0 p)⟩
    · unfold State.stampOnly
      rw [hframe]
    · rw [hframe]

/-- An answer to a stamp leaves the stamp latched. -/
theorem State.stampAnswer_latched (s : State) (l : Lane) (param : BitVec 16) :
    let t := s.stampAnswer l param
    s.stampOnly t ∧ t.clk = s.clk ∧ (t.laneAt l.val).stampRx = (s.laneAt l.val).stampRx ∧
      (t.laneAt l.val).stampRxId = (s.laneAt l.val).stampRxId := by
  unfold State.stampAnswer
  split
  · exact ⟨rfl, rfl, rfl, rfl⟩
  · split
    · exact ⟨rfl, rfl, rfl, rfl⟩
    · extract_lets t s1
      have hs1 : s.stampOnly s1 := rfl
      have hlane : s1.laneAt l.val = { s.laneAt l.val with stampTx := t, stampTxId := param } := State.laneAt_setLane_same ..
      obtain ⟨honly, hclk, hkeep⟩ := s1.spanEmit_single l.val 0x12 (tget s1.span.links l.val {}).peer
        (leBytes 2 param.toNat ++ [0, 0] ++ leBytes 8 t.toNat ++ leBytes 8 t.toNat)
      have hkept := hkeep.lane l.val
      rw [hlane] at hkept
      exact ⟨hs1.trans honly, hclk, (congrArg LaneSt.stampRx hkept :), (congrArg LaneSt.stampRxId hkept :)⟩

/-- STAMP on an UP lane latches TIME and PARAM. -/
theorem execStamp_of_up {s : State} {l : Lane} (hup : (s.laneAt l.val).state = .up) (param : BitVec 16) (now : Time) :
    ∃ t, execStamp l param now s = .next t ∧ (t.laneAt l.val).stampRx = t.clk.time ∧ (t.laneAt l.val).stampRxId = param ∧
      s.stampOnly t := by
  have hlanes := s.atTime_lanes now
  have hstate : ((s.atTime now).laneAt l.val).state = .up := by rwa [State.laneAt, hlanes]
  let u : State := (s.atTime now).modLane l.val fun x => { x with stampRx := (s.atTime now).clk.time, stampRxId := param }
  have hlane : u.laneAt l.val = { (s.atTime now).laneAt l.val with stampRx := (s.atTime now).clk.time, stampRxId := param } :=
    State.laneAt_setLane_same ..
  have hu : (s.atTime now).stampOnly u := rfl
  obtain ⟨honly, hclk, hrx, hid⟩ := u.stampAnswer_latched l param
  rw [hlane] at hrx hid
  refine ⟨u.stampAnswer l param, congrArg Host.Outcome.next (if_pos hstate), ?_, hid, (s.stampOnly_atTime now).trans (hu.trans honly)⟩
  rw [hrx, hclk]
  rfl

end Sys2Proof.Machine

namespace Sys2Proof.Proofs

open Sys2Proof Sys2Proof.Machine

/-- Settles O50: every data packet goes by R414 and R418 before its consumer sees it, and no consumer touches EXP or the NAK; requests
that complete when packets are freed change neither SEQ nor the count of transmissions of what stays, so a NAK breaks the link exactly
when one of the packets that stay has been sent 5 times. -/
theorem linkSequence : Obligations.LinkSequence := by
  intro s l x at' lane tells broken
  refine ⟨?packet, fun hup => congrArg Host.Outcome.next (if_pos hup), fun hup => congrArg Host.Outcome.next (if_neg hup), ?control,
    fun param now hup => execStamp_of_up hup param now⟩
  case packet =>
    intro p v c d put i hi
    obtain ⟨deliver, hexec, hkeep⟩ := exec_bringsPacket hi
    refine ⟨fun hup => ?idle, fun hup hbad => ?bad, fun hup hv hlen => ?passes⟩
    case idle => rw [hexec, State.rxPacket_of_not_up hup]
    case bad => exact (hexec s).trans (congrArg Host.Outcome.next (State.rxPacket_of_bad hup hbad))
    case passes =>
      have hpass : s.passes l p := ⟨hup, hv, hlen⟩
      refine ⟨fun hd => ?next, fun h1 h2 hnak => ?outstanding, fun h1 h2 hnak => ?gap, fun h2 => ?duplicate⟩
      case next =>
        have hnext : exec i s = .next (deliver (s.rxAccept l v)) := by rw [hexec, State.rxPacket_of_next hpass hd]
        have hrx : ((deliver (s.rxAccept l v)).vcAt l.val v).rx = (c.exp + 1, false) :=
          ((hkeep _).vcs l.val v).trans (s.rxAccept_rx l v)
        refine ⟨_, hnext, congrArg Prod.fst hrx, congrArg Prod.snd hrx, fun hreq => ?_⟩
        have hdrop : exec (.req l p) s = .next ((s.rxAccept l v).countDrop l.val) :=
          congrArg Host.Outcome.next (State.rxPacket_of_next hpass hd)
        rw [hreq, hdrop] at hnext
        rw [← Host.Outcome.next.inj hnext]
        exact s.countDrop_rxAccept l v
      case outstanding =>
        rw [hexec, State.rxPacket_of_gap hpass h1 h2]
        exact congrArg Host.Outcome.next (if_pos hnak)
      case gap =>
        rw [hexec, State.rxPacket_of_gap hpass h1 h2]
        exact congrArg Host.Outcome.next (if_neg (ne_true_of_eq_false hnak))
      case duplicate => exact (hexec s).trans (congrArg Host.Outcome.next (State.rxPacket_of_duplicate hpass h2))
  case control =>
    intro vc seq v c k freed stays worn
    refine ⟨exec_ack_nak_of_down, exec_ack_nak_of_never_sent,
      fun hup hv hk => ⟨exec_ack_frees hup hv hk, exec_nak_replays hup hv hk, exec_nak_breaks hup hv hk⟩,
      fun hup hheld => ⟨fun hworn => ?worn, fun hfit => ?replay, ?credit⟩, exec_timers_of_idle, exec_ackTimer_of_due,
      exec_ackTimer_of_idle⟩
    case worn =>
      have hbroken := exec_replayTimer_of_held hup hheld
      rw [State.replayVc_of_worn hworn] at hbroken
      exact ⟨_, hbroken, State.breaks_linkBroken hup 5⟩
    case credit => exact ⟨_, exec_creditTimeout_of_held hup hheld, State.breaks_linkBroken hup 6⟩
    case replay =>
      have hfits : ¬ Worn c.replay := fun ⟨q, hq, hsent⟩ => Nat.not_lt.mpr hsent (hfit q hq)
      exact (exec_replayTimer_of_held hup hheld).trans (congrArg Host.Outcome.next (State.replayVc_of_not_worn hfits))

end Sys2Proof.Proofs
end
